-- ==== Sys2Proof/Word.lean ====
section
/-!
DEFINITION. Sys2Proof/Word.lean: the word types of the QK960 model (R8, R9, R11, R16, R382) and the
shape of its sparse tables. What is computed over them stands in Machine/Bits.lean.
-/

namespace Sys2Proof

/-- One byte (R9: byte 0 lies at the lowest address of a little-endian field). -/
abbrev Byte := BitVec 8

/-- One register word of 32 bits (R16). -/
abbrev Word := BitVec 32

/-- The bit pattern of an IEEE 754 binary32 number (R11). -/
abbrev F32 := BitVec 32

/-- One general register of a Vent or Mudpot context (R382). -/
abbrev VReg := BitVec 64

/-- Sparse data by number: pairs of a key and a value, keys strictly rising. -/
abbrev Tbl (α : Type) := List (Nat × α)

end Sys2Proof
end

