-- ==== Sys2Proof/Syntax.lean ====
section
/-!
DEFINITION. Sys2Proof/Syntax.lean: the commands of the QK960, one constructor of `Instr` for each row
of spec/opcode_table.json, in the table's order. A host command's row carries the header its packet
arrived with (`CmdHdr`) and the packet's body fields under their names of R562 to R573; a fabric
message's row carries the message; the row of a step that the device takes by itself names the object
it acts on and what the world outside the model supplies to it.
-/

namespace Sys2Proof

/-- What a taken command packet's header and stamp say (R549, R552): its command channel, the
PARTITION its header names, its TAG, the ledger number and the tick of its arrival stamp. -/
structure CmdHdr where
  chan : Nat
  part : Nat
  tag : Nat
  seq : Nat
  tick : Nat
  deriving DecidableEq, Repr

/-- The parameters of SESSION_SET_SAMPLING after HANDLE (R562), also the sampling part of a control
page (R322). Binary32 fields are bit patterns. -/
structure Sampling where
  cls : Nat
  newGen : Nat
  streamOpt : Nat
  penScope : Nat
  topK : Nat
  grammar : Nat
  temp : F32
  topP : F32
  minP : F32
  repPen : F32
  freqPen : F32
  presPen : F32
  seed : Nat
  hostTopn : Nat
  hostDeadline : Nat
  deriving DecidableEq, Repr

/-- The fields of STORE_CREATE (R351, R567). -/
structure StoreParams where
  metric : Nat
  rerankFmt : Nat
  rounds : Nat
  dim : Nat
  dsub : Nat
  deg0 : Nat
  deg : Nat
  efBuild : Nat
  capacity : Nat
  mergeAt : Nat
  sideMax : Nat
  deriving DecidableEq, Repr

/-- The fields of VEC_QUERY after STORE (R366, R567). -/
structure QueryParams where
  k : Nat
  count : Nat
  ef : Nat
  rerank : Nat
  deadline : Nat
  filtMask : Nat
  filtValue : Nat
  deriving DecidableEq, Repr

/-- The fields of PARTITION_CONFIG after PARTITION_T (R569). -/
structure PartCfg where
  pflags : Nat
  capMode : Nat
  publicDomain : Nat
  rtvStores : Nat
  slotMask : Nat
  sessBase : Nat
  sessCount : Nat
  hbmFrames : Nat
  tephraUnits : Nat
  pfxBuckets : Nat
  adpBase : Nat
  adpCount : Nat
  adpQuota : Nat
  chanBase : Nat
  chanCount : Nat
  cmdShare : Nat
  deriving DecidableEq, Repr

/-- The fields of SHAPER_CONFIG after PARTITION_T (R487, R569): `classes` are COST and BURST of
classes 1 to 5 in order. -/
structure ShaperCfg where
  flowGroups : Nat
  subBase : Nat
  flow : Nat
  subBytes : Nat
  subCost : Nat
  subBurst : Nat
  classes : List (Nat × Nat)
  deriving DecidableEq, Repr

/-- One object-list entry of a launch (R387): TYPE, INDEX, HANDLE. -/
structure ObjEntry where
  type : Nat
  index : Nat
  handle : Nat
  deriving DecidableEq, Repr

/-- The launch descriptor of R394. -/
structure LaunchDesc where
  package : Nat
  pool : Nat
  contexts : Nat
  argBase : Nat
  argStride : Nat
  objCount : Nat
  partition : Nat
  budget : Nat
  objList : Nat
  tag : Nat
  deriving DecidableEq, Repr

/-- A fabric message as it arrives: the header of R459 and the body bytes that follow it. -/
structure FabMsg where
  dest : Nat
  src : Nat
  type : Nat
  part : Nat
  sub : Nat
  length : Nat
  tag : Nat
  status : Nat
  handle : Nat
  body : List Byte
  deriving DecidableEq, Repr

/-- A record of a Lahar stream in clear (R517, R518): the header's fields and the body. -/
structure LahRec where
  rtype : Nat
  part : Nat
  lost : Bool
  destroy : Bool
  handle : Nat
  layer : Nat
  fmt : Nat
  cmp : Bool
  first : Nat
  count : Nat
  body : List Byte
  deriving DecidableEq, Repr

/-- A LAHAR_DELTA, RELEASE_LOG or LAHAR_ACK as it arrives (R470, R471): the common header and the
plaintext that opening it yields. `opens` says whether the GCM tag verifies under a held replication
key (R472); the cipher itself is not in the spec's files. -/
structure LahMsg where
  src : Nat
  type : Nat
  tag : Nat
  part : Nat
  sub : Nat
  seq : Nat
  epoch : Nat
  opens : Bool
  recs : List LahRec
  deriving DecidableEq, Repr

/-- The units of R49. -/
inductive UnitKind where
  | pipeline | mover | ventCluster | bankGroup | link | channel | codec | sampler | adc | spmPort
  | prefixIndex | modelEngine | snapshotEngine | mgmtCore
  deriving DecidableEq, Repr

/-- The slot classes of R52. -/
inductive SlotClass where
  | idle | fg | mover | merge | kernel | svc | bg
  deriving DecidableEq, Repr

/-- The class codes of R52. -/
def SlotClass.code : SlotClass → Nat
  | .idle => 0
  | .fg => 1
  | .mover => 2
  | .merge => 3
  | .kernel => 4
  | .svc => 5
  | .bg => 6

/-- One slot of a frame plan (R50) with its admission-table entry (R60, R61, R63, R70): the frame index
of its tick, its interval, the unit it is bound to (a pipeline slot's unit is its pipeline group), the
models it names, its limits, the stacks it names and the bursts that it holds of each (R51), the Caldera bank groups and the on-die
network links that its transfer uses (R50), its partition mask (`none`: any), its paired MOVER slot's index in the plan, and for a
BG slot its activity (R668). -/
structure Slot where
  kind : UnitKind
  unit : Nat
  cls : SlotClass
  index : Nat
  start : Nat
  length : Nat
  models : List Nat
  limQ : Nat
  limP : Nat
  limN : Nat
  limM : Nat
  stackSet : List Nat
  bursts : List (Nat × List Nat)
  bankGroups : List Nat
  links : List Nat
  mask : Option (List Nat)
  pair : Option Nat
  activity : Nat
  deriving DecidableEq, Repr

/-- A frame plan as the checker reads it (R56): header fields, slots, pools, retired sets, inventory. The
byte layout of the sections behind the header stands in no file of the spec. `bgAssign` holds BG_ASSIGN's eight masks, `pairing` the
data mover of each pipeline group (R49, R62), `ledgerBudget` counts ledger records per tick, `captureFrames` are the frames of the
capture area (R609), `rtvPool` is the retrieval Vent pool (R367), `sigHead` bytes 0 to 47 of the signature block (R642). -/
structure Plan where
  groupSize : Nat
  planId : Nat
  retiredMaskId : Nat
  cutoff : Nat
  thawBudget : Nat
  bgAssign : List Nat
  slots : List Slot
  pairing : List Nat
  pools : List (List Nat)
  openPools : List Nat
  rtvPool : Nat
  retiredPipes : List Nat
  retiredClusters : List Nat
  retiredPcs : List Nat
  ledgerBudget : Nat
  inventoryOk : Bool
  windowBytes : Nat
  arenaBytes : Nat
  captureFrames : List Nat
  sigHead : List Byte
  deriving DecidableEq, Repr

/-- Integer-class operations of R384. `illegal` stands for a func the class does not assign. -/
inductive IntOp where
  | add | sub | mul | div | rem | and | or | xor | shl | shr | sar | setLt | setLtu | setEq | setNe
  | loadUpper | illegal
  deriving DecidableEq, Repr

/-- Control-class operations of R384. -/
inductive CtlOp where
  | beq | bne | blt | bge | bltu | bgeu | jump | jumpLink | jumpReg | illegal
  deriving DecidableEq, Repr

/-- Atomic-class operations of R384 and R390. -/
inductive AtomicOp where
  | fetchAdd | swap | cas | illegal
  deriving DecidableEq, Repr

/-- Vector-class operations of R384. -/
inductive VecOp where
  | add | sub | mul | fma | and | or | xor | min | max | cmpEq | cmpLt | select | shuffle | hsum | illegal
  deriving DecidableEq, Repr

/-- Element types of R384, with the FP8 variant given apart. -/
inductive ElemType where
  | int8 | int16 | int32 | int64 | bf16 | f16 | f32 | e4m3 | e5m2
  deriving DecidableEq, Repr

/-- The second operand of an integer instruction (R383): a register (RR) or a signed immediate (RI). -/
inductive Src2 where
  | reg (r : Nat)
  | imm (i : BitVec 16)
  deriving DecidableEq, Repr

/-- A context of a Vent core (`mudpot` false, core 0 to 4,095, context 0 to 15) or of a Mudpot core
(`mudpot` true, core = 32 × stack + core, context 0 to 3) (R379, R399). -/
structure CtxId where
  mudpot : Bool
  core : Nat
  ctx : Nat
  deriving DecidableEq, Repr

/-- A codeword of the outer code: the frame, the granule of the frame and the codeword (R418, R597). -/
structure CwAddr where
  frame : Nat
  granule : Nat
  word : Nat
  deriving DecidableEq, Repr

/-- Errors that a read of a codeword meets (R423 to R425): the codeword, the erroneous lanes with the bits that differ in each of its 16
beats (bit t is beat t), and the severity that the stack reports: 0 NONE, 1 CORRECTED, 2 UNCORRECTED. -/
structure CwErr where
  cw : CwAddr
  lanes : List (Nat × Nat)
  sev : Nat
  deriving DecidableEq, Repr

/-- The commands and events of the device, one constructor per row of spec/opcode_table.json. -/
inductive Instr where
  | sessionCreate (h : CmdHdr) (model mode sinkPages adapter : Nat) (tau : F32) (topkK recentPages : Nat)
  | sessionDestroy (h : CmdHdr) (handle : Nat)
  | sessionFork (h : CmdHdr) (handle seed : Nat)
  | sessionPark (h : CmdHdr) (handle pflags : Nat)
  | sessionSetSelect (h : CmdHdr) (handle mode sinkPages topkK recentPages : Nat) (tau : F32)
  | sessionSetAdapter (h : CmdHdr) (handle adapter : Nat)
  | sessionSetSampling (h : CmdHdr) (handle : Nat) (p : Sampling)
  | sessionInfo (h : CmdHdr) (handle : Nat)
  | modelLoad (h : CmdHdr) (object length : Nat)
  | modelData (h : CmdHdr) (object offset : Nat) (data : List Byte)
  | modelCommit (h : CmdHdr) (object : Nat) (digest : List Byte)
  | modelUnload (h : CmdHdr) (object : Nat)
  | modelGrant (h : CmdHdr) (model : Nat) (mask : BitVec 256)
  | modelBind (h : CmdHdr) (firstPipe size model : Nat)
  | switchPhaseEnd (firstPipe : Nat) (failed : Option Nat)
  | adapterLoad (h : CmdHdr) (object length : Nat)
  | adapterData (h : CmdHdr) (object offset : Nat) (data : List Byte)
  | adapterCommit (h : CmdHdr) (object : Nat) (digest : List Byte)
  | adapterDrop (h : CmdHdr) (object : Nat)
  | sinterFormatSet (h : CmdHdr) (fmt kind run dk dv refMax denseKeep rounds : Nat)
  | sinterMapSet (h : CmdHdr) (model : Nat) (map : List Byte)
  | prefixInsert (h : CmdHdr) (handle domain piflags firstBlock : Nat) (ids : List Nat)
  | prefixAttach (h : CmdHdr) (handle firstBlock : Nat) (ids : List Nat)
  | prefixAttachPhase (seq : Nat)
  | prefixDomainConfig (h : CmdHdr) (domain opn buckets : Nat)
  | tokenize (h : CmdHdr) (handle tflags : Nat) (text : List Byte)
  | hostChoice (h : CmdHdr) (handle position token : Nat)
  | stopSet (h : CmdHdr) (handle ids strings : Nat) (idSlots : List Nat) (entries : List (Nat × List Byte))
  | vocabLoad (h : CmdHdr) (object length : Nat)
  | vocabData (h : CmdHdr) (object offset : Nat) (data : List Byte)
  | vocabCommit (h : CmdHdr) (object : Nat) (digest : List Byte)
  | vocabAssign (h : CmdHdr) (model slot : Nat)
  | vocabUnload (h : CmdHdr) (object : Nat)
  | grammarLoad (h : CmdHdr) (object length : Nat)
  | grammarData (h : CmdHdr) (object offset : Nat) (data : List Byte)
  | grammarCommit (h : CmdHdr) (object : Nat) (digest : List Byte)
  | grammarDrop (h : CmdHdr) (object : Nat)
  | storeCreate (h : CmdHdr) (localNo : Nat) (p : StoreParams)
  | storeDrop (h : CmdHdr) (store : Nat)
  | storeMerge (h : CmdHdr) (store : Nat)
  | vecInsert (h : CmdHdr) (store count user : Nat) (comps : List (BitVec 16))
  | vecDelete (h : CmdHdr) (store vid : Nat)
  | vecQuery (h : CmdHdr) (store : Nat) (q : QueryParams) (comps : List (BitVec 16))
  | queryComplete (seq cycle : Nat)
  | recoveryGroupSet (h : CmdHdr) (ringId members self shadowSlots predAddr buddyAddr releaseTicks : Nat)
  | failover (h : CmdHdr)
  | takeover (h : CmdHdr) (buddyAddr ringId epoch self : Nat)
  | checkpointWrite (h : CmdHdr) (epoch imageSlot : Nat)
  | checkpointRestore (h : CmdHdr) (ringId imageSlot oldMembers newMembers newIndex : Nat)
  | partitionConfig (h : CmdHdr) (partitionT : Nat) (c : PartCfg)
  | partitionReset (h : CmdHdr) (partitionT : Nat)
  | partitionResetResume (partitionT : Nat)
  | partitionFence (h : CmdHdr) (partitionT fence : Nat)
  | tierTargetConfig (h : CmdHdr) (slot planeMask addr capacity : Nat)
  | fabricRouteSet (h : CmdHdr) (index role planeMask addr : Nat)
  | shaperConfig (h : CmdHdr) (partitionT : Nat) (c : ShaperCfg)
  | shaperMode (h : CmdHdr) (mode : Nat)
  | planLoad (h : CmdHdr) (plflags offset total : Nat) (data : List Byte)
  | planCheckDone (plan : Plan)
  | planSwap (h : CmdHdr) (tick : Nat)
  | kernelLoad (h : CmdHdr) (object length : Nat)
  | kernelData (h : CmdHdr) (object offset : Nat) (data : List Byte)
  | kernelCommit (h : CmdHdr) (object : Nat) (digest : List Byte)
  | kernelDrop (h : CmdHdr) (object : Nat)
  | kernelLaunch (h : CmdHdr) (d : LaunchDesc) (objs : List ObjEntry)
  | launchPlace (seq : Nat)
  | launchComplete (seq : Nat)
  | hbmRetire (h : CmdHdr) (pseudoChannel : Nat)
  | bandRelocate (frame : Nat)
  | granuleMove (granules : Nat)
  | fwLoad (h : CmdHdr) (object length : Nat)
  | fwData (h : CmdHdr) (object offset : Nat) (data : List Byte)
  | fwCommit (h : CmdHdr) (object : Nat) (digest : List Byte)
  | fwHandover (h : CmdHdr)
  | fwHandoverStart
  | attest (h : CmdHdr) (nonce : List Byte)
  | attestDone (part : Nat)
  | keyDeliver (h : CmdHdr) (kind keygen : Nat) (ciphertext wrap : List Byte)
  | operatorKeySet (h : CmdHdr) (key : List Byte)
  | telemetryRead (h : CmdHdr)
  | latencyToleranceSet (h : CmdHdr) (scope toleranceUs : Nat)
  | packetArrival (cycle : Nat) (bytes : List Byte)
  | window (cycle chan credits : Nat)
  | commandIntake
  | attnReq (port cycle : Nat) (m : FabMsg)
  | appendOnly (port cycle : Nat) (m : FabMsg)
  | logits (port cycle : Nat) (m : FabMsg)
  | adapterGather (port cycle : Nat) (m : FabMsg)
  | gatherDataSend (bytes : Nat)
  | tierAck (port cycle : Nat) (m : FabMsg)
  | laharDelta (port cycle : Nat) (m : LahMsg)
  | releaseLog (port cycle : Nat) (m : LahMsg)
  | laharAck (port cycle : Nat) (m : LahMsg)
  | epochCommit (epoch : Nat)
  | tickBoundary
  | manifestPrepare
  | layerBatch (slot : Nat) (decay : List CwErr)
  | mergeSlot (slot : Nat) (decay : List CwErr)
  | controlPageThaw (handle : Nat)
  | stateDecode (spn : Nat)
  | sampleStep (seq : Nat)
  | tokenRelease (handle : Nat)
  | forkComplete (seq : Nat)
  | thawExpiry (seq : Nat)
  | responseExpiry (seq : Nat)
  | hostDeadlineExpiry (seq : Nat)
  | epochTimer
  | epochOwnTimer
  | epochCut
  | capture (n : Nat)
  | releaseTimerExpiry (recSeq : Nat)
  | deltaTimerExpiry (recSeq : Nat)
  | laharKeepalive
  | predSuspect
  | gatherExpiry (tag : Nat)
  | launchBudgetExpiry (seq : Nat)
  | queryExpiry (seq : Nat)
  | slotLost (slot : Nat) (reported pathsDown : Bool)
  | codedRunRetry (entry layer : Nat)
  | agePark
  | trafficHandover (queue now : Nat)
  | portTransmit (port : Nat)
  | writeGrantRequest (c : CtxId) (spn frame : Nat) (raw : Bool) (cycle : Nat)
  | summaryBuild (entry layer index : Nat)
  | bookBuild (domain model layer : Nat)
  | runEncode (entry layer first : Nat)
  | mergeRound (store : Nat)
  | pendClear (store : Nat)
  | scrubPass (finds : List CwErr) (finished : Bool)
  | scrubRefill (frame : Nat)
  | refresh (pc : Nat)
  | targetedRefresh (pc : Nat) (acts : List (Nat × Nat × Nat))
  | rowTrackerClear
  | rowRepair (pc bank row : Nat) (spare : Bool)
  | frameMigrate (frame : Nat)
  | laneRemove (port lane : Nat)
  | laneRecalibrate (port lane : Nat) (ok : Bool)
  | laneRestore (port lane : Nat)
  | laneReadapt (port lane : Nat)
  | portDown (port cycle : Nat)
  | linkReplay (port fromSeq : Nat)
  | hostLinkDown
  | wakeComplete
  | ventInteger (c : CtxId) (op : IntOp) (rd rs1 : Nat) (b : Src2)
  | ventControl (c : CtxId) (op : CtlOp) (rs1 rs2 : Nat) (disp : Int)
  | ventLoad (c : CtxId) (bytes : Nat) (signed : Bool) (rd base : Nat) (off : BitVec 16)
  | ventStore (c : CtxId) (bytes : Nat) (rs base : Nat) (off : BitVec 16)
  | ventAtomic (c : CtxId) (op : AtomicOp) (rd rs1 rs2 : Nat)
  | ventVector (c : CtxId) (op : VecOp) (ty : ElemType) (vd vs1 vs2 : Nat)
  | ventConversion (c : CtxId) (vector : Bool) (src dst : ElemType) (rd rs1 : Nat)
  | yield (c : CtxId)
  | fence (c : CtxId)
  | exit (c : CtxId)
  | deviceViewRequest (c : CtxId) (rd rs1 : Nat)
  | waitSatisfied (c : CtxId)
  | mudpotWrite (c : CtxId) (spn off : Nat) (data : List Byte)
  | i3cPrivateWrite (addr : Nat) (data : Word)
  | i3cSetAddress (addr : Nat)
  | i3cPrivateRead (words : Nat)
  | setdasa (staticAddr dynAddr : Nat)
  | registerWrite (master addr width : Nat) (data : Word)
  | readClear (master addr : Nat)
  | loReadLatch (master addr : Nat)
  | hiWriteCommit (master addr : Nat) (data : Word)
  | postedWrite (master addr : Nat) (data : Word)
  | postedWriteDone (domain : Nat)
  | manifestSeal (master : Nat) (tickLow : Word)
  | manifestCopyDone
  | errlogRptrWrite (master : Nat) (data : Word)
  | hwmRead (master addr : Nat)
  | captureEnable (master : Nat) (data : Word)
  | mudOpCoresWrite (master : Nat) (data : Word)
  | readIdentityCert
  | readAliasCert
  | advanceSvn
  | mailboxRequestDone
  | powerOn
  | sysResetAssert
  | sysResetRelease (straps : BitVec 16) (refclkSys : Bool)
  | brownout (rail : Nat)
  | thermalTrip
  | powerDown
  | refclkLoss (k : Nat)
  | boot (flashOk : Bool) (bankOk : List Bool)
  | hostLinkTrain (lanes : Nat)
  | hbmStackTrain (stack : Nat) (ok : Bool) (banks spares : Nat)
  | fabricPortTrain (port : Nat)
  | fumaroleStart
  | partnerTrainingDetect (port : Nat)
  | creditReturn (port ackSeq : Nat) (credits : List Nat)
  | cardRateChange (rate : Nat)
  | testPortInstruction (code : BitVec 8)
  | grantRelease (c : CtxId) (spn : Nat)
  | fwCommitDone (bank : Nat) (ok : Bool)
  | prefixInsertDone (seq : Nat)
  deriving DecidableEq, Repr

end Sys2Proof
end

