-- ==== Sys2Proof/Decode.lean ====
section
/-!
DEFINITION. Sys2Proof/Decode.lean: the words of spec/opcode_table.json. The table gives no row a bit of an encoding
(every row's `fields` is empty), so no word spells a command. The link bytes of a host command are read in
Machine/Operands.lean.
-/

namespace Sys2Proof

/-- The command that a word of the opcode table spells: none, for the table gives no bits. -/
def decodeTableWord (_nbits _w : Nat) : Option Instr := none

end Sys2Proof
end

