-- ==== Sys2Proof/Config.lean ====
section
/-!
DEFINITION. Sys2Proof/Config.lean: what one part or one implementation fixes and the spec leaves open. Every
constant is opaque: nothing can prove a value of it. `free*` constants are the free values of notes/assumptions/4.md,
applied to the counter `freeCnt` or to operands.
-/

namespace Sys2Proof.Config

/-! ## Of one part -/

/-- GLB_DEVICE_ID.GRADE, fused (R601). -/
opaque grade : BitVec 2
/-- GLB_SERIAL (R600). -/
opaque serial : BitVec 64
/-- The device's own fabric address, the SRC of its messages (R459); how it is set stands in no file of the spec. -/
opaque selfAddr : Nat

/-- The fumarole plan inside the firmware image whose signature block begins with the given bytes (R657, R661). -/
opaque fumarolePlan : List Byte → Option Plan
/-- What an instruction code of the test port names (R691): 0 BYPASS, 1 IDCODE, 2 SAMPLE/PRELOAD, 3 EXTEST, 4 EXTEST_PULSE,
5 EXTEST_TRAIN, else an instruction that the port lacks. The codes stand in no file of the spec. -/
opaque tapCode : BitVec 8 → Nat
/-- Cycles that a MOVER slot needs for one append and one full page copy for each of a number of requests (R57, R62). -/
opaque moverCycles : Nat → Nat

/-! ## Free values -/

/-- A value the spec leaves open, by the counter of free values. -/
opaque freeNat : Nat → Nat
/-- A register's value the spec leaves open: by address and counter. -/
opaque freeReg : Nat → Nat → Word
/-- Physical events that the counter at an address counts in a tick. -/
opaque physEvents : Nat → Nat → Nat
/-- The cycle in a tick at which an event that the device raises by itself reaches its ledger input (R78). -/
opaque freeCycle : Nat → Nat

/-- The complete checkpoint images that other controllers of a ring have left in an image slot (R532, R534): by the counter of free
values, the slot, RING_ID and the number of members; each its shard, epoch and records. -/
opaque foreignImages : Nat → Nat → Nat → Nat → List (Nat × Nat × List LahRec)

/-! ## Instruction conventions that no file of the spec states (log 9) -/

/-- A branch counts its displacement from the next instruction (true) or from its own. -/
opaque dispNext : Bool
/-- The register that jump-and-link writes. -/
opaque linkReg : Nat
/-- The result of a load-upper, by its immediate and the source register's value. -/
opaque loadUpper : BitVec 16 → VReg → VReg
/-- A shift by 64 or more: kind (0 left, 1 right, 2 arithmetic right), operand, amount. -/
opaque bigShift : Nat → VReg → VReg → VReg
/-- A lane of a vector comparison: its width in bits and the outcome. -/
opaque laneTruth : Nat → Bool → Nat
/-- A vector select and a vector shuffle: lane width, old destination, first source, second source. -/
opaque vecSelect : Nat → BitVec 128 → BitVec 128 → BitVec 128 → BitVec 128
opaque vecShuffle : Nat → BitVec 128 → BitVec 128 → BitVec 128 → BitVec 128
/-- The 128-bit result of a horizontal sum, by the lane width, the old destination and the sum. -/
opaque vecSumPlace : Nat → BitVec 128 → Nat → BitVec 128
/-- The integer that a conversion gives for a NaN or a number outside the destination's range: bits, source pattern. -/
opaque badInt : Nat → Nat → Nat
/-- The selector of a Mudpot program's stack view (R402, R406). -/
opaque stackSel : Nat
/-- An instruction word of a package is legal and uses nothing that its target lacks: target, word. -/
opaque instrLegal : Nat → Word → Bool

/-! ## The Obsidian core's generator (R620) -/

/-- The n-th value drawn. -/
opaque draw : Nat → Nat

/-! ## Cryptography that published standards define (R621 to R643) -/

/-- AES-256-GCM: key, nonce, additional data, plaintext to ciphertext and tag (R130, R470, R624). -/
opaque gcmSeal : List Byte → Nat → List Byte → List Byte → List Byte × List Byte
/-- AES-256-GCM: key, nonce, additional data, ciphertext, tag to the plaintext where the tag verifies. -/
opaque gcmOpen : List Byte → Nat → List Byte → List Byte → List Byte → Option (List Byte)
/-- SLH-DSA verification: parameter set (0 SHA2-192s, 1 SHA2-128f), public key, message, signature (R636, R637). -/
opaque slhVerify : Nat → List Byte → List Byte → List Byte → Bool
/-- ML-KEM-1024 encapsulation key of the pair drawn as number n (R616, R642). -/
opaque kemPublic : Nat → List Byte
/-- ML-KEM-1024 decapsulation under the pair drawn as number n (R623). -/
opaque kemDecaps : Nat → List Byte → List Byte
/-- The vendor firmware public key whose digest is fused (R621). -/
opaque vendorKey : List Byte
/-- The identity certificate in DER (R644). -/
opaque identityCert : List Byte
/-- The alias certificate in DER for the alias key drawn as number n and the firmware measurement (R622, R642). -/
opaque aliasCertDer : Nat → List Byte → List Byte
/-- The certificate of R641 in DER, signed by the alias key drawn as number n, over the fields of R642 in their order. -/
opaque attestDer : Nat → List (List Byte) → List Byte

/-! ## Numerics whose last bits the spec leaves open -/

/-- What the exponential unit gives for an operand, where that lies within the bound of R189 or R326. -/
opaque expCand : F32 → F32
/-- What another elementary function gives, by function (0 tanh, 1 sin, 2 cos, 3 the power of R177, 4 natural logarithm)
and operands, where that lies within its bound. -/
opaque fnCand : Nat → F32 → F32 → F32

end Sys2Proof.Config
end

