-- ==== Sys2Proof/Machine/State.lean ====
section
/-!
DEFINITION. Sys2Proof/Machine/State.lean: the state of the QK960 as plain data, in groups that follow
the chapters of spec/, and `State.reset`, the device in the first tick after the release of SYS_RESET_N
(R47, R654). Register values of RO registers that only show other state are not stored: Machine/Regs.lean
computes them.
-/

namespace Sys2Proof.Machine

/-! ## Event Ledger, timers, error log -/

/-- A ledger record (R78). -/
structure LedRec where
  seq : Nat
  input : Nat
  type : Nat
  tick : Nat
  cycle : Nat
  status : Nat
  part : Nat
  object : Nat
  deriving DecidableEq, Repr

/-- The Event Ledger (R74, R609). The capture ring itself stands in HBM (R80). -/
structure Ledger where
  /-- 48 bits; R74, ELG_NEXT_SEQ (R608); reset 0 -/
  next : Nat
  /-- up to 65,536 records; R609 records captured and not yet written to the ring, oldest first; reset empty -/
  buf : List LedRec
  /-- 32 bits; R608 ELG_CAP_WPTR; reset DESIGN CHOICE 0 (log 3) -/
  wptr : Nat
  deriving DecidableEq, Repr

/-- What a timer of ledger input 0 awaits (R75, R79 types 0x20 to 0x28). -/
inductive TimerKind where
  | thaw | response | host | epoch | epochOwn | release | delta | gather | budget | query
  deriving DecidableEq, Repr

/-- A timer: the tick whose ending boundary stamps its expiry (R71), the arrival number of the request it
belongs to (R76), its object, and the ledger number of its stamp once it has one. -/
structure Timer where
  kind : TimerKind
  due : Nat
  arr : Nat
  obj : Nat
  stamp : Option Nat
  deriving DecidableEq, Repr

/-- An error-log entry (R596). -/
structure ErrEnt where
  wseq : Nat
  status : Nat
  source : Nat
  part : Nat
  tick : Nat
  seq : Nat
  unit : Nat
  object : Nat
  deriving DecidableEq, Repr

/-! ## Sessions -/

/-- Session states of R88. -/
inductive SessSt where
  | free | active | parked | thawing | awaitHost | fenced | degraded
  deriving DecidableEq, Repr

/-- One KV head's block of a summary entry (R208). -/
structure SumHead where
  scale : F32
  lo : List Byte
  hi : List Byte
  deriving DecidableEq, Repr

/-- A page summary entry (R208). -/
structure SumEnt where
  valid : Bool
  spn : Nat
  posCount : Nat
  heads : List SumHead
  deriving DecidableEq, Repr

/-- An entry of a layer page list (R101) with the summary entry of the same index (R207). -/
structure PageEnt where
  spn : Nat
  first : Nat
  sum : SumEnt
  deriving DecidableEq, Repr

/-- One layer of a session (R89, R101): its length and its page list; `sumSpns` are its summary pages (R207). -/
structure LayerSt where
  len : Nat
  pages : List PageEnt
  sumSpns : List Nat
  deriving DecidableEq, Repr

/-- The prefix chain state of a control page (R271): last set by an insert, block, chains held per table
(table number, hash). -/
structure Chain where
  insert : Bool
  block : Nat
  chains : List (Nat × List Byte)
  deriving DecidableEq, Repr

/-- A token chosen and not yet released (R38, R340). -/
structure PendTok where
  pos : Nat
  token : Nat
  reason : Nat
  stop : Bool
  noToken : Bool
  replay : Bool
  dest : Nat
  tag : Nat
  off : Nat
  bytes : List Byte
  ended : Bool
  recSeq : Nat
  acked : Bool
  ackTick : Nat
  deriving DecidableEq, Repr

/-- The control page of a session (R88, R202, R322, R271): selection, sampling, generation, penalty, grammar,
stop, tokenizer and output-stream state. Its byte layout stands in no file of the spec. -/
structure Ctrl where
  tau : F32
  topkK : Nat
  sinkPages : Nat
  recentPages : Nat
  sampling : Sampling
  genSeq : Nat
  stopped : Bool
  pen : Tbl Nat
  gState : Nat
  gStack : List Nat
  stopIds : List Nat
  stopStrs : List (List Byte)
  carry : List Byte
  utf8Hold : List Byte
  stopHold : List Byte
  outOffset : Nat
  chain : Option Chain
  awaiting : Option Nat
  timedOut : List Nat
  pend : List PendTok
  forced : List (Nat × Nat)
  home : Nat
  deriving DecidableEq, Repr

/-- A session table entry (R87) with the directory it points to (R101) and the control page's contents.
`doomed`: SESSION_DESTROY has taken effect and an admitted request keeps its pages (R97). `metaSpns` are the pages of the directory and the layer page lists beyond the first. `ctrlAway`: the control page was
installed from a shadow unit or an image and has not been brought in yet, so that `ctrl` is not its contents (R526). -/
structure SessEnt where
  gen : Nat
  st : SessSt
  quar : Bool
  clsD : Bool
  gate : Bool
  prev : SessSt
  degReason : Nat
  degPrev : SessSt
  model : Nat
  select : Nat
  length : Nat
  adapter : Nat
  adpVersion : Nat
  dirSpn : Nat
  metaSpns : List Nat
  ctrlSpn : Nat
  lastTick : Nat
  born : Nat
  doomed : Bool
  layers : List LayerSt
  ctrl : Ctrl
  ctrlAway : Bool
  deriving DecidableEq, Repr

/-! ## Pages, frames, Tephra copies -/

/-- TIER of a page table entry (R100). -/
inductive Tier where
  | hbm | tephra | inFlight | never
  deriving DecidableEq, Repr

/-- A valid page table entry (R100); `owner` is the absolute session entry the SPN belongs to (R98). -/
structure Pte where
  tier : Tier
  cmp : Bool
  snap : Bool
  shr : Bool
  raw : Bool
  loc : Bool
  fmt : Nat
  at' : Nat
  owner : Nat
  deriving DecidableEq, Repr

/-- STATE of a frame (R104). -/
inductive FrameSt where
  | free | valid | incoming | outgoing | reserve | retired
  deriving DecidableEq, Repr

/-- A page frame table entry (R104). `loc` is the row mode the frame's row has while it is allocated
(R420); `own` is the OWNER; `book` names the book slot of the coded page that it holds, 0 for none (R232); an absent
frame is FREE. -/
structure Frame where
  refcnt : Nat
  st : FrameSt
  tv : Bool
  void : Bool
  own : Nat
  twin : Nat
  move : Nat
  loc : Bool
  book : Nat
  deriving DecidableEq, Repr

/-- STATE of a Tephra descriptor (R105). -/
inductive DescSt where
  | free | valid | incoming | lost
  deriving DecidableEq, Repr

/-- A Tephra descriptor (R105), with the book slot of the coded page that the copy holds (R232); an absent one is
FREE. -/
structure Desc where
  refcnt : Nat
  st : DescSt
  tv : Bool
  twin : Nat
  own : Nat
  book : Nat
  deriving DecidableEq, Repr

/-- What a transfer to or from a Tephra target is for. -/
inductive XferKind where
  | park | thaw | adapterWrite | adapterRead | slotCopy | slotCopyWrite | refill | shadow | image | imageRead | capture | forkCtrl
  deriving DecidableEq, Repr

/-- A transfer outstanding to a target slot (R104 MOVE, R128, R129): its TAG, frame and Tephra address,
the joined page table entries, those deferred to its end (rows 14, 23) with the ledger number of the SESSION_PARK that a deferred
park serves (0: none), the tick it was issued in, whether it has been
handed over, whether a second read was made (R133),
and the command or gather it serves. -/
structure Xfer where
  tag : Nat
  kind : XferKind
  frame : Nat
  addr : Nat
  spns : List Nat
  later : List (Nat × Nat)
  issued : Nat
  sent : Bool
  retried : Bool
  sealW : Nat
  cmd : Nat
  deriving DecidableEq, Repr

/-- A fork of a SESSION_FORK or of a PREFIX_INSERT with FORK = 1 (R115, R268): its command, the parent's entry, SEED, the child's
entry once the fork has begun, and whether the parent's control page is being read from its Tephra copy. -/
structure ForkJob where
  cmd : CmdHdr
  parent : Nat
  seed : Nat
  child : Option Nat
  reading : Bool
  deriving DecidableEq, Repr

/-- A hold of the snapshot engine (R107): on a frame (`false`) or a Tephra copy (`true`), and the page's SPN. -/
structure Hold where
  tephra : Bool
  at' : Nat
  spn : Nat
  deriving DecidableEq, Repr

/-! ## Attention requests -/

/-- The partial softmax state of one query row (R186). -/
structure RowSt where
  m : F32
  l : F32
  acc : List F32
  deriving DecidableEq, Repr

/-- A kept page that is not resident (R142): its SPN and first position, the ledger number and tick of its
arrival once stamped, and whether it has been merged. -/
structure KeptPage where
  spn : Nat
  first : Nat
  arrSeq : Option Nat
  arrTick : Nat
  merged : Option (List RowSt)
  deriving DecidableEq, Repr

/-- Where an ATTN_REQ or APPEND_ONLY stands. -/
inductive ReqPhase where
  | waiting | admitted | merging
  deriving DecidableEq, Repr

/-- An ATTN_REQ or APPEND_ONLY that passed its checks and is not answered (R59 to R71). `newTails` are the tail
pages its append allocated, `failed` the status its work ended with (0: none); `fenced`: its partition was fenced while it was
admitted (R95). -/
structure Req where
  seq : Nat
  tick : Nat
  cycle : Nat
  append : Bool
  src : Nat
  tag : Nat
  part : Nat
  handle : Nat
  entry : Nat
  layer : Nat
  count : Nat
  first : Nat
  deadline : Nat
  prefill : Bool
  maskCols : Option (Nat × Nat)
  maskRows : List Nat
  vecs : List F32
  phase : ReqPhase
  group : Nat
  promised : Nat
  chargeP : Nat
  thawStamp : Option Nat
  respStamp : Option Nat
  rows : List RowSt
  kept : List KeptPage
  appended : Nat
  newTails : List Nat
  failed : Nat
  fenced : Bool
  books : List Nat
  deriving DecidableEq, Repr

/-- A LOGITS that passed its checks and awaits a sampler unit or the host (R325, R332), or one whose checks wait for the
end of a fork, insert or attach (R119), `held` as it arrived; `fenced`: its partition was fenced meanwhile (R95). -/
structure LogitsReq where
  seq : Nat
  tick : Nat
  src : Nat
  tag : Nat
  handle : Nat
  entry : Nat
  pos : Nat
  logits : List F32
  sent : Bool
  held : Option FabMsg
  fenced : Bool
  deriving DecidableEq, Repr

/-! ## Plan and manifests -/

/-- A manifest entry (R69): the fields of its 32 bytes; `cls` is a class code of R52. -/
structure ManEnt where
  slot : Nat
  cls : Nat
  kind : Nat
  count : Nat
  desc : Nat
  chargeP : Nat
  chargeN : Nat
  planId : Nat
  deriving DecidableEq, Repr

/-- The plan store and the manifests (R57, R58, R67, R605 to R607). -/
structure PlanStore where
  /-- R57 active bank; reset none (no plan is active before R657) -/
  active : Option Plan
  /-- R57 standby bank as checked; reset none -/
  standby : Option Plan
  /-- bytes; R572 standby bank as delivered, by offset; reset empty -/
  bank : List Host.Cell
  /-- 32 bits; R572 TOTAL of the plan being delivered; reset DESIGN CHOICE 0 (log 3) -/
  total : Nat
  /-- 2 bits; R607 STANDBY; reset 0 -/
  standbySt : Nat
  /-- 8 bits; R607 CHECK_DETAIL; reset 0 -/
  checkDetail : Nat
  /-- 64 bits; R604 FSQ_SWAP_TICK, R607 SWAP_PENDING; reset none -/
  swapTick : Option Nat
  /-- 16 bits; R607 SWAPS; reset 0 -/
  swaps : Nat
  /-- R572 the PLAN_LOAD with FINAL that awaits its check; reset none -/
  finalCmd : Option CmdHdr
  /-- R657 the fumarole plan of the running firmware image; reset none (no firmware is loaded) -/
  fwPlan : Option Plan
  /-- R64 entries for the next tick as firmware has them so far; reset empty -/
  prepared : List ManEnt
  /-- Caldera address to ledger numbers; R69 batch and launch descriptors that firmware wrote; reset empty -/
  descs : Tbl (List Nat)
  /-- bytes; R67 what firmware wrote of manifests into the Caldera; reset DESIGN CHOICE zero where unlisted (log 2) -/
  caldera : List Host.Cell
  /-- BASE and COUNT; R605 the seal for the next tick; reset none -/
  sealed : Option (Nat × Nat)
  /-- 1 bit; R606 COPYING; reset 0 -/
  copying : Bool
  /-- R605 the standby manifest store; reset empty -/
  store : List ManEnt
  /-- R67 the manifest latched for this tick; reset empty -/
  latched : List ManEnt
  /-- 1 bit; R68 this tick runs without dynamic work; reset DESIGN CHOICE true (log 3) -/
  missed : Bool
  /-- cycle; R56 MANIFEST_CUTOFF of the tick before this one, R549; reset 27,648, the default of R56 -/
  prevCutoff : Nat
  /-- frames; R609 frames held for the active plan's capture area; reset empty -/
  capture : List Nat
  deriving DecidableEq, Repr

/-! ## Host link -/

/-- A command channel (R544, R546, R547), with the frames of its buffer. -/
structure Chan where
  part : Nat
  inHeld : Nat
  outWin : Nat
  bufs : List Nat
  deriving DecidableEq, Repr

/-- A PACKET stamped and not yet taken (R549). -/
structure Stamped where
  seq : Nat
  tick : Nat
  cycle : Nat
  chan : Nat
  bytes : List Byte
  deriving DecidableEq, Repr

/-- A command taken into processing (R549): its header, its opcode, and the row it spells. -/
structure Taken where
  h : CmdHdr
  op : Nat
  cmd : Option Instr
  deriving DecidableEq, Repr

/-- The Broec host link (R539 to R553). -/
structure HostLink where
  /-- GB/s; R542 RATE, HLK_CARD_RATE; reset DESIGN CHOICE 0 (log 3) -/
  cardRate : Nat
  /-- 1,024 channels; R544 assignment, R546 in-window held, R547 out-window; reset channels 0 to 3 partition 0 -/
  chans : Tbl Chan
  /-- R549 stamped commands not yet taken, in ledger order; reset empty -/
  stamped : List Stamped
  /-- R549 commands in processing; reset empty -/
  taken : List Taken
  /-- (channel, TAG) pairs; R555 unanswered commands; reset empty -/
  unanswered : List (Nat × Nat)
  /-- tick; R549 the tick in which firmware last took commands; reset none -/
  lastIntake : Option Nat
  deriving DecidableEq, Repr

/-! ## Tephra slots, partitions -/

/-- A target slot (R122, R123, R161): its state, address, planes and capacity, the replacement's address and planes
while COPYING, the units failed one by one (R158), the frames of its descriptors and free map (R125), the units copied
to the replacement, the command that waits. -/
structure TSlot where
  st : Nat
  addr : Nat
  plane : Nat
  cap : Nat
  newAddr : Nat
  newPlane : Nat
  cursor : Nat
  bad : List Nat
  frames : List Nat
  copied : List Nat
  cmd : Option CmdHdr
  deriving DecidableEq, Repr

/-- Partition lifecycle states of R615. -/
inductive PartSt where
  | unconfigured | opened | fenced | resetting
  deriving DecidableEq, Repr

/-- One partition (R569, R615, R616, R621, R632, R634, R649). Keys stand newest first: a tier key as generation, tick
of its delivery and key; a replication key as generation and key. -/
structure Part where
  st : PartSt
  cfg : PartCfg
  salt : Nat
  kem : Option Nat
  tierKeys : List (Nat × Nat × List Byte)
  replKeys : List (Nat × List Byte)
  tol : Nat
  events : List Nat
  sampled : List Nat
  meters : List Nat
  subBase : Nat
  flowGroups : Nat
  attesting : Option (CmdHdr × List Byte)
  resetCmd : Option CmdHdr
  lastSlot : Nat
  config : List Byte
  deriving DecidableEq, Repr

/-! ## Models, adapters, codec, prefix, tokens -/

/-- A layer entry with its side data (R168, R170). Offsets of UK and UV are byte offsets of the descriptor. -/
structure LayerDesc where
  kind : Nat
  elem : Nat
  qh : Nat
  kvh : Nat
  ropeMode : Nat
  headDim : Nat
  vDim : Nat
  latent : Nat
  rotDim : Nat
  qFp8 : Bool
  sink : Bool
  qkNorm : Bool
  rmode : Nat
  window : Nat
  smScale : F32
  ropeBase : F32
  ropeDiv : F32
  ops : List Nat
  c0 : F32
  c1 : F32
  kScale : List F32
  vScale : List F32
  slope : List F32
  sinks : List F32
  ukScale : List F32
  ukOff : Nat
  uvScale : List F32
  uvOff : Nat
  deriving DecidableEq, Repr

/-- A checked model descriptor (R167). -/
structure Descr where
  modelTag : Nat
  maxQtok : Nat
  outFmt : Nat
  layers : List LayerDesc
  coreBytes : Nat
  deriving DecidableEq, Repr

/-- An image object being delivered or held (R283, R310, R335, R391): 0 EMPTY, 1 LOADING, 2 READY. -/
structure Image where
  st : Nat
  length : Nat
  frames : List Nat
  digest : List Byte
  deriving DecidableEq, Repr

/-- A model slot (R283 to R286, R227, R314). -/
structure Model where
  img : Image
  desc : Option Descr
  mask : BitVec 256
  vocab : Option Nat
  map : List Nat
  deriving DecidableEq, Repr

/-- A model switch in progress (R292): phase 0 drain, 1 core staging, 2 constant load, 3 array check. -/
structure Switch where
  cmd : CmdHdr
  first : Nat
  size : Nat
  model : Nat
  phase : Nat
  start : Nat
  phaseTick : Nat
  deriving DecidableEq, Repr

/-- A Geyser pipeline (R200, R290). -/
structure Pipe where
  st : Nat
  bound : Option Nat
  deriving DecidableEq, Repr

/-- A segment of an adapter image (R297). -/
structure Segment where
  layer : Nat
  module : Nat
  fmt : Nat
  offset : Nat
  aLen : Nat
  bLen : Nat
  deriving DecidableEq, Repr

/-- A version of an adapter id (R299, R302, R306). -/
structure AdpVer where
  ver : Nat
  model : Nat
  length : Nat
  segs : List Segment
  units : List Nat
  sessions : Nat
  lost : Bool
  deriving DecidableEq, Repr

/-- An adapter id (R295, R299). -/
structure AdpId where
  last : Nat
  cur : Option Nat
  vers : List AdpVer
  stage : Option Image
  commit : Option CmdHdr
  waiting : List Nat
  deriving DecidableEq, Repr

/-- A cached adapter unit (R302); `fwd` holds the bytes of a unit that is forwarded through the Caldera and not kept. -/
structure CacheUnit where
  part : Nat
  id : Nat
  ver : Nat
  unit : Nat
  frame : Nat
  last : Nat
  ready : Bool
  fwd : Option (List Byte)
  deriving DecidableEq, Repr

/-- A pair of a gather (R303, R305): id, version, status, segments left, bytes sent of the first, and the units that its segments lie in
(R302). -/
structure GPair where
  id : Nat
  ver : Nat
  status : Nat
  segs : List Segment
  off : Nat
  units : List Nat
  deriving DecidableEq, Repr

/-- A gather in progress (R303 to R307). -/
structure Gather where
  seq : Nat
  tick : Nat
  src : Nat
  tag : Nat
  handles : List (Nat × Nat)
  pairs : List GPair
  expired : Bool
  deriving DecidableEq, Repr

/-- A Sinter format (R226). -/
structure Fmt where
  kind : Nat
  run : Nat
  dk : Nat
  dv : Nat
  refMax : Nat
  denseKeep : Nat
  rounds : Nat
  deriving DecidableEq, Repr

/-- A book slot (R232; its use count is computed): generation, frames, and per KV head the base key, refinement key and value
centroids as bfloat16 patterns, subspace-major then code-major (R230). -/
structure BookSlot where
  gen : Nat
  frames : List Nat
  base : List (List (BitVec 16))
  refine : List (List (BitVec 16))
  value : List (List (BitVec 16))
  deriving DecidableEq, Repr

/-- The books of one (domain, model, layer) (R232 to R234). -/
structure Book where
  s0 : BookSlot
  s1 : BookSlot
  cur : Option Nat
  queued : Bool
  firstErrs : List F32
  lastErrs : List F32
  deriving DecidableEq, Repr

/-- A prefix table entry (R264). -/
structure PfxEnt where
  valid : Bool
  key : List Byte
  blocks : Nat
  hlen : Nat
  holder : Nat
  lastUse : Nat
  uses : Nat
  deriving DecidableEq, Repr

/-- A prefix table (R260): salt, bucket count, frames, and the ways of each bucket that holds any. -/
structure PfxTable where
  salt : Nat
  buckets : Nat
  frames : List Nat
  ways : Tbl (List PfxEnt)
  deriving DecidableEq, Repr

/-- A prefix command in progress (R268, R273 to R279): its header, kind, handle (holder or target), FIRST_BLOCK,
last block, the chains computed (from the hash at FIRST_BLOCK on), the match once the lookup has ended (block, table,
holder's entry), whether its hashing has begun, its blocks, and FORK. -/
structure PfxJob where
  cmd : CmdHdr
  insert : Bool
  handle : Nat
  domain : Nat
  firstBlock : Nat
  lastBlock : Nat
  chains : List (Nat × List (List Byte))
  hit : Option (Nat × Nat × Nat)
  started : Bool
  blocks : List (List Nat)
  fork : Bool
  deriving DecidableEq, Repr

/-- R279: what an open PREFIX_ATTACH (its ledger number) is to see of a holder whose destroy was stamped after it: the holder's entry,
handle and LENGTH, and whether it was usable at the destroy's stamp. -/
structure PfxGuard where
  attach : Nat
  entry : Nat
  handle : Nat
  length : Nat
  usable : Bool
  deriving DecidableEq, Repr

/-- A vocabulary slot (R310 to R314): the image and its checked header fields. -/
structure Vocab where
  img : Image
  logitFmt : Nat
  entries : Nat
  merges : Nat
  eos : Nat
  byteBase : Nat
  tokenOff : Nat
  poolOff : Nat
  mergeOff : Nat
  deriving DecidableEq, Repr

/-- A grammar image (R335, R336) with its checked header. -/
structure Gram where
  img : Image
  eosFallback : Bool
  stackMax : Nat
  vocabDigest : List Byte
  states : Nat
  classes : Nat
  start : Nat
  mapOff : Nat
  stateOff : Nat
  transOff : Nat
  transCount : Nat
  deriving DecidableEq, Repr

/-! ## Retrieval -/

/-- A node of a vector store (R353): header, rerank vector, codes and edge lists (level 0 first). An edge is
(slot, gen). -/
structure Node where
  used : Bool
  tomb : Bool
  linked : Bool
  quar : Bool
  pend : Bool
  /-- start tick of the round that freed the slot (R374) -/
  pendAt : Nat
  gen : Nat
  level : Nat
  insTick : Nat
  delTick : Option Nat
  user : Nat
  vec : List F32
  /-- scale of the vector's E4M3 form (R356) -/
  scale : F32
  codes : List Nat
  edges : List (List (Nat × Nat))
  /-- indices of the node's upper lists, level 1 first (R352, R353) -/
  uppers : List Nat
  deriving DecidableEq, Repr

/-- A side-list entry (R354). -/
structure SideEnt where
  slot : Nat
  gen : Nat
  pubTick : Nat
  deriving DecidableEq, Repr

/-- A vector store (R347 to R354, R371 to R375). -/
structure Store where
  gen : Nat
  st : Nat
  p : StoreParams
  frames : List Nat
  home : Nat
  levelSalt : Nat
  nodes : Tbl Node
  side : List SideEnt
  sideVer : Nat
  /-- the side-list version that is not current, and the tick in which the current one became so (R374, R375) -/
  other : List SideEnt
  verTick : Nat
  entry : Option Nat
  book : Option (List (BitVec 16))
  mergeCmd : Option CmdHdr
  deriving DecidableEq, Repr

/-- A retrieval query in progress (R366 to R370). -/
structure Query where
  cmd : CmdHdr
  key : Nat
  gen : Nat
  sideVer : Nat
  side : List SideEnt
  q : QueryParams
  vec : List F32
  expiry : Option Nat
  /-- the context of the retrieval Vent pool and the ADC unit that the query's thread holds, once it is launched (R72, R367) -/
  place : Option (Nat × Nat)
  deriving DecidableEq, Repr

/-! ## Vent and Mudpot -/

/-- A wait of a context (R380, R381) and, for a result, the register it goes to and its value. -/
inductive VWait where
  | result (rd : Nat) (v : VReg)
  | result2 (rd : Nat) (lo hi : VReg)
  | plain
  | device (rd : Nat)
  deriving DecidableEq, Repr

/-- A context that holds a thread (R379, R382, R395). -/
structure VCtx where
  launch : Nat
  thread : Nat
  regs : List VReg
  pc : Nat
  wait : Option VWait
  deriving DecidableEq, Repr

/-- A committed or loading package (R391, R392). -/
structure Pkg where
  img : Image
  target : Nat
  objects : Bool
  device : Bool
  codeLen : Nat
  entry : Nat
  arenaBytes : Nat
  pages : Nat
  maxCtx : Nat
  budget : Nat
  kpages : List Nat
  deriving DecidableEq, Repr

/-- A launch (R394 to R397). -/
structure Launch where
  cmd : CmdHdr
  d : LaunchDesc
  objs : List ObjEntry
  placed : Option Nat
  live : Nat
  faulted : Nat
  firstThread : Nat
  fault : Nat
  pc : Nat
  deriving DecidableEq, Repr

/-- A write grant (R407, R408). -/
structure Grant where
  ctx : CtxId
  spn : Nat
  frame : Nat
  raw : Bool
  stack : Nat
  revoked : Bool
  deriving DecidableEq, Repr

/-- A queued summary entry (R211, R212). -/
structure SumJob where
  entry : Nat
  layer : Nat
  spn : Nat
  tick : Nat
  deriving DecidableEq, Repr

/-! ## HBM upkeep -/

/-- A pseudo-channel (R443). -/
structure Pc where
  st : Nat
  failing : Bool
  mark0 : Option Nat
  mark1 : Option Nat
  uePass : Nat
  deriving DecidableEq, Repr

/-- A stack (R419, R611, R656): trained, trainings tried, NB, spare rows left per bank, in self-refresh. -/
structure Stack where
  trained : Bool
  tries : Nat
  banks : Nat
  spares : Nat
  selfRefresh : Bool
  deriving DecidableEq, Repr

/-- A pseudo-channel retirement in progress (R437 to R441). -/
structure Retire where
  cmd : CmdHdr
  pc : Nat
  cursor : Nat
  deriving DecidableEq, Repr

/-- HBM upkeep (R423 to R441). -/
structure HbmSt where
  /-- 256 entries of 32 bits; R443 pseudo-channel state; reset OFFLINE, no marks -/
  pcs : Tbl Pc
  /-- 8 entries; R419, R611, R656 stack training and banks; reset untrained -/
  stks : Tbl Stack
  /-- R423 to R427 codewords whose stored bits differ from what was written, with the lanes and the severity of the inner code; reset
  empty -/
  errs : List CwErr
  /-- R437 retirement in progress; reset none -/
  retire : Option Retire
  /-- 3 bits; R441 retirements completed; reset 0 -/
  retired : Nat
  /-- 1 bit; R438 the FREE frames of the band are RETIRED; reset 0 -/
  bandOut : Bool
  /-- R438 relocation table, frame to place; reset empty -/
  reloc : Tbl Nat
  /-- (pseudo-channel, bank, row) to count; R434 frequent-row trackers; reset empty -/
  tracker : List (Nat × Nat × Nat × Nat)
  /-- (pseudo-channel, bank, row, tick queued); R434 targeted refreshes queued; reset empty -/
  refreshQ : List (Nat × Nat × Nat × Nat)
  /-- lanes of a pseudo-channel corrected in this pass; R423; reset empty -/
  laneErrs : List (Nat × Nat × Nat)
  /-- rows of this pass with unexplained corrections; R435; reset empty -/
  rowErrs : List (Nat × Nat × Nat × Nat)
  /-- 1 bit; R429 a pass is running; reset 0 -/
  scrubbing : Bool
  /-- tick the last pass was due; R429, R432; reset DESIGN CHOICE 0 (log 3) -/
  scrubDue : Nat
  /-- frames; R431 refills in progress; reset empty -/
  refills : List Nat
  deriving DecidableEq, Repr

/-! ## Fabric and traffic -/

/-- An outgoing message or packet: `host` for port 56, the TYPE or OPCODE, partition, class and queue (R480,
R482), destination address or channel, header fields (FLAGS or SUB, TAG, STATUS, HANDLE, SEGMENT), length in bytes
with the headers, the bytes after the headers, the ledger number of the request it answers and the scheduler
time it was enqueued at. -/
structure Msg where
  host : Bool
  op : Nat
  part : Nat
  cls : Nat
  queue : Nat
  dest : Nat
  flags : Nat
  tag : Nat
  status : Nat
  handle : Nat
  seg : Nat
  len : Nat
  body : List Byte
  ref : Nat
  enq : Nat
  /-- the message leaves no earlier than this scheduler time (R360, R361) -/
  notBefore : Nat
  /-- R481: the port chosen when it reached its queue's head -/
  port : Option Nat
  /-- R450: its 16-byte chunks that its port has sent -/
  gone : Nat
  deriving DecidableEq, Repr

/-- A route entry (R456): 1 PEER, 2 TARGET, 3 BUDDY. -/
structure Route where
  addr : Nat
  role : Nat
  plane : Nat
  deriving DecidableEq, Repr

/-- A port: a fabric port (R445 to R455, R477, R490) or port 56, the host link (R539, R540, R577). STATE, WIDTH, lanes
removed from service with the tick of their removal until their recalibration begins, lanes FAILED, failed recalibrations by lane, lanes whose PRBS31 run goes on, the tick of the last
readaptation by lane, the next flit sequence, the first one not acknowledged, the messages sent whole with unacknowledged flits (with the
sequence of their last flit), credits per VC, and FIFOs in class order. -/
structure Port where
  st : Nat
  width : Nat
  removed : List Nat
  removedAt : Tbl Nat
  failed : List Nat
  recals : Tbl Nat
  prbs : List Nat
  readapted : Tbl Nat
  flitSeq : Nat
  unacked : Nat
  replayBuf : List (Nat × Msg)
  credits : List Nat
  fifos : List (List Msg)
  deriving DecidableEq, Repr

/-- A shaper (R485): COST in 8.24, BURST in bytes, E in units with 24 fractional bits. -/
structure Shaper where
  cost : Nat
  burst : Nat
  e : Nat
  deriving DecidableEq, Repr

/-- A subscriber (R479, R487, R496). -/
structure Sub where
  bytes : Nat
  sh : Shaper
  classes : List Shaper
  deriving DecidableEq, Repr

/-- The traffic scheduler (R479 to R499). -/
structure Tsh where
  /-- units of 10 ns; the MODEL's latest scheduler time that a step has named; reset 0 -/
  clock : Nat
  /-- 1 bit; R501 FULL; reset 0 Compact -/
  full : Bool
  /-- 32,768 entries; R479, R485 to R487 subscribers that a SHAPER_CONFIG named; reset empty (COST 0, R484) -/
  subs : Tbl Sub
  /-- 262,144 FIFOs; R480 queued messages; reset empty -/
  queues : Tbl (List Msg)
  /-- (queue, entry time); R492 entries on the wheel; reset empty -/
  wheel : List (Nat × Nat)
  /-- (queue, entry time); R493 entries in the overflow ring; reset empty -/
  overflow : List (Nat × Nat)
  /-- R496 messages held for want of SUB_BYTES; reset empty -/
  held : List Msg
  /-- 57 port shapers; R488; reset COST 0 (R484) -/
  ports : Tbl Shaper
  /-- (partition, SUB_BASE, FLOW_GROUPS, subscriber, its shapers); R486 SHAPER_CONFIGs that take effect at the next boundary;
  reset empty -/
  changes : List (Nat × Nat × Nat × Nat × Sub)
  /-- (frame, record of 16 bytes); R498 samples taken and not yet written to the ring, oldest first; reset empty -/
  sampleQ : List (Nat × List Byte)
  /-- the MODEL's count of samples written since ENABLE was set, which gives the next place in the ring of R498; reset 0 -/
  samplePos : Nat
  /-- depth and delay marks per queue; R499; reset empty -/
  hwm : Tbl (Nat × Nat)
  deriving DecidableEq, Repr

/-! ## Lahar -/

/-- An unacknowledged record (R516): sequence, stream (true: release log), expiries seen, the record, epoch. -/
structure Unacked where
  seq : Nat
  rel : Bool
  expiries : Nat
  recd : LahRec
  epoch : Nat
  deriving DecidableEq, Repr

/-- A shadow image this controller keeps of its predecessor (R513, R519): the epoch and the coordinates held, each as
its record and the unit that holds its contents. -/
structure ShadowImg where
  epoch : Nat
  recs : List (LahRec × Option Nat)
  deriving DecidableEq, Repr

/-- A checkpoint image that this controller wrote to an image slot (R532, R533): the target then bound to the slot, and the units that
it takes there. -/
structure CkptImg where
  slot : Nat
  dest : Nat
  shard : Nat
  ringId : Nat
  members : Nat
  epoch : Nat
  complete : Bool
  recs : List LahRec
  units : List Nat
  deriving DecidableEq, Repr

/-- A step of a capture (R511): the page or the object frame, the model and the record to be emitted, its body still
to be read for a page or an object frame. -/
structure CapItem where
  spn : Option Nat
  obj : Option Nat
  model : Nat
  recd : LahRec
  deriving DecidableEq, Repr

/-- A CHECKPOINT_WRITE or CHECKPOINT_RESTORE in progress: its reply once no transfer of it is outstanding, and for a
write the image it makes and the shadow units whose contents it still reads. -/
structure CkptJob where
  cmd : CmdHdr
  op : Nat
  status : Nat
  body : List Byte
  img : Option CkptImg
  need : List (LahRec × Option Nat)
  deriving DecidableEq, Repr

/-- The snapshot and replication engine (R502 to R535). -/
structure Lahar where
  /-- 3 bits; R538 STATE; reset 0 UNGROUPED -/
  st : Nat
  /-- 32 bits; R503 RING_ID; reset DESIGN CHOICE 0 (log 3) -/
  ringId : Nat
  /-- 7 bits; R538 MEMBERS; reset 0 -/
  members : Nat
  /-- 6 bits; R538 SELF; reset 0 -/
  self : Nat
  /-- 16 bits; R503 SHADOW_SLOTS; reset DESIGN CHOICE 0 (log 3) -/
  shadowSlots : Nat
  /-- ticks; R503 RELEASE_TICKS; reset DESIGN CHOICE 0 (log 3) -/
  releaseTicks : Nat
  /-- 40 bits; R505 current epoch, LAH_EPOCH; reset DESIGN CHOICE 0 (log 3) -/
  epoch : Nat
  /-- 40 bits; R537 LAH_COMMIT; reset DESIGN CHOICE 0 (log 3) -/
  commit : Nat
  /-- epoch that the next cut begins; R505 to R507; reset none -/
  cutTo : Option Nat
  /-- R507 the cut that waits has been counted; reset false -/
  cutWaits : Bool
  /-- 40 bits; R507 the epoch that the last cut closed; reset DESIGN CHOICE 0 (log 3) -/
  closing : Nat
  /-- R511 what the capture in progress has still to emit, in order; reset empty -/
  work : List CapItem
  /-- (handle, layer, first); R518 coordinates that the buddy has been sent; reset empty -/
  sent : List (Nat × Nat × Nat)
  /-- tick of the last cut; R505; reset DESIGN CHOICE 0 (log 3) -/
  lastCut : Nat
  /-- SPNs; R508 change map D, pages; reset empty -/
  dPages : List Nat
  /-- session entries and object keys; R508 change map D, entries and object frames; reset empty -/
  dObjs : List Nat
  /-- SPNs; R508 change map P, pages; reset empty -/
  pPages : List Nat
  /-- R508 change map P, entries and object frames; reset empty -/
  pObjs : List Nat
  /-- R107, R509 holds; reset empty -/
  holds : List Hold
  /-- frames; R510 promised to requests; reset 0 -/
  promised : Nat
  /-- SPN to reserve frame; R108 frames reserved for marked pages; reset empty -/
  marked : Tbl Nat
  /-- 1 bit; R513 END of the epoch being captured is still to be sent; reset false -/
  endDue : Bool
  /-- 32 bits; R515 next sequence of the delta stream; reset 0 -/
  dSeq : Nat
  /-- 32 bits; R515 next sequence of the release log; reset 0 -/
  rSeq : Nat
  /-- records since this epoch's CUT; R518 END; reset 0 -/
  sinceCut : Nat
  /-- R516 records handed to the buddy and not acknowledged; reset empty -/
  unacked : List Unacked
  /-- tick of the last message handed over to the buddy; R516; reset DESIGN CHOICE 0 (log 3) -/
  lastSent : Nat
  /-- R529 the epoch whose commit completes the base; reset none -/
  baseEpoch : Option Nat
  /-- 1 bit; R529 a base begins at the next cut; reset false -/
  baseDue : Bool
  /-- 3 bits; R538 the state that UNPROTECTED returns to; reset 0 -/
  backTo : Nat
  /-- 1 bit; R538 BUDDY_LOST; reset 0 -/
  buddyLost : Bool
  /-- 1 bit; R538 PRED_SUSPECT; reset 0 -/
  predSuspect : Bool
  /-- tick of the last stamp from the predecessor; R524; reset DESIGN CHOICE 0 (log 3) -/
  predTick : Nat
  /-- 1 bit; R525 the predecessor is fenced; reset false -/
  fencedPred : Bool
  /-- 32 bits; R515 next delta sequence to apply from the predecessor; reset 0 -/
  inSeq : Nat
  /-- 32 bits; R515 next release-log sequence to apply; reset 0 -/
  inRel : Nat
  /-- R515 records that arrived early (sequence, stream, record, epoch); reset empty -/
  early : List Unacked
  /-- R519 image being built for the epoch in progress; reset empty -/
  building : List (LahRec × Option Nat)
  /-- R513 images of the two newest committed epochs, newest first; reset empty -/
  images : List ShadowImg
  /-- (sequence of END, image); R513 epochs whose END has been applied and that are not committed, oldest first; reset
  empty -/
  ended : List (Nat × ShadowImg)
  /-- R523 emitted-token log: handle, position, token, epoch; reset empty -/
  tokLog : List (Nat × Nat × Nat × Nat)
  /-- R526 the TAKEOVER in progress with its epoch; reset none -/
  takeover : Option (CmdHdr × Nat)
  /-- R532, R533; reset empty -/
  ckpt : List CkptImg
  /-- R532, R534; reset empty -/
  jobs : List CkptJob
  deriving DecidableEq, Repr

/-! ## Power, trust, pins, registers -/

/-- Power and bring-up (R648 to R660, R671). -/
structure Power where
  /-- 2 bits; R671 STATE; reset 0 ACTIVE -/
  st : Nat
  /-- a wake is running to ACTIVE; R651; reset false -/
  waking : Bool
  /-- 1 bit; R671 THROTTLE; reset 0 -/
  throttle : Bool
  /-- 1 bit; R671 FUMAROLE; reset 0 -/
  fumarole : Bool
  /-- 1 bit; R671 MIGRATING; reset 0 -/
  migrating : Bool
  /-- frame number; R660 migration cursor; reset DESIGN CHOICE 0 (log 3) -/
  cursor : Nat
  /-- µs; R649, R613 PWR_TOL_DEVICE; reset 0 -/
  tolDevice : Nat
  /-- 27 bits, µs; R671 TOL; reset 0 -/
  tol : Nat
  /-- °C; R613 PWR_TEMP_MAX; reset DESIGN CHOICE 0 (log 3) -/
  tempMax : Nat
  /-- cycles per activity; R669 PWR_BG_USE; reset DESIGN CHOICE 0 (log 3) -/
  bgUse : List Nat
  /-- R668, R669 activities that worked in the frame in progress; reset empty -/
  bgNow : List Nat
  /-- R55, R668 activities behind their targets at the last frame boundary; reset empty -/
  behind : List Nat
  /-- R650 work seen in this frame that denies SIMMER; reset false -/
  busySimmer : Bool
  /-- R650 work seen in this frame that denies DORMANT; reset false -/
  busyDormant : Bool
  /-- lost fabric references; R687; reset empty -/
  refLost : List Nat
  /-- 16 bits; R600, R677 straps sampled at the release; reset DESIGN CHOICE 0, service mode (log 3) -/
  straps : BitVec 16
  deriving DecidableEq, Repr

/-- What a bank of the boot flash holds, or a staged image shows (R655, R661): whether an image with its
signature block stands there, the header's SVN, STATE_VERSION and STATE_MIN, and bytes 0 to 47 of the signature block
(R642). -/
structure FwHdr where
  present : Bool
  svn : Nat
  stateVersion : Nat
  stateMin : Nat
  sigHead : List Byte
  deriving DecidableEq, Repr

/-- What outlives a reset and the loss of power (R639, R655): the boot flash and the fuses. -/
structure Flash where
  /-- 1 bit; R655 ACTIVE of the boot record; reset DESIGN CHOICE 0 in the first power cycle (log 3) -/
  bootBank : Nat
  /-- 48 bytes and a policy byte; R638 operator record; reset DESIGN CHOICE none in the first power cycle (log 3) -/
  opRecord : Option (List Byte × Nat)
  /-- 64 fuse bits; R639 fused minimum SVN, 0 to 64; reset DESIGN CHOICE 0 in the first power cycle (log 3) -/
  minSvn : Nat
  /-- R655 bank A; reset DESIGN CHOICE an image with SVN 0 and STATE_VERSION 0 in the first power cycle (log 3) -/
  bankA : FwHdr
  /-- R655 bank B; reset DESIGN CHOICE absent in the first power cycle (log 3) -/
  bankB : FwHdr
  deriving DecidableEq, Repr

/-- Trust: the Obsidian core (R615 to R647) and the firmware banks. -/
structure Obs where
  /-- stage of R654: 1 boot, 2 firmware running, 0 stopped; R612 OBS_BOOT_STATE; reset 1 -/
  stage : Nat
  /-- 1 bit; R655 running bank; reset DESIGN CHOICE 0 (log 3) -/
  bank : Nat
  /-- 1 bit; R656 booted from the fallback bank; reset false -/
  fallback : Bool
  /-- 48 bytes; R638 operator key in force; reset none -/
  opKey : Option (List Byte)
  /-- R661 header of the running image; reset DESIGN CHOICE absent (log 3) -/
  running : FwHdr
  /-- R560, R662 image being delivered to the standby bank; reset EMPTY -/
  fw : Image
  /-- bytes by offset; R662 bytes of that image in the Caldera; reset empty -/
  fwData : List Host.Cell
  /-- R662 the staged image's header; reset none -/
  staged : Option FwHdr
  /-- R662 the FW_COMMIT whose flash write runs; reset none -/
  fwCmd : Option CmdHdr
  /-- R663 firmware takes no further command into processing; reset false -/
  draining : Bool
  /-- R663 the FW_HANDOVER in progress; reset none -/
  handover : Option CmdHdr
  /-- values drawn from the generator so far; R620; the MODEL's own counter of its free draws; reset DESIGN CHOICE 0 (log 3) -/
  drbg : Nat
  /-- 96 bits; R131 NB, drawn at boot; reset DESIGN CHOICE 0 (log 3) -/
  nb : Nat
  /-- 256 bits; R621 alias key, drawn at boot; reset none -/
  aKey : Option Nat
  /-- 48 bytes; R622, R663 bytes 0 to 47 of the signature block of the firmware booted; reset DESIGN CHOICE empty (log 3) -/
  bootHead : List Byte
  /-- 64 bits; R131 W; reset 0 -/
  wCount : Nat
  /-- 64 bits; R470 M; reset 0 -/
  mCount : Nat
  /-- R644 mailbox request being served: REQ and DATA_0; reset none -/
  mbox : Option (Nat × Nat)
  /-- 1 bit; R591, R644 the last request has completed and no word of a new one is written: OBS_MBOX_DATA reads the result words; reset false -/
  mboxServed : Bool
  /-- 16 words; R612 result words; reset DESIGN CHOICE empty, reading 0 (log 3) -/
  mboxOut : List Word
  /-- 16 bits; R612 OBS_MBOX_STATUS status word; reset DESIGN CHOICE 0 (log 3) -/
  mboxStatus : Nat
  deriving DecidableEq, Repr

/-- What the test port's instruction register holds (R691). -/
inductive TapInstr where
  | bypass | idcode | sample | extest | extestPulse | extestTrain
  deriving DecidableEq, Repr

/-- Pins and the board (R676 to R693). -/
structure Pins where
  /-- 1 bit; R682 SYS_RESET_N released; reset true (State.reset is the first tick after release) -/
  released : Bool
  /-- 1 bit; R681 every rail within tolerance; reset true -/
  powered : Bool
  /-- 1 bit; R687 REFCLK_SYS within its limits; reset true -/
  refclk : Bool
  /-- 16 bits; R677 straps sampled; reset DESIGN CHOICE 0, service mode (log 3) -/
  straps : BitVec 16
  /-- 1 bit; R693 THERMTRIP_N held low; reset false -/
  tripped : Bool
  /-- R602 the bit of GLB_RESET_CAUSE that the next release sets: 0 POWER, 1 PIN, 2 THERMAL; reset DESIGN CHOICE 0 (log 3) -/
  cause : Nat
  /-- R691 instruction in the test port; reset PRESUMED IDCODE, as IEEE 1149.1 has it (log 3) -/
  testInstr : TapInstr
  deriving DecidableEq, Repr

/-- The register file and its access state (R580 to R598). -/
structure RegFile where
  /-- 32 bits each, by address; R16, R17 values of writable registers and counters that differ from reset; reset empty -/
  vals : Tbl Word
  /-- 32 bits each, by address; R592 the values that govern since the last tick boundary; reset empty -/
  eff : Tbl Word
  /-- (master × 2^32 + address of _HI) to value; R589 shadows; reset empty (read as zero) -/
  shadow : Tbl Word
  /-- (master × 2^32 + address of _LO) to value; R590 holdings; reset empty -/
  holding : Tbl Word
  /-- domain to (address, value); R591 posted writes in progress; reset empty -/
  posted : Tbl (Nat × Word)
  /-- 7 bits; R690 I3C dynamic address of the management port; reset none -/
  dynAddr : Option Nat
  /-- 32 bits; R581 current address of the management port; reset 0 -/
  cur : Nat
  /-- by address; the tick from which a counter of physical events counts, since the read that cleared it (log 4); reset empty (tick 0) -/
  physFrom : Tbl Nat
  /-- words of the last register read answered, oldest first; R582, R586; reset empty -/
  readOut : List Word
  /-- 4,096 entries of 32 bytes; R594; reset empty -/
  errlog : Tbl ErrEnt
  /-- 32 bits; R594 GLB_ERRLOG_WPTR; reset DESIGN CHOICE 0 (log 3) -/
  wptr : Nat
  /-- (alert code, object) raised in this tick; R575; reset empty -/
  raised : List (Nat × Nat)
  deriving DecidableEq, Repr

/-- Pages, frames and Tephra copies (R98 to R113). -/
structure Pages where
  /-- 64 bits each, 2^32 entries; R100; reset empty (V = 0) -/
  ptes : Tbl Pte
  /-- 128 bits each, 6,291,456 entries; R104; reset empty (FREE) -/
  frames : Tbl Frame
  /-- 64 bits each; R105; reset empty (FREE) -/
  descs : Tbl Desc
  /-- table block to its eight frames; R99; reset empty -/
  blocks : Tbl (List Nat)
  /-- bytes; HBM contents by frame × 65,536 + offset, R418; reset DESIGN CHOICE zero where unlisted (log 2) -/
  hbm : List Host.Cell
  /-- R104 MOVE, R129 transfers outstanding; reset empty -/
  xfers : List Xfer
  /-- next TAG of a message the device sends; R460; reset DESIGN CHOICE 1 (log 3) -/
  nextTag : Nat
  /-- forks that wait or run; R115, R116, R268; reset empty -/
  forks : List ForkJob
  /-- parks awaited by a SESSION_PARK (command, entry, pages moved so far); R135; reset empty -/
  parks : List (CmdHdr × Nat × Nat)
  /-- 1 bit; R153 age parking has begun and runs until TMC_POOL_HIGH; reset false -/
  ageParking : Bool
  /-- (handle, ledger number) of whole-session evictions; R155; reset empty -/
  evicted : List (Nat × Nat)
  deriving DecidableEq, Repr

/-- Models, bindings and the switch engine (R282 to R294). -/
structure Models where
  /-- 32 model slots; R283; reset EMPTY -/
  slots : Tbl Model
  /-- 64 pipelines; R200 STATE, BOUND, MODEL; reset OFFLINE, unbound -/
  pipes : Tbl Pipe
  /-- R292 switches running; reset empty -/
  switches : List Switch
  deriving DecidableEq, Repr

/-- Adapters (R295 to R307). -/
structure Adapters where
  /-- 2^20 ids; R295, R299; reset no version -/
  ids : Tbl AdpId
  /-- R302 cached units; reset empty -/
  cache : List CacheUnit
  /-- R307 gathers in ledger order; reset empty -/
  gathers : List Gather
  deriving DecidableEq, Repr

/-- The Sinter codec (R226 to R241). -/
structure Sinter where
  /-- formats 1 to 15; R226, R255; reset undefined -/
  fmts : Tbl Fmt
  /-- by (domain × 32 + model) × 256 + layer; R232; reset empty -/
  books : Tbl Book
  /-- (entry, layer, tick); R241 runs not retried before the tick; reset empty -/
  retry : List (Nat × Nat × Nat)
  deriving DecidableEq, Repr

/-- The prefix index (R257 to R280). -/
structure Prefix' where
  /-- own tables 0 to 255, domain tables 256 + d; R260; reset empty -/
  tables : Tbl PfxTable
  /-- R278 commands in the unit or in their attach phase, in ledger order; reset empty -/
  jobs : List PfxJob
  /-- what open attaches see of holders whose destroy was stamped after them; R279; reset empty -/
  guard : List PfxGuard
  deriving DecidableEq, Repr

/-- Token services (R310 to R344). -/
structure Tokens where
  /-- 8 vocabulary slots; R310, R346; reset EMPTY -/
  vocabs : Tbl Vocab
  /-- by partition × 65,536 + id; R335; reset empty -/
  grams : Tbl Gram
  /-- R325 LOGITS accepted and without their token; reset empty -/
  logits : List LogitsReq
  deriving DecidableEq, Repr

/-- The retrieval engine (R347 to R375). -/
structure Retrieval where
  /-- by partition × 64 + local number; R347; reset none -/
  stores : Tbl Store
  /-- 16 bits each; R348 generation of the local number; reset DESIGN CHOICE 0 (log 3) -/
  gens : Tbl Nat
  /-- R366 queries running; reset empty -/
  queries : List Query
  deriving DecidableEq, Repr

/-- Vent and Mudpot cores (R379 to R413). -/
structure Cores where
  /-- Vent contexts core × 16 + ctx, Mudpot contexts 65,536 + core × 4 + ctx; R379, R399; reset free -/
  ctxs : Tbl VCtx
  /-- by core, Vent cores 0 to 4,095 and Mudpot cores from 4,096 on: the context from which the core looks for the next ready one;
  R380; reset DESIGN CHOICE context 0 (log 3) -/
  turn : Tbl Nat
  /-- 256 packages; R391; reset empty -/
  pkgs : Tbl Pkg
  /-- bytes; arena of package p at p × 2^24, R385; scratch of Mudpot contexts likewise, R399; reset DESIGN CHOICE zero (log 2) -/
  arena : List Host.Cell
  /-- R394 launches not completed; reset empty -/
  launches : List Launch
  /-- 64 clusters: 0 OFFLINE, 1 SERVING, 2 RETIRED, 3 TEST; R415; reset OFFLINE -/
  clusters : Tbl Nat
  /-- R407 write grants; reset empty -/
  grants : List Grant
  /-- R212 queued summary entries; reset empty -/
  sumQ : List SumJob
  deriving DecidableEq, Repr

/-- Fabric ports and routes (R445 to R478). -/
structure Fabric where
  /-- 57 ports; R477, R539; reset DOWN, 256 credits per VC; port 56 DOWN, DESIGN CHOICE no credits (log 3) -/
  ports : Tbl Port
  /-- 4,096 entries; R456; reset DESIGN CHOICE empty (log 3) -/
  routes : Tbl Route
  /-- (source, type, tag, tick) of messages accepted in the last 64 ticks; R455; reset empty -/
  seen : List (Nat × Nat × Nat × Nat)
  deriving DecidableEq, Repr

/-- Who raises a fault, and whether it is safe. No meaning of this model raises one: every row of the
table has an effect in the spec. -/
inductive Fault where
  /-- An access outside the 384 GiB of HBM (R44). Raised by no meaning; safe. -/
  | outsideHbm (addr : Nat)
  deriving DecidableEq, Repr

/-- Why a command has no meaning. -/
inductive Refusal where
  /-- The row has no meaning yet: raised by an arm of `exec` and by nothing else; safe. -/
  | notModelled (mnemonic : String)
  deriving DecidableEq, Repr

/-- Everything the device holds while it runs: lost at every reset but for `nv` (R46, R682). -/
structure Dev where
  /-- 64 bits; R47 tick counter; reset 0 -/
  tick : Nat
  /-- the MODEL's counter of free values read; reset DESIGN CHOICE 0 (log 4) -/
  freeCnt : Nat
  /-- R74 Event Ledger -/
  led : Ledger
  /-- R71, R75 timers of ledger input 0; reset empty -/
  timers : List Timer
  /-- 16,777,216 entries of 64 bytes by absolute index; R87; reset empty (FREE, generation 0) -/
  sess : Tbl SessEnt
  /-- R98 to R113 page tables, frames, copies -/
  pg : Pages
  /-- 16 target slots; R123; reset ABSENT -/
  tier : Tbl TSlot
  /-- 256 partitions; R615; reset partition 0 OPEN, others UNCONFIGURED -/
  parts : Tbl Part
  /-- R59 requests not answered, in ledger order; reset empty -/
  reqs : List Req
  /-- R57, R67 plan store and manifests -/
  plan : PlanStore
  /-- R539 host link -/
  host : HostLink
  /-- R282 models and bindings -/
  mdl : Models
  /-- R295 adapters -/
  adp : Adapters
  /-- R226 Sinter codec -/
  snt : Sinter
  /-- R257 prefix index -/
  pfx : Prefix'
  /-- R310 token services -/
  tok : Tokens
  /-- R347 retrieval engine -/
  rtv : Retrieval
  /-- R379 Vent and Mudpot cores -/
  vnt : Cores
  /-- R418 HBM upkeep -/
  hbm : HbmSt
  /-- R445 fabric -/
  fab : Fabric
  /-- R479 traffic scheduler -/
  tsh : Tsh
  /-- R502 snapshot and replication engine -/
  lah : Lahar
  /-- R648 power -/
  pwr : Power
  /-- R620 Obsidian core and firmware banks -/
  obs : Obs
  /-- R580 register file -/
  reg : RegFile
  /-- R639, R655 boot flash and fuses -/
  nv : Flash
  deriving DecidableEq, Repr

/-- The state of the model: the queue of waiting commands, the pins and the board, and the device. -/
structure State where
  /-- the MODEL's queue of waiting commands, first in first out; reset empty -/
  pending : List Instr
  /-- R676 pins, rails and clocks -/
  pins : Pins
  /-- R28 the sixteen subsystems -/
  dev : Dev
  deriving DecidableEq, Repr

/-- The configuration a partition holds before any PARTITION_CONFIG. CMD_SHARE 64 of partition 0 is log 3's. -/
def PartCfg.initial : PartCfg :=
  { pflags := 0, capMode := 0, publicDomain := 255, rtvStores := 0, slotMask := 0, sessBase := 0, sessCount := 0,
    hbmFrames := 0, tephraUnits := 0, pfxBuckets := 0, adpBase := 0, adpCount := 0, adpQuota := 0, chanBase := 0,
    chanCount := 4, cmdShare := 64 }

/-- Partition 0 after reset (R615): OPEN with channels 0 to 3, no keys. -/
def Part.zero : Part :=
  { st := .opened, cfg := PartCfg.initial, salt := 0, kem := none, tierKeys := [], replKeys := [], tol := 0,
    events := List.replicate 10 0, sampled := List.replicate 10 0, meters := List.replicate 8 0, subBase := 0,
    flowGroups := 1, attesting := none, resetCmd := none, lastSlot := 15, config := [] }

/-- The boot flash and fuses of a part in its first power cycle (log 3). -/
def Flash.initial : Flash :=
  { bootBank := 0, opRecord := none, minSvn := 0, bankA := ⟨true, 0, 0, 0, []⟩, bankB := ⟨false, 0, 0, 0, []⟩ }

/-- The device in the first tick after the release of SYS_RESET_N (R47, R544, R583, R615, R654), with what the
flash and the fuses hold. -/
def Dev.fresh (nv : Flash) : Dev :=
  { tick := 0, freeCnt := 0,
    led := { next := 0, buf := [], wptr := 0 },
    timers := [], sess := [],
    pg := { ptes := [], frames := [], descs := [], blocks := [], hbm := [], xfers := [], nextTag := 1, forks := [],
            parks := [], ageParking := false, evicted := [] },
    tier := [], parts := [(0, Part.zero)], reqs := [],
    plan := { active := none, standby := none, bank := [], total := 0, standbySt := 0, checkDetail := 0,
              swapTick := none, swaps := 0, finalCmd := none, fwPlan := none, prepared := [], descs := [], caldera := [],
              sealed := none, copying := false, store := [], latched := [], missed := true, prevCutoff := 27648, capture := [] },
    host := { cardRate := 0,
              chans := [(0, ⟨0, 0, 0, []⟩), (1, ⟨0, 0, 0, []⟩), (2, ⟨0, 0, 0, []⟩), (3, ⟨0, 0, 0, []⟩)], stamped := [], taken := [],
              unanswered := [], lastIntake := none },
    mdl := { slots := [], pipes := [], switches := [] },
    adp := { ids := [], cache := [], gathers := [] },
    snt := { fmts := [], books := [], retry := [] },
    pfx := { tables := [], jobs := [], guard := [] },
    tok := { vocabs := [], grams := [], logits := [] },
    rtv := { stores := [], gens := [], queries := [] },
    vnt := { ctxs := [], turn := [], pkgs := [], arena := [], launches := [], clusters := [], grants := [], sumQ := [] },
    hbm := { pcs := [], stks := [], errs := [], retire := none, retired := 0, bandOut := false, reloc := [], tracker := [],
             refreshQ := [], laneErrs := [], rowErrs := [], scrubbing := false, scrubDue := 0, refills := [] },
    fab := { ports := [], routes := [], seen := [] },
    tsh := { clock := 0, full := false, subs := [], queues := [], wheel := [], overflow := [], held := [], ports := [],
             changes := [], sampleQ := [], samplePos := 0, hwm := [] },
    lah := { st := 0, ringId := 0, members := 0, self := 0, shadowSlots := 0, releaseTicks := 0, epoch := 0,
             commit := 0, cutTo := none, cutWaits := false, closing := 0, work := [], sent := [], lastCut := 0, dPages := [], dObjs := [], pPages := [],
             pObjs := [], holds := [], promised := 0, marked := [], endDue := false, dSeq := 0, rSeq := 0,
             sinceCut := 0, unacked := [], lastSent := 0, baseEpoch := none, baseDue := false, backTo := 0,
             buddyLost := false, predSuspect := false, predTick := 0, fencedPred := false, inSeq := 0, inRel := 0,
             early := [], building := [], images := [], ended := [], tokLog := [], takeover := none,
             ckpt := [], jobs := [] },
    pwr := { st := 0, waking := false, throttle := false, fumarole := false, migrating := false, cursor := 0,
             tolDevice := 0, tol := 0, tempMax := 0, bgUse := List.replicate 7 0, bgNow := [], behind := [], busySimmer := false,
             busyDormant := false, refLost := [], straps := 0 },
    obs := { stage := 1, bank := 0, fallback := false, opKey := none, running := ⟨false, 0, 0, 0, []⟩,
             fw := ⟨0, 0, [], []⟩, fwData := [], staged := none, fwCmd := none, draining := false, handover := none,
             drbg := 0, nb := 0, aKey := none, bootHead := [], wCount := 0, mCount := 0, mbox := none, mboxServed := false, mboxOut := [],
             mboxStatus := 0 },
    reg := { vals := [(0x14, 1)], eff := [], shadow := [], holding := [], posted := [], dynAddr := none, cur := 0, physFrom := [], readOut := [], errlog := [], wptr := 0,
             raised := [] },
    nv := nv }

/-- R46, R127: what a device without power leaves: the flash, and the checkpoint images that lie on the targets. -/
def Dev.lost (d : Dev) : Dev :=
  let f := Dev.fresh d.nv
  { f with lah := { f.lah with ckpt := d.lah.ckpt } }

/-- The pins of a board in service right after the release of SYS_RESET_N (R677, R681). -/
def Pins.reset : Pins :=
  { released := true, powered := true, refclk := true, straps := 0, tripped := false, cause := 0, testInstr := .idcode }

/-- The machine right after the first release of SYS_RESET_N (R47, R682). -/
def State.reset : State := { pending := [], pins := Pins.reset, dev := Dev.fresh Flash.initial }

end Sys2Proof.Machine
end

