-- ==== Sys2Proof/Machine/Bits.lean ====
section
/-!
DEFINITION. Sys2Proof/Machine/Bits.lean: sparse tables, little-endian fields, serial comparison and the small
arithmetic that the rest of the model uses. All by structural recursion.
-/

namespace Sys2Proof.Machine

/-! ## Sparse tables -/

/-- The value a table holds at key `k`. -/
def tget {α : Type} : Tbl α → Nat → Option α
  | [], _ => none
  | (q, v) :: r, k => if k < q then none else if k = q then some v else tget r k

/-- The table with `v` at key `k`. -/
def tset {α : Type} : Tbl α → Nat → α → Tbl α
  | [], k, v => [(k, v)]
  | (q, w) :: r, k, v =>
    if k < q then (k, v) :: (q, w) :: r else if k = q then (k, v) :: r else (q, w) :: tset r k v

/-- The table without key `k`. -/
def tdel {α : Type} : Tbl α → Nat → Tbl α
  | [], _ => []
  | (q, w) :: r, k => if k < q then (q, w) :: r else if k = q then r else (q, w) :: tdel r k

/-- The table with the value at `k`, where there is one, replaced by `f` of it. -/
def tmod {α : Type} (t : Tbl α) (k : Nat) (f : α → α) : Tbl α :=
  match tget t k with
  | some v => tset t k (f v)
  | none => t

/-- The table with every value replaced. -/
def tmap {α : Type} (f : α → α) (t : Tbl α) : Tbl α := t.map fun p => (p.1, f p.2)

/-- The value at `k`, or `d`. -/
def tgetD {α : Type} (t : Tbl α) (k : Nat) (d : α) : α := (tget t k).getD d

/-- Keys strictly rise. -/
def tsorted {α : Type} : Tbl α → Bool
  | [] => true
  | [_] => true
  | (a, _) :: (b, w) :: r => decide (a < b) && tsorted ((b, w) :: r)

/-! ## Numbers -/

/-- R19: a precedes b among n-bit sequence numbers. -/
def precedes (n a b : Nat) : Bool :=
  let d := (b + 2 ^ n - a % 2 ^ n) % 2 ^ n
  decide (1 ≤ d) && decide (d ≤ 2 ^ (n - 1) - 1)

/-- a divided by b, rounded up (R18's ceil). -/
def ceilDiv (a b : Nat) : Nat := (a + b - 1) / b

/-- `a` rounded up to a multiple of `b`. -/
def roundUp (a b : Nat) : Nat := ceilDiv a b * b

/-- Bit `i` of `v`. -/
def bit (v i : Nat) : Bool := v / 2 ^ i % 2 == 1

/-- Bits [hi:lo] of `v` (R8). -/
def bits (v hi lo : Nat) : Nat := v / 2 ^ lo % 2 ^ (hi + 1 - lo)

/-- 0 or 1. -/
def b01 (b : Bool) : Nat := if b then 1 else 0

/-- The little-endian number that a byte string holds (R9). -/
def leNat : List Byte → Nat
  | [] => 0
  | b :: r => b.toNat + 256 * leNat r

/-- The `n` bytes of `v`, little-endian (R9). -/
def leBytes : Nat → Nat → List Byte
  | 0, _ => []
  | n + 1, v => BitVec.ofNat 8 v :: leBytes n (v / 256)

/-- The `n` bytes at offset `o` as a number; bytes beyond the end read as zero. -/
def field (l : List Byte) (o n : Nat) : Nat := leNat ((l.drop o).take n)

/-- Every byte is zero. -/
def allZero (l : List Byte) : Bool := l.all (· == 0)

/-- The big-endian number that a byte string holds. -/
def beNat (l : List Byte) : Nat := leNat l.reverse

/-- The `n` bytes of `v`, big-endian. -/
def beBytes (n v : Nat) : List Byte := (leBytes n v).reverse

/-- `l` cut into pieces of `n`, at most `fuel` of them. -/
def chunks {α : Type} (n : Nat) : Nat → List α → List (List α)
  | 0, _ => []
  | fuel + 1, l => if l.isEmpty then [] else l.take n :: chunks n fuel (l.drop n)

/-- The indices of `l` whose elements meet `p`. -/
def indicesOf {α : Type} (p : α → Bool) (l : List α) : List Nat :=
  (l.zipIdx.filter fun q => p q.1).map (·.2)

/-- The elements of a list numbered from 0. -/
def nth {α : Type} (l : List α) (i : Nat) : Option α := l[i]?

/-- `l` with element `i` replaced. -/
def setNth {α : Type} (l : List α) (i : Nat) (v : α) : List α := l.set i v

/-- `l` with element `i` changed by `f`. -/
def modNth {α : Type} (l : List α) (i : Nat) (f : α → α) : List α := l.modify i f

/-- Insertion into a list kept in order by `le`, after equal elements. -/
def insertBy {α : Type} (le : α → α → Bool) (x : α) : List α → List α
  | [] => [x]
  | y :: r => if le y x then y :: insertBy le x r else x :: y :: r

/-- Insertion sort, stable: `le y x` keeps y before x. -/
def sortBy {α : Type} (le : α → α → Bool) (l : List α) : List α := l.foldl (fun acc x => insertBy le x acc) []

/-- Names no element twice, the first occurrence staying. -/
def dedup {α : Type} [DecidableEq α] (l : List α) : List α :=
  l.foldl (fun acc x => if acc.contains x then acc else acc ++ [x]) []

/-- The least `k` in [lo, lo + n) for which `p` holds. -/
def firstFrom (p : Nat → Bool) : Nat → Nat → Option Nat
  | _, 0 => none
  | lo, n + 1 => if p lo then some lo else firstFrom p (lo + 1) n

/-- The `k` lowest free numbers of [0, n) that `used`, a list in rising order, leaves out, found by walking
`used` and not the whole range. -/
def lowestFree (used : List Nat) (start : Nat) : Nat :=
  match used with
  | [] => start
  | u :: r => if u < start then lowestFree r start else if u = start then lowestFree r (start + 1) else start

/-! ## Byte-addressed memory -/

/-- An unlisted address reads as zero (log 2). -/
def Memory.read (m : List Host.Cell) (a : Nat) : Byte := tgetD m a 0

/-- One byte written; writing the value an unlisted address reads as removes the entry. -/
def Memory.write (m : List Host.Cell) (a : Nat) (b : Byte) : List Host.Cell :=
  if b = 0 then tdel m a else tset m a b

/-- Bytes written from address `a` up. -/
def Memory.writeBytes : List Host.Cell → Nat → List Byte → List Host.Cell
  | m, _, [] => m
  | m, a, b :: r => Memory.writeBytes (Memory.write m a b) (a + 1) r

/-- The `n` bytes from address `a` up. -/
def Memory.readBytes (m : List Host.Cell) (a : Nat) : Nat → List Byte
  | 0 => []
  | n + 1 => Memory.read m a :: Memory.readBytes m (a + 1) n

/-- The range [a, a + n) set to zero. -/
def Memory.clear (m : List Host.Cell) (a n : Nat) : List Host.Cell :=
  m.filter fun c => decide (c.1 < a) || decide (a + n ≤ c.1)

/-- The cells of [a, a + n) with addresses from 0 up. -/
def Memory.slice (m : List Host.Cell) (a n : Nat) : List Host.Cell :=
  (m.filter fun c => decide (a ≤ c.1) && decide (c.1 < a + n)).map fun c => (c.1 - a, c.2)

/-- Cells written, each at its address moved up by `a`. -/
def Memory.paste : List Host.Cell → Nat → List Host.Cell → List Host.Cell
  | m, _, [] => m
  | m, a, c :: r => Memory.paste (Memory.write m (a + c.1) c.2) a r

/-- The range of `n` bytes at `dst` takes the contents of the range at `src`. -/
def Memory.copy (m : List Host.Cell) (src dst n : Nat) : List Host.Cell :=
  Memory.paste (Memory.clear m dst n) dst (Memory.slice m src n)

/-- The canonical form: addresses strictly rise and no entry equals what an unlisted address reads as. -/
def Memory.wf (m : List Host.Cell) : Bool := tsorted m && m.all fun c => c.2 != 0

/-- Bytes cut to n, or padded with zeros to n. -/
def fitTo (n : Nat) (l : List Byte) : List Byte := l.take n ++ List.replicate (n - l.length) 0

/-! ## Byte runs -/

/-- The part [o, o + n) of a list. -/
def slice {α : Type} (l : List α) (o n : Nat) : List α := (l.drop o).take n

/-- Padded with zeros to a multiple of n. -/
def padTo (n : Nat) (l : List Byte) : List Byte := l ++ List.replicate (roundUp l.length n - l.length) 0

/-- Zero bytes up to n in all. -/
def fillTo (n : Nat) (l : List Byte) : List Byte := l ++ List.replicate (n - l.length) 0

end Sys2Proof.Machine
end

