-- ==== Sys2Proof/Machine/Fp.lean ====
section
/-!
DEFINITION. Sys2Proof/Machine/Fp.lean: the scalar formats of R11 and R12 with exact intermediate values, the rounding
of R12, R189 and R215, and the elementary functions of R189.
-/

namespace Sys2Proof.Machine

/-! ## Exact values and rounding -/

/-- A decoded number: a finite one is (−1)^neg × m × 2^e. -/
inductive Fv where
  | nan
  | inf (neg : Bool)
  | fin (neg : Bool) (m : Nat) (e : Int)
  deriving DecidableEq, Repr

/-- Rounding: to nearest with ties to even (R12), or toward +∞ or −∞ (R215, R220). -/
inductive Rm where
  | near | up | down
  deriving DecidableEq, Repr

/-- A binary format: exponent bits, fraction bits, whether it saturates (FP8, R12), and whether its top exponent holds
only one NaN (E4M3). -/
structure FpFmt where
  eb : Nat
  mb : Nat
  sat : Bool
  small : Bool
  deriving DecidableEq, Repr

def fmt32 : FpFmt := ⟨8, 23, false, false⟩
def fmt16 : FpFmt := ⟨5, 10, false, false⟩
def fmtB16 : FpFmt := ⟨8, 7, false, false⟩
def fmtE4 : FpFmt := ⟨4, 3, true, true⟩
def fmtE5 : FpFmt := ⟨5, 2, true, false⟩

/-- The bias of the exponent. -/
def FpFmt.bias (f : FpFmt) : Nat := 2 ^ (f.eb - 1) - 1

/-- The exponent of the last place of a subnormal. -/
def FpFmt.emin (f : FpFmt) : Int := 1 - (f.bias : Int) - (f.mb : Int)

/-- The pattern of a number of the format. -/
def FpFmt.pattern (f : FpFmt) (neg : Bool) (ex man : Nat) : Nat :=
  b01 neg * 2 ^ (f.eb + f.mb) + ex * 2 ^ f.mb + man

/-- The pattern of infinity, of the largest finite magnitude and of NaN. -/
def FpFmt.infPat (f : FpFmt) (neg : Bool) : Nat := f.pattern neg (2 ^ f.eb - 1) 0
def FpFmt.maxPat (f : FpFmt) (neg : Bool) : Nat :=
  if f.small then f.pattern neg (2 ^ f.eb - 1) (2 ^ f.mb - 2) else f.pattern neg (2 ^ f.eb - 2) (2 ^ f.mb - 1)
def FpFmt.nanPat (f : FpFmt) : Nat :=
  if f.small then f.pattern false (2 ^ f.eb - 1) (2 ^ f.mb - 1) else f.pattern false (2 ^ f.eb - 1) (2 ^ (f.mb - 1))

/-- The number that a pattern stands for. -/
def FpFmt.decode (f : FpFmt) (v : Nat) : Fv :=
  let neg := bit v (f.eb + f.mb)
  let ex := v / 2 ^ f.mb % 2 ^ f.eb
  let man := v % 2 ^ f.mb
  if ex = 2 ^ f.eb - 1 ∧ f.small = false then (if man = 0 then .inf neg else .nan)
  else if ex = 2 ^ f.eb - 1 ∧ man = 2 ^ f.mb - 1 then .nan
  else if ex = 0 then .fin neg man f.emin
  else .fin neg (2 ^ f.mb + man) (f.emin + (ex : Int) - 1)

/-- m divided by 2^k, rounded. -/
def roundShift (rm : Rm) (neg : Bool) (m k : Nat) : Nat :=
  let q := m / 2 ^ k
  let r := m % 2 ^ k
  let up := match rm with
    | .near => decide (2 ^ k < 2 * r) || (2 * r == 2 ^ k && q % 2 == 1)
    | .up => !neg && r != 0
    | .down => neg && r != 0
  if up then q + 1 else q

/-- m × 2^e rounded to `p` significant bits with last place at least 2^emin; the mantissa may come out as 2^p. -/
def roundTo (p : Nat) (emin : Int) (rm : Rm) (neg : Bool) (m : Nat) (e : Int) : Nat × Int :=
  let nb := m.log2 + 1
  let k := max ((nb : Int) - p) (emin - e)
  if k ≤ 0 then
    let u := min (p - nb) (e - emin).toNat
    (m * 2 ^ u, e - u)
  else (roundShift rm neg m k.toNat, e + k)

/-- The pattern of a result beyond the largest finite magnitude (R12). -/
def FpFmt.overflow (f : FpFmt) (rm : Rm) (neg : Bool) : Nat :=
  if f.sat then f.maxPat neg
  else match rm, neg with
    | .up, true | .down, false => f.maxPat neg
    | _, _ => f.infPat neg

/-- A value rounded into the format. -/
def FpFmt.encode (f : FpFmt) (rm : Rm) : Fv → Nat
  | .nan => f.nanPat
  | .inf neg => if f.sat then f.maxPat neg else f.infPat neg
  | .fin neg m e =>
    if m = 0 then f.pattern neg 0 0
    else
      let r := roundTo (f.mb + 1) f.emin rm neg m e
      let r := if r.1 = 2 ^ (f.mb + 1) then (2 ^ f.mb, r.2 + 1) else r
      if r.1 < 2 ^ f.mb then f.pattern neg 0 r.1
      else
        let ex := (r.2 - f.emin + 1).toNat
        let man := r.1 - 2 ^ f.mb
        if 2 ^ f.eb - 1 < ex ∨ (ex = 2 ^ f.eb - 1 ∧ (f.small = false ∨ man = 2 ^ f.mb - 1)) then f.overflow rm neg
        else f.pattern neg ex man

/-! ## Exact operations -/

/-- The sign and magnitude of an integer times 2^e; an exact zero takes the sign `z`. -/
def Fv.ofInt (z : Bool) (i : Int) (e : Int) : Fv := .fin (if i = 0 then z else decide (i < 0)) i.natAbs e

/-- The integer of a finite number at the lower exponent e. -/
def alignInt (neg : Bool) (m : Nat) (em e : Int) : Int :=
  let v : Int := (m * 2 ^ (em - e).toNat : Nat)
  if neg then -v else v

def Fv.neg : Fv → Fv
  | .nan => .nan
  | .inf n => .inf (!n)
  | .fin n m e => .fin (!n) m e

def Fv.abs : Fv → Fv
  | .nan => .nan
  | .inf _ => .inf false
  | .fin _ m e => .fin false m e

/-- The exact sum. -/
def Fv.add : Fv → Fv → Fv
  | .nan, _ | _, .nan => .nan
  | .inf a, .inf b => if a = b then .inf a else .nan
  | .inf a, _ => .inf a
  | _, .inf b => .inf b
  | .fin a m x, .fin b n y =>
    let e := min x y
    .ofInt (a && b) (alignInt a m x e + alignInt b n y e) e

/-- The exact product. -/
def Fv.mul : Fv → Fv → Fv
  | .nan, _ | _, .nan => .nan
  | .inf a, .inf b => .inf (a != b)
  | .inf a, .fin b n _ => if n = 0 then .nan else .inf (a != b)
  | .fin a m _, .inf b => if m = 0 then .nan else .inf (a != b)
  | .fin a m x, .fin b n y => .fin (a != b) (m * n) (x + y)

/-- The quotient, to more bits than any format keeps, with a last bit that says whether anything is left. -/
def Fv.div : Fv → Fv → Fv
  | .nan, _ | _, .nan => .nan
  | .inf _, .inf _ => .nan
  | .inf a, .fin b _ _ => .inf (a != b)
  | .fin a _ _, .inf b => .fin (a != b) 0 0
  | .fin a m x, .fin b n y =>
    if n = 0 then (if m = 0 then .nan else .inf (a != b))
    else
      let s := 64 + n.log2
      let q := m * 2 ^ s / n
      .fin (a != b) (2 * q + b01 (m * 2 ^ s % n != 0)) (x - y - s - 1)

/-- The integer square root by bits: the result so far, the bit under test. -/
def isqrtAux (m : Nat) : Nat → Nat → Nat
  | 0, r => r
  | k + 1, r => let t := r + 2 ^ k; isqrtAux m k (if t * t ≤ m then t else r)

/-- The greatest integer whose square is at most m. -/
def isqrt (m : Nat) : Nat := isqrtAux m (m.log2 / 2 + 1) 0

/-- The square root, to more bits than any format keeps, with a last bit that says whether anything is left. -/
def Fv.sqrt : Fv → Fv
  | .nan => .nan
  | .inf n => if n then .nan else .inf false
  | .fin n m e =>
    if m = 0 then .fin n 0 0
    else if n then .nan
    else
      let odd := e % 2
      let v := m * 2 ^ odd.toNat * 2 ^ 128
      let r := isqrt v
      .fin false (2 * r + b01 (r * r != v)) ((e - odd) / 2 - 64 - 1)

/-- a < b; false where either is NaN. -/
def Fv.lt : Fv → Fv → Bool
  | .nan, _ | _, .nan => false
  | .inf a, .inf b => a && !b
  | .inf a, _ => a
  | _, .inf b => !b
  | .fin a m x, .fin b n y =>
    let e := min x y
    decide (alignInt a m x e < alignInt b n y e)

/-- a ≤ b; false where either is NaN. -/
def Fv.le (a b : Fv) : Bool := match a, b with
  | .nan, _ | _, .nan => false
  | _, _ => !b.lt a

/-- a = b as numbers. -/
def Fv.eqv (a b : Fv) : Bool := a.le b && b.le a

/-- An integer as an exact value. -/
def Fv.int (i : Int) : Fv := .ofInt false i 0

/-- 2^k. -/
def Fv.pow2 (k : Int) : Fv := .fin false 1 k

/-! ## binary32 -/

/-- The number that a binary32 pattern stands for. -/
def un (a : F32) : Fv := fmt32.decode a.toNat

/-- A value rounded to binary32. -/
def f32 (rm : Rm) (v : Fv) : F32 := BitVec.ofNat 32 (fmt32.encode rm v)

/-- R189: a binary32 subnormal result is flushed to zero, keeping the sign. -/
def flush (a : F32) : F32 := if a.toNat / 2 ^ 23 % 256 = 0 then a &&& 0x80000000 else a

/-- A pipeline's result: rounded once and flushed (R189). -/
def pip (v : Fv) : F32 := flush (f32 .near v)

def f32Zero : F32 := 0
def f32One : F32 := 0x3F800000
def f32NegInf : F32 := 0xFF800000
def f32Inf : F32 := 0x7F800000

/-- Neither NaN nor an infinity. -/
def finite32 (a : F32) : Bool := a.toNat / 2 ^ 23 % 256 != 255

/-- Arithmetic of the pipelines (R185 to R196). -/
def pAdd (a b : F32) : F32 := pip ((un a).add (un b))
def pMul (a b : F32) : F32 := pip ((un a).mul (un b))
def pDiv (a b : F32) : F32 := pip ((un a).div (un b))
def pSqrt (a : F32) : F32 := pip (un a).sqrt
def pFma (a b c : F32) : F32 := pip (((un a).mul (un b)).add (un c))

/-- Arithmetic elsewhere (R12). -/
def fAdd (a b : F32) : F32 := f32 .near ((un a).add (un b))
def fSub (a b : F32) : F32 := f32 .near ((un a).add (un b).neg)
def fMul (a b : F32) : F32 := f32 .near ((un a).mul (un b))
def fDiv (a b : F32) : F32 := f32 .near ((un a).div (un b))
def fFma (a b c : F32) : F32 := f32 .near (((un a).mul (un b)).add (un c))
def fSqrt (a : F32) : F32 := f32 .near (un a).sqrt

/-- Directed arithmetic (R215, R217, R220). -/
def dAdd (rm : Rm) (a b : F32) : F32 := f32 rm ((un a).add (un b))
def dMul (rm : Rm) (a b : F32) : F32 := f32 rm ((un a).mul (un b))

def fNeg (a : F32) : F32 := a ^^^ 0x80000000
def fAbs (a : F32) : F32 := a &&& 0x7FFFFFFF
def fLt (a b : F32) : Bool := (un a).lt (un b)
def fLe (a b : F32) : Bool := (un a).le (un b)
def fMax (a b : F32) : F32 := if fLt a b then b else a
def fMin (a b : F32) : F32 := if fLt b a then b else a

/-- An integer rounded to binary32. -/
def fInt (i : Int) : F32 := f32 .near (Fv.int i)

/-! ## Conversions (R11, R12) -/

/-- A stored element widened exactly: the ELEM codes of R168. -/
def elemFmt (elem : Nat) : FpFmt := match elem with | 0 => fmtE4 | 1 => fmtE5 | 2 => fmtB16 | _ => fmt32

/-- A pattern of a format widened to binary32. -/
def widen (f : FpFmt) (v : Nat) : F32 := f32 .near (f.decode v)

/-- A binary32 number converted to a format. -/
def narrow (f : FpFmt) (a : F32) : Nat := f.encode .near (un a)

/-- A bfloat16 pattern widened. -/
def ofBf16 (v : Nat) : F32 := BitVec.ofNat 32 (v % 65536 * 65536)

/-- Rounded once to bfloat16 and widened again. -/
def viaBf16 (a : F32) : F32 := widen fmtB16 (narrow fmtB16 a)

/-- Converted to E4M3 and widened again. -/
def viaE4m3 (a : F32) : F32 := widen fmtE4 (narrow fmtE4 a)

/-- R183, R210: 2^⌈log₂(a ÷ 448)⌉ for a > 0, and 1 for 0. -/
def pow2Scale (a : F32) : F32 := match un a with
  | .fin _ m e =>
    if m = 0 then f32One
    else
      -- the least k with m × 2^e ≤ 448 × 2^k; m × 2^e lies in [2^(nb-1+e), 2^(nb+e))
      let k0 : Int := (m.log2 : Int) + e - 9
      let ok := fun k : Int => (Fv.fin false m e).le (.fin false 448 k)
      let k := if ok k0 then k0 else if ok (k0 + 1) then k0 + 1 else k0 + 2
      f32 .near (Fv.pow2 k)
  | _ => f32One

/-! ## Elementary functions (R189) -/

/-- Fixed point with 128 fraction bits: ln 2 and 2π. -/
def fixLn2 : Int := 235865763225513294137944142764154484399
def fixTwoPi : Int := 2138057168129933495719360746323741566601
def fixOne : Int := 2 ^ 128

/-- A product of fixed-point numbers. -/
def fixMul (a b : Int) : Int := a * b / fixOne

/-- m × 2^e in fixed point. -/
def toFix (neg : Bool) (m : Nat) (e : Int) : Int :=
  let v : Int := if -128 ≤ e then (m * 2 ^ (e + 128).toNat : Nat) else (m / 2 ^ (-128 - e).toNat : Nat)
  if neg then -v else v

/-- The sum of a power series whose next term is the last one times x over the product of the next numbers. -/
def seriesSum (x : Int) (d : Nat → Int) : Nat → Nat → Int → Int → Int
  | 0, _, _, acc => acc
  | fuel + 1, k, term, acc =>
    let t := fixMul term x / d k
    seriesSum x d fuel (k + 1) t (acc + t)

/-- exp of a fixed-point number ≤ 0, as a fixed-point fraction and the power of two it is divided by. -/
def expFix (x : Int) : Int × Nat :=
  let n := (-x / fixLn2).toNat
  let r := x + (n : Int) * fixLn2
  (seriesSum r (fun k => (k + 1 : Nat)) 40 0 fixOne fixOne, n)

/-- ln of m × 2^e, m > 0. -/
def lnFix (m : Nat) (e : Int) : Int :=
  let k := m.log2
  let y := toFix false m (-(k : Int))
  let z := (y - fixOne) * fixOne / (y + fixOne)
  let z2 := fixMul z z
  let rec go : Nat → Nat → Int → Int → Int
    | 0, _, _, acc => acc
    | fuel + 1, j, p, acc => let p := fixMul p z2; go fuel (j + 2) p (acc + p / ((j + 2 : Nat) : Int))
  2 * go 60 1 z z + ((k : Int) + e) * fixLn2

/-- cos and sin of a fixed-point angle, reduced to [−π, π). -/
def trigFix (phi : Int) : Int × Int :=
  let r := (phi + fixTwoPi / 2) % fixTwoPi - fixTwoPi / 2
  let r2 := -(fixMul r r)
  (seriesSum r2 (fun k => ((2 * k + 1) * (2 * k + 2) : Nat)) 30 0 fixOne fixOne,
   seriesSum r2 (fun k => ((2 * k + 2) * (2 * k + 3) : Nat)) 30 0 r r)

/-- A fixed-point number as an exact value. -/
def ofFix (v : Int) (sh : Nat) : Fv := Fv.ofInt false v (-128 - (sh : Int))

/-- The unit's result `cand` where it lies within `bound` of the value, otherwise the value rounded (log 8). -/
def withinBound (cand : F32) (v bound : Fv) : F32 :=
  if finite32 cand && (((un cand).add v.neg).abs).le bound then flush cand else pip v

/-- 2⁻²¹ of a value's magnitude. -/
def relBound (v : Fv) : Fv := v.abs.mul (Fv.pow2 (-21))

/-- R189: exp(x) for x ≤ 0; 0 below −87, and 1 for 0 as R326 states it. -/
def pExp (x : F32) : F32 := match un x with
  | .nan => x
  | .inf neg => if neg then 0 else f32Inf
  | .fin neg m e =>
    if m = 0 then f32One
    else if neg && (un x).lt (Fv.int (-87)) then 0
    else
      let r := expFix (toFix true m e)
      let v := ofFix r.1 r.2
      withinBound (Config.expCand x) v (relBound v)

/-- R189: tanh. -/
def pTanh (x : F32) : F32 := match un x with
  | .nan => x
  | .inf neg => withinBound (Config.fnCand 0 x 0) (.fin neg 1 0) (Fv.pow2 (-21))
  | .fin neg m e =>
    -- beyond 64 the value is ±1 to more bits than the bound
    let r := if (Fv.fin false m e).lt (Fv.int 64) then expFix (toFix true m (e + 1)) else (0, 0)
    let t : Int := r.1 / 2 ^ r.2
    let v := (fixOne - t) * fixOne / (fixOne + t)
    withinBound (Config.fnCand 0 x 0) (ofFix (if neg then -v else v) 0) (Fv.pow2 (-21))

/-- R189: sin and cos of an angle of R177. -/
def pSin (x : F32) : F32 := match un x with
  | .fin neg m e => withinBound (Config.fnCand 1 x 0) (ofFix (trigFix (toFix neg m e)).2 0) (Fv.pow2 (-21))
  | _ => x
def pCos (x : F32) : F32 := match un x with
  | .fin neg m e => withinBound (Config.fnCand 2 x 0) (ofFix (trigFix (toFix neg m e)).1 0) (Fv.pow2 (-21))
  | _ => x

/-- R177, R189: b^y for b > 1 and y ≤ 0. R168 does not bar an infinite base: DESIGN CHOICE (log 8), its power is 0 for y < 0. -/
def pPow (b y : F32) : F32 := match un b, un y with
  | .inf _, .fin _ n _ => if n = 0 then f32One else 0
  | .fin _ m e, .fin _ n k =>
    let x := fixMul (lnFix m e) (toFix true n k)
    let r := expFix x
    let v := ofFix r.1 r.2
    withinBound (Config.fnCand 3 b y) v (relBound v)
  | _, _ => f32One

/-- The natural logarithm of a positive number, within 2⁻²¹ (log 8: no file of the spec bounds its error). -/
def pLn (x : F32) : F32 := match un x with
  | .fin _ m e =>
    if m = 0 then f32NegInf
    else withinBound (Config.fnCand 4 x 0) (ofFix (lnFix m e) 0) (Fv.pow2 (-21))
  | _ => x

/-! ## Sums -/

/-- A chain of fused multiply-adds from 0, in list order (R195, R196). -/
def fmaChain (l : List (F32 × F32)) : F32 := l.foldl (fun s q => pFma q.1 q.2 s) 0

/-- A sum of rounded products, one rounding for each addition, in list order (R185). -/
def dotRound (l : List (F32 × F32)) : F32 := l.foldl (fun s q => pAdd s (pip ((un q.1).mul (un q.2)))) 0

/-- The same outside the pipelines (R356, R358). -/
def dotPlain (l : List (F32 × F32)) : F32 := l.foldl (fun s q => fAdd s (fMul q.1 q.2)) 0

end Sys2Proof.Machine
end

