-- ==== Sys2Proof/Machine/Layouts.lean ====
section
/-!
DEFINITION. Sys2Proof/Machine/Layouts.lean: byte layouts that no file of the spec gives, as opaque constants of Config
(log 28): what a control page holds (R88) and what the frames of the objects of R518 hold.
-/

namespace Sys2Proof

/-- The 65,536 bytes of a control page (R88). -/
opaque Config.ctrlBytes : Machine.Ctrl → List Byte
/-- What the bytes of a control page hold. -/
opaque Config.ctrlOf : List Byte → Option Machine.Ctrl
/-- The store that a run of frames holds. -/
opaque Config.storeOf : List (List Byte) → Option Machine.Store
/-- Frame n of a book slot (R230). -/
opaque Config.bookFrame : Machine.BookSlot → Nat → List Byte
/-- The book slot that a run of frames holds. -/
opaque Config.bookOf : List (List Byte) → Option Machine.BookSlot
/-- An adapter id's entry in the adapter table (R299, R302). -/
opaque Config.adapterFrame : Machine.AdpId → List Byte
/-- The adapter id that such a frame holds. -/
opaque Config.adapterOf : List Byte → Option Machine.AdpId
/-- LENGTH of the image that stands in a run of frames: no field of the image holds it (R336). -/
opaque Config.imageLength : List (List Byte) → Nat

end Sys2Proof
end

