-- ==== Sys2Proof/Machine/Addrs.lean ====
section
/-!
DEFINITION. Sys2Proof/Machine/Addrs.lean: the register map (R16, R599 and the register tables of the chapters): the
address of each register under its own name, an array's as a function of its index, and `regRows`, the access type
and reset value of each. A reset value the spec does not give is 0 (log 3).
-/

namespace Sys2Proof.Machine

/-! GLB -/
def Addr.GLB_DEVICE_ID : Nat := 0x0
def Addr.GLB_SERIAL_LO : Nat := 0x8
def Addr.GLB_SERIAL_HI : Nat := 0xC
def Addr.GLB_STRAPS : Nat := 0x10
def Addr.GLB_RESET_CAUSE : Nat := 0x14
def Addr.GLB_ALERT_STATUS : Nat := 0x20
def Addr.GLB_ALERT_MASK : Nat := 0x24
def Addr.GLB_ERRLOG_WPTR : Nat := 0x30
def Addr.GLB_ERRLOG_RPTR : Nat := 0x34
def Addr.GLB_ERRLOG_OVF : Nat := 0x38
def Addr.GLB_ERRLOG (i w : Nat) : Nat := 0x10000 + 0x20 * i + 0x4 * w
/-! FSQ -/
def Addr.FSQ_TICK_CNT_LO : Nat := 0x100000
def Addr.FSQ_TICK_CNT_HI : Nat := 0x100004
def Addr.FSQ_ACTIVE_PLAN_LO : Nat := 0x100008
def Addr.FSQ_ACTIVE_PLAN_HI : Nat := 0x10000C
def Addr.FSQ_STANDBY_PLAN_LO : Nat := 0x100010
def Addr.FSQ_STANDBY_PLAN_HI : Nat := 0x100014
def Addr.FSQ_PLAN_STATE : Nat := 0x100018
def Addr.FSQ_SWAP_TICK_LO : Nat := 0x100020
def Addr.FSQ_SWAP_TICK_HI : Nat := 0x100024
def Addr.FSQ_MANIFEST_BASE_LO : Nat := 0x100030
def Addr.FSQ_MANIFEST_BASE_HI : Nat := 0x100034
def Addr.FSQ_MANIFEST_COUNT : Nat := 0x100038
def Addr.FSQ_MANIFEST_SEAL : Nat := 0x10003C
def Addr.FSQ_MANIFEST_STATUS : Nat := 0x100040
def Addr.FSQ_LATE_RSP_CNT : Nat := 0x100050
def Addr.FSQ_MANIFEST_MISS_CNT : Nat := 0x100054
def Addr.FSQ_MANIFEST_SKIP_CNT : Nat := 0x100058
/-! ELG -/
def Addr.ELG_CAP_BASE_LO : Nat := 0x200000
def Addr.ELG_CAP_BASE_HI : Nat := 0x200004
def Addr.ELG_CAP_CTRL : Nat := 0x200008
def Addr.ELG_CAP_WPTR : Nat := 0x20000C
def Addr.ELG_CAP_DROP_CNT : Nat := 0x200010
def Addr.ELG_NEXT_SEQ_LO : Nat := 0x200018
def Addr.ELG_NEXT_SEQ_HI : Nat := 0x20001C
/-! FAB -/
def Addr.FAB_STATUS : Nat := 0x300000
def Addr.FAB_LANE_DROP_THRESH : Nat := 0x300004
def Addr.FAB_SRC_REJ_CNT : Nat := 0x300010
def Addr.FAB_OVERSIZE_CNT : Nat := 0x300014
def Addr.FAB_GCM_FAIL_CNT : Nat := 0x300018
def Addr.FAB_DUP_CNT : Nat := 0x30001C
def Addr.FAB_WIDTH_CHG_CNT : Nat := 0x300020
def Addr.FAB_PORT_CTRL (n : Nat) : Nat := 0x301000 + 0x10 * n
def Addr.FAB_PORT_STATE (n : Nat) : Nat := 0x301004 + 0x10 * n
def Addr.FAB_PORT_FEC_CE (n : Nat) : Nat := 0x301008 + 0x10 * n
def Addr.FAB_PORT_FEC_UE (n : Nat) : Nat := 0x30100C + 0x10 * n
def Addr.FAB_REPLAY_CNT (n : Nat) : Nat := 0x301400 + 0x4 * n
def Addr.FAB_LANE_PRBS_ERR (n : Nat) : Nat := 0x302000 + 0x4 * n
/-! TSH -/
def Addr.TSH_MODE : Nat := 0x400000
def Addr.TSH_PORT_LEAD : Nat := 0x400004
def Addr.TSH_SAMPLE_BASE_LO : Nat := 0x400008
def Addr.TSH_SAMPLE_BASE_HI : Nat := 0x40000C
def Addr.TSH_SAMPLE_CTRL : Nat := 0x400010
def Addr.TSH_HWM_SEL : Nat := 0x400014
def Addr.TSH_HWM_DEPTH : Nat := 0x400018
def Addr.TSH_HWM_DELAY : Nat := 0x40001C
def Addr.TSH_LATE_CNT : Nat := 0x400020
def Addr.TSH_REENTER_CNT : Nat := 0x400024
def Addr.TSH_HOLD_CNT : Nat := 0x400028
def Addr.TSH_OVERFLOW_USED : Nat := 0x40002C
/-! VNT -/
def Addr.VNT_CLUSTER_STATE (n : Nat) : Nat := 0x500000 + 0x4 * n
def Addr.VNT_LAUNCH_CNT : Nat := 0x500100
def Addr.VNT_FAULT_CNT : Nat := 0x500104
def Addr.VNT_BUDGET_CNT : Nat := 0x500108
def Addr.VNT_DEFER_CNT : Nat := 0x50010C
/-! SPM -/
def Addr.SPM_QUAR_CNT : Nat := 0x600000
def Addr.SPM_STICKY_CNT : Nat := 0x600004
def Addr.SPM_ILLEGAL_EVT_CNT : Nat := 0x600008
def Addr.SPM_SESS_USED : Nat := 0x60000C
def Addr.SPM_FRAMES_FREE : Nat := 0x600010
def Addr.SPM_TBLOCKS : Nat := 0x600014
def Addr.SPM_PART_SEL : Nat := 0x600020
def Addr.SPM_PART_SESS : Nat := 0x600024
def Addr.SPM_PART_FRAMES : Nat := 0x600028
def Addr.SPM_PART_UNITS : Nat := 0x60002C
def Addr.SPM_PART_STICKY : Nat := 0x600030
/-! TMC -/
def Addr.TMC_STATUS : Nat := 0x700000
def Addr.TMC_PC_STATE (n : Nat) : Nat := 0x700100 + 0x4 * n
def Addr.TMC_OUTER_CE_CNT : Nat := 0x700500
def Addr.TMC_OUTER_UE_CNT : Nat := 0x700504
def Addr.TMC_INNER_CE_CNT : Nat := 0x700508
def Addr.TMC_INNER_UE_CNT : Nat := 0x70050C
def Addr.TMC_SCRUB_PERIOD : Nat := 0x700510
def Addr.TMC_SCRUB_PASS_CNT : Nat := 0x700514
def Addr.TMC_SCRUB_REFILL_CNT : Nat := 0x700518
def Addr.TMC_ROW_WEAR_THRESH : Nat := 0x70051C
def Addr.TMC_ROW_MITIG_CNT : Nat := 0x700520
def Addr.TMC_ROW_REPAIR_CNT : Nat := 0x700524
def Addr.TMC_ROW_REPAIR_FAIL_CNT : Nat := 0x700528
def Addr.TMC_BAND_HOLD : Nat := 0x70052C
def Addr.TMC_RETIRE_CURSOR : Nat := 0x700530
def Addr.TMC_PC_FAIL_THRESH : Nat := 0x700534
def Addr.TMC_PHY_CTRL (n : Nat) : Nat := 0x700800 + 0x10 * n
def Addr.TMC_PHY_TRAIN (n : Nat) : Nat := 0x700804 + 0x10 * n
def Addr.TMC_PHY_TEMP (n : Nat) : Nat := 0x700808 + 0x10 * n
def Addr.TMC_PHY_BANKS (n : Nat) : Nat := 0x70080C + 0x10 * n
def Addr.TMC_TGT_STATUS (n : Nat) : Nat := 0x780000 + 0x10 * n
def Addr.TMC_TGT_FREE (n : Nat) : Nat := 0x780004 + 0x10 * n
def Addr.TMC_TGT_CAP (n : Nat) : Nat := 0x780008 + 0x10 * n
def Addr.TMC_TGT_LATE_CNT (n : Nat) : Nat := 0x78000C + 0x10 * n
def Addr.TMC_POOL_FREE : Nat := 0x780100
def Addr.TMC_POOL_LOW : Nat := 0x780104
def Addr.TMC_POOL_HIGH : Nat := 0x780108
def Addr.TMC_TIER_TIMEOUT : Nat := 0x78010C
def Addr.TMC_TAG_FAIL_CNT : Nat := 0x780110
def Addr.TMC_AGE_PARK_CNT : Nat := 0x780114
def Addr.TMC_CLEAN_EVICT_CNT : Nat := 0x780118
def Addr.TMC_SESS_EVICT_CNT : Nat := 0x78011C
/-! MUD -/
def Addr.MUD_STATUS : Nat := 0x800000
def Addr.MUD_OP_CORES : Nat := 0x800004
def Addr.MUD_OP_SHARE : Nat := 0x800008
def Addr.MUD_GRANT_CNT : Nat := 0x80000C
def Addr.MUD_REFUSE_CNT : Nat := 0x800010
def Addr.MUD_REVOKE_CNT : Nat := 0x800014
def Addr.MUD_RESEAL_CNT : Nat := 0x800018
def Addr.MUD_SUM_SPLIT_CNT : Nat := 0x80001C
def Addr.MUD_SUM_TARGET : Nat := 0x804000
def Addr.MUD_SUM_BACKLOG : Nat := 0x804004
def Addr.MUD_SUM_BUILT_CNT : Nat := 0x804008
def Addr.MUD_SUM_LATE_CNT : Nat := 0x80400C
/-! GEY -/
def Addr.GEY_PIPE_STATE (n : Nat) : Nat := 0x900000 + 0x4 * n
def Addr.GEY_VISIT_DENSE_CNT : Nat := 0x900100
def Addr.GEY_VISIT_CODE_CNT : Nat := 0x900104
def Addr.GEY_MERGE_CARRY_CNT : Nat := 0x900108
def Addr.GEY_INPUT_REJ_CNT : Nat := 0x90010C
def Addr.GEY_RECUR_TOK_CNT : Nat := 0x900110
def Addr.GEY_SEL_KEPT_CNT : Nat := 0x900200
def Addr.GEY_SEL_DROP_CNT : Nat := 0x900204
def Addr.GEY_SEL_SKIP_CNT : Nat := 0x900208
def Addr.GEY_SEL_NOSUM_CNT : Nat := 0x90020C
def Addr.GEY_SEL_THAW_CNT : Nat := 0x900210
def Addr.GEY_CODE_SWEEP_CNT : Nat := 0x900300
def Addr.GEY_CODE_REBUILD_CNT : Nat := 0x900304
/-! SNT -/
def Addr.SNT_FMT (n : Nat) : Nat := 0xA00000 + 0x4 * n
def Addr.SNT_ENC_RUN_CNT : Nat := 0xA00100
def Addr.SNT_ENC_ABORT_CNT : Nat := 0xA00104
def Addr.SNT_DAMAGE_CNT : Nat := 0xA00108
def Addr.SNT_BOOK_BUILD_CNT : Nat := 0xA0010C
def Addr.SNT_BOOK_WAIT_CNT : Nat := 0xA00110
def Addr.SNT_BACKLOG : Nat := 0xA00114
def Addr.SNT_STATE_ENC_CNT : Nat := 0xA00118
def Addr.SNT_REFRESH_RATIO : Nat := 0xA0011C
def Addr.SNT_REF_THRESH : Nat := 0xA00120
/-! PFX -/
def Addr.PFX_LOOKUP_CNT : Nat := 0xB00000
def Addr.PFX_HIT_CNT : Nat := 0xB00004
def Addr.PFX_ATTACH_PAGE_CNT : Nat := 0xB00008
def Addr.PFX_INSERT_CNT : Nat := 0xB0000C
def Addr.PFX_EVICT_CNT : Nat := 0xB00010
def Addr.PFX_STALE_CNT : Nat := 0xB00014
def Addr.PFX_BUCKETS_USED : Nat := 0xB00018
/-! ADP -/
def Addr.ADP_MODEL_STATE (n : Nat) : Nat := 0xC00000 + 0x4 * n
def Addr.ADP_MODEL_SESS (n : Nat) : Nat := 0xC00080 + 0x4 * n
def Addr.ADP_WINDOW_SIZE : Nat := 0xC00100
def Addr.ADP_WINDOW_USED : Nat := 0xC00104
def Addr.ADP_SWITCH_CNT : Nat := 0xC00108
def Addr.ADP_CACHE_FRAMES : Nat := 0xC0010C
def Addr.ADP_CACHE_USED : Nat := 0xC00110
def Addr.ADP_GATHER_CNT : Nat := 0xC00114
def Addr.ADP_GATHER_LATE_CNT : Nat := 0xC00118
def Addr.ADP_CACHE_EVICT_CNT : Nat := 0xC0011C
def Addr.ADP_THAW_CNT : Nat := 0xC00120
/-! TOK -/
def Addr.TOK_VOCAB_STATE (n : Nat) : Nat := 0xD00000 + 0x4 * n
def Addr.TOK_TOKENIZE_BYTE_CNT : Nat := 0xD00100
def Addr.TOK_SAMPLE_CNT : Nat := 0xD00104
def Addr.TOK_HOST_CHOICE_CNT : Nat := 0xD00108
def Addr.TOK_HOST_TIMEOUT_CNT : Nat := 0xD0010C
def Addr.TOK_LATE_REPLY_CNT : Nat := 0xD00110
def Addr.TOK_GRAMMAR_DEAD_CNT : Nat := 0xD00114
def Addr.TOK_PEN_FULL_CNT : Nat := 0xD00118
def Addr.TOK_STOP_CNT : Nat := 0xD0011C
def Addr.TOK_CACHE_MISS_CNT : Nat := 0xD00120
/-! RTV -/
def Addr.RTV_QUERY_CNT : Nat := 0xE00000
def Addr.RTV_QUERY_LATE_CNT : Nat := 0xE00004
def Addr.RTV_INSERT_CNT : Nat := 0xE00008
def Addr.RTV_DELETE_CNT : Nat := 0xE0000C
def Addr.RTV_STALE_EDGES : Nat := 0xE00010
def Addr.RTV_VISIT_CAP_CNT : Nat := 0xE00014
def Addr.RTV_MERGE_ROUND_CNT : Nat := 0xE00018
def Addr.RTV_SLOT_QUAR_CNT : Nat := 0xE0001C
def Addr.RTV_SIDE_BACKLOG : Nat := 0xE00020
def Addr.RTV_STORES_USED : Nat := 0xE00024
def Addr.RTV_STORE_SEL : Nat := 0xE00028
def Addr.RTV_STORE_STATUS : Nat := 0xE0002C
/-! LAH -/
def Addr.LAH_STATUS : Nat := 0xF00000
def Addr.LAH_EPOCH_TICKS : Nat := 0xF00004
def Addr.LAH_EPOCH_LO : Nat := 0xF00008
def Addr.LAH_EPOCH_HI : Nat := 0xF0000C
def Addr.LAH_COMMIT_LO : Nat := 0xF00010
def Addr.LAH_COMMIT_HI : Nat := 0xF00014
def Addr.LAH_RESERVE_MIN : Nat := 0xF00018
def Addr.LAH_RESERVE_FREE : Nat := 0xF0001C
def Addr.LAH_SUSPECT_TICKS : Nat := 0xF00020
def Addr.LAH_RESEND_MAX : Nat := 0xF00024
def Addr.LAH_HELD_TOKENS : Nat := 0xF00028
def Addr.LAH_RESEND_CNT : Nat := 0xF0002C
def Addr.LAH_MARK_WAIT_CNT : Nat := 0xF00030
def Addr.LAH_CUT_DEFER_CNT : Nat := 0xF00034
def Addr.LAH_FORCED_CNT : Nat := 0xF00038
/-! OBS -/
def Addr.OBS_MBOX_STATUS : Nat := 0x1000000
def Addr.OBS_MBOX_CMD : Nat := 0x1000004
def Addr.OBS_MBOX_DATA (n : Nat) : Nat := 0x1000010 + 0x4 * n
def Addr.OBS_BOOT_STATE : Nat := 0x1000100
def Addr.OBS_KEY_SEL : Nat := 0x1000104
def Addr.OBS_KEY_STATE : Nat := 0x1000108
def Addr.OBS_METER_SEL : Nat := 0x1000200
def Addr.OBS_METER_LO : Nat := 0x1000204
def Addr.OBS_METER_HI : Nat := 0x1000208
def Addr.OBS_MEAS (m w : Nat) : Nat := 0x1000300 + 0x20 * m + 0x4 * w
/-! PWR -/
def Addr.PWR_STATE : Nat := 0x1100000
def Addr.PWR_TOL_DEVICE : Nat := 0x1100004
def Addr.PWR_RAIL_V (n : Nat) : Nat := 0x1100010 + 0x4 * n
def Addr.PWR_RAIL_I (n : Nat) : Nat := 0x1100030 + 0x4 * n
def Addr.PWR_TEMP_MAX : Nat := 0x1100050
def Addr.PWR_THERM_LIMIT : Nat := 0x1100054
def Addr.PWR_BG_USE (n : Nat) : Nat := 0x1100100 + 0x4 * n
def Addr.PWR_CLK_STATE : Nat := 0x1100200
/-! TST -/
def Addr.TST_MODE : Nat := 0x1200000
def Addr.TST_BIST_CTRL : Nat := 0x1200004
def Addr.TST_BIST_RESULT : Nat := 0x1200008
def Addr.TST_FUSE_STATUS : Nat := 0x120000C
/-! HLK -/
def Addr.HLK_STATUS : Nat := 0x1300000
def Addr.HLK_CTRL : Nat := 0x1300004
def Addr.HLK_CARD_RATE : Nat := 0x1300008
def Addr.HLK_CMD_CNT : Nat := 0x1300010
def Addr.HLK_BAD_CHAN_CNT : Nat := 0x1300014
def Addr.HLK_WINDOW_VIOL_CNT : Nat := 0x1300018
def Addr.HLK_FEC_CE_CNT : Nat := 0x130001C
def Addr.HLK_FEC_UE_CNT : Nat := 0x1300020
def Addr.HLK_REPLAY_CNT : Nat := 0x1300024
def Addr.HLK_WIDTH_CHG_CNT : Nat := 0x1300028
def Addr.HLK_CHAN_SEL : Nat := 0x1300030
def Addr.HLK_CHAN_STATE : Nat := 0x1300034
def Addr.HLK_CHAN_OUT : Nat := 0x1300038
def Addr.HLK_PRBS_ERR (n : Nat) : Nat := 0x1300100 + 0x4 * n

/-- The access types of R17. -/
inductive RegKind where
  | ro | rw | rc | wo | wp
  deriving DecidableEq, Repr

/-- A row of a register table: first address, distance and number of the array's registers (one where the row is no
array), access type, PRV, reset value. -/
structure RegRow where
  lo : Nat
  stride : Nat
  count : Nat
  kind : RegKind
  prv : Bool
  reset : Word
  deriving DecidableEq, Repr

/-- The GLB registers. -/
def regRowsGLB : List RegRow :=
  [⟨0x0, 4, 1, .ro, false, 0⟩,
   ⟨0x8, 4, 1, .ro, true, 0⟩,
   ⟨0xC, 4, 1, .ro, true, 0⟩,
   ⟨0x10, 4, 1, .ro, false, 0⟩,
   ⟨0x14, 4, 1, .rc, true, 0⟩,
   ⟨0x20, 4, 1, .rc, true, 0⟩,
   ⟨0x24, 4, 1, .rw, true, 0x3f⟩,
   ⟨0x30, 4, 1, .ro, true, 0⟩,
   ⟨0x34, 4, 1, .rw, true, 0⟩,
   ⟨0x38, 4, 1, .rc, true, 0⟩,
   ⟨0x10000, 4, 32768, .ro, true, 0⟩]

/-- The FSQ registers. -/
def regRowsFSQ : List RegRow :=
  [⟨0x100000, 4, 1, .ro, false, 0⟩,
   ⟨0x100004, 4, 1, .ro, false, 0⟩,
   ⟨0x100008, 4, 1, .ro, true, 0⟩,
   ⟨0x10000C, 4, 1, .ro, true, 0⟩,
   ⟨0x100010, 4, 1, .ro, true, 0⟩,
   ⟨0x100014, 4, 1, .ro, true, 0⟩,
   ⟨0x100018, 4, 1, .ro, true, 0⟩,
   ⟨0x100020, 4, 1, .ro, true, 0⟩,
   ⟨0x100024, 4, 1, .ro, true, 0⟩,
   ⟨0x100030, 4, 1, .rw, false, 0⟩,
   ⟨0x100034, 4, 1, .rw, false, 0⟩,
   ⟨0x100038, 4, 1, .rw, false, 0⟩,
   ⟨0x10003C, 4, 1, .wo, false, 0⟩,
   ⟨0x100040, 4, 1, .ro, false, 0⟩,
   ⟨0x100050, 4, 1, .rc, true, 0⟩,
   ⟨0x100054, 4, 1, .rc, true, 0⟩,
   ⟨0x100058, 4, 1, .rc, true, 0⟩]

/-- The ELG registers. -/
def regRowsELG : List RegRow :=
  [⟨0x200000, 4, 1, .rw, true, 0⟩,
   ⟨0x200004, 4, 1, .rw, true, 0⟩,
   ⟨0x200008, 4, 1, .rw, true, 0xc⟩,
   ⟨0x20000C, 4, 1, .ro, true, 0⟩,
   ⟨0x200010, 4, 1, .rc, true, 0⟩,
   ⟨0x200018, 4, 1, .ro, true, 0⟩,
   ⟨0x20001C, 4, 1, .ro, true, 0⟩]

/-- The FAB registers. -/
def regRowsFAB : List RegRow :=
  [⟨0x300000, 4, 1, .rc, true, 0⟩,
   ⟨0x300004, 4, 1, .wp, true, 0x10⟩,
   ⟨0x300010, 4, 1, .rc, true, 0⟩,
   ⟨0x300014, 4, 1, .rc, true, 0⟩,
   ⟨0x300018, 4, 1, .rc, true, 0⟩,
   ⟨0x30001C, 4, 1, .rc, true, 0⟩,
   ⟨0x300020, 4, 1, .rc, true, 0⟩,
   ⟨0x301000, 16, 56, .wp, true, 0x1ff8000⟩,
   ⟨0x301004, 16, 56, .ro, true, 0⟩,
   ⟨0x301008, 16, 56, .rc, true, 0⟩,
   ⟨0x30100C, 16, 56, .rc, true, 0⟩,
   ⟨0x301400, 4, 56, .rc, true, 0⟩,
   ⟨0x302000, 4, 448, .rc, true, 0⟩]

/-- The TSH registers. -/
def regRowsTSH : List RegRow :=
  [⟨0x400000, 4, 1, .ro, true, 0⟩,
   ⟨0x400004, 4, 1, .rw, true, 0xc8⟩,
   ⟨0x400008, 4, 1, .rw, true, 0⟩,
   ⟨0x40000C, 4, 1, .rw, true, 0⟩,
   ⟨0x400010, 4, 1, .rw, true, 0xc⟩,
   ⟨0x400014, 4, 1, .rw, true, 0⟩,
   ⟨0x400018, 4, 1, .rc, true, 0⟩,
   ⟨0x40001C, 4, 1, .rc, true, 0⟩,
   ⟨0x400020, 4, 1, .rc, true, 0⟩,
   ⟨0x400024, 4, 1, .rc, true, 0⟩,
   ⟨0x400028, 4, 1, .rc, true, 0⟩,
   ⟨0x40002C, 4, 1, .ro, true, 0⟩]

/-- The VNT registers. -/
def regRowsVNT : List RegRow :=
  [⟨0x500000, 4, 64, .ro, true, 0⟩,
   ⟨0x500100, 4, 1, .rc, true, 0⟩,
   ⟨0x500104, 4, 1, .rc, true, 0⟩,
   ⟨0x500108, 4, 1, .rc, true, 0⟩,
   ⟨0x50010C, 4, 1, .rc, true, 0⟩]

/-- The SPM registers. -/
def regRowsSPM : List RegRow :=
  [⟨0x600000, 4, 1, .rc, true, 0⟩,
   ⟨0x600004, 4, 1, .rc, true, 0⟩,
   ⟨0x600008, 4, 1, .rc, true, 0⟩,
   ⟨0x60000C, 4, 1, .ro, true, 0⟩,
   ⟨0x600010, 4, 1, .ro, true, 0⟩,
   ⟨0x600014, 4, 1, .ro, true, 0⟩,
   ⟨0x600020, 4, 1, .rw, true, 0⟩,
   ⟨0x600024, 4, 1, .ro, true, 0⟩,
   ⟨0x600028, 4, 1, .ro, true, 0⟩,
   ⟨0x60002C, 4, 1, .ro, true, 0⟩,
   ⟨0x600030, 4, 1, .ro, true, 0⟩]

/-- The TMC registers. -/
def regRowsTMC : List RegRow :=
  [⟨0x700000, 4, 1, .rc, true, 0⟩,
   ⟨0x700100, 4, 256, .ro, true, 0⟩,
   ⟨0x700500, 4, 1, .rc, true, 0⟩,
   ⟨0x700504, 4, 1, .rc, true, 0⟩,
   ⟨0x700508, 4, 1, .rc, true, 0⟩,
   ⟨0x70050C, 4, 1, .rc, true, 0⟩,
   ⟨0x700510, 4, 1, .rw, true, 0x3840⟩,
   ⟨0x700514, 4, 1, .rc, true, 0⟩,
   ⟨0x700518, 4, 1, .rc, true, 0⟩,
   ⟨0x70051C, 4, 1, .rw, true, 0x800⟩,
   ⟨0x700520, 4, 1, .rc, true, 0⟩,
   ⟨0x700524, 4, 1, .rc, true, 0⟩,
   ⟨0x700528, 4, 1, .rc, true, 0⟩,
   ⟨0x70052C, 4, 1, .rw, true, 0⟩,
   ⟨0x700530, 4, 1, .ro, true, 0⟩,
   ⟨0x700534, 4, 1, .rw, true, 0x1⟩,
   ⟨0x700800, 16, 8, .wp, true, 0⟩,
   ⟨0x700804, 16, 8, .ro, true, 0⟩,
   ⟨0x700808, 16, 8, .ro, true, 0⟩,
   ⟨0x70080C, 16, 8, .ro, true, 0⟩,
   ⟨0x780000, 16, 16, .ro, true, 0⟩,
   ⟨0x780004, 16, 16, .ro, true, 0⟩,
   ⟨0x780008, 16, 16, .ro, true, 0⟩,
   ⟨0x78000C, 16, 16, .rc, true, 0⟩] ++
  [⟨0x780100, 4, 1, .ro, true, 0⟩,
   ⟨0x780104, 4, 1, .rw, true, 0x10000⟩,
   ⟨0x780108, 4, 1, .rw, true, 0x20000⟩,
   ⟨0x78010C, 4, 1, .rw, true, 0x100⟩,
   ⟨0x780110, 4, 1, .rc, true, 0⟩,
   ⟨0x780114, 4, 1, .rc, true, 0⟩,
   ⟨0x780118, 4, 1, .rc, true, 0⟩,
   ⟨0x78011C, 4, 1, .rc, true, 0⟩]

/-- The MUD registers. -/
def regRowsMUD : List RegRow :=
  [⟨0x800000, 4, 1, .rc, true, 0⟩,
   ⟨0x800004, 4, 1, .wp, true, 0⟩,
   ⟨0x800008, 4, 1, .wp, true, 0⟩,
   ⟨0x80000C, 4, 1, .rc, true, 0⟩,
   ⟨0x800010, 4, 1, .rc, true, 0⟩,
   ⟨0x800014, 4, 1, .rc, true, 0⟩,
   ⟨0x800018, 4, 1, .rc, true, 0⟩,
   ⟨0x80001C, 4, 1, .rc, true, 0⟩,
   ⟨0x804000, 4, 1, .wp, true, 0x40⟩,
   ⟨0x804004, 4, 1, .ro, true, 0⟩,
   ⟨0x804008, 4, 1, .rc, true, 0⟩,
   ⟨0x80400C, 4, 1, .rc, true, 0⟩]

/-- The GEY registers. -/
def regRowsGEY : List RegRow :=
  [⟨0x900000, 4, 64, .ro, true, 0⟩,
   ⟨0x900100, 4, 1, .rc, true, 0⟩,
   ⟨0x900104, 4, 1, .rc, true, 0⟩,
   ⟨0x900108, 4, 1, .rc, true, 0⟩,
   ⟨0x90010C, 4, 1, .rc, true, 0⟩,
   ⟨0x900110, 4, 1, .rc, true, 0⟩,
   ⟨0x900200, 4, 1, .rc, true, 0⟩,
   ⟨0x900204, 4, 1, .rc, true, 0⟩,
   ⟨0x900208, 4, 1, .rc, true, 0⟩,
   ⟨0x90020C, 4, 1, .rc, true, 0⟩,
   ⟨0x900210, 4, 1, .rc, true, 0⟩,
   ⟨0x900300, 4, 1, .rc, true, 0⟩,
   ⟨0x900304, 4, 1, .rc, true, 0⟩]

/-- The SNT registers. -/
def regRowsSNT : List RegRow :=
  [⟨0xA00004, 4, 15, .ro, true, 0⟩,
   ⟨0xA00100, 4, 1, .rc, true, 0⟩,
   ⟨0xA00104, 4, 1, .rc, true, 0⟩,
   ⟨0xA00108, 4, 1, .rc, true, 0⟩,
   ⟨0xA0010C, 4, 1, .rc, true, 0⟩,
   ⟨0xA00110, 4, 1, .rc, true, 0⟩,
   ⟨0xA00114, 4, 1, .ro, true, 0⟩,
   ⟨0xA00118, 4, 1, .rc, true, 0⟩,
   ⟨0xA0011C, 4, 1, .rw, true, 0x40000000⟩,
   ⟨0xA00120, 4, 1, .rw, true, 0x3b800000⟩]

/-- The PFX registers. -/
def regRowsPFX : List RegRow :=
  [⟨0xB00000, 4, 1, .rc, true, 0⟩,
   ⟨0xB00004, 4, 1, .rc, true, 0⟩,
   ⟨0xB00008, 4, 1, .rc, true, 0⟩,
   ⟨0xB0000C, 4, 1, .rc, true, 0⟩,
   ⟨0xB00010, 4, 1, .rc, true, 0⟩,
   ⟨0xB00014, 4, 1, .rc, true, 0⟩,
   ⟨0xB00018, 4, 1, .ro, true, 0⟩]

/-- The ADP registers. -/
def regRowsADP : List RegRow :=
  [⟨0xC00000, 4, 32, .ro, true, 0⟩,
   ⟨0xC00080, 4, 32, .ro, true, 0⟩,
   ⟨0xC00100, 4, 1, .ro, true, 0⟩,
   ⟨0xC00104, 4, 1, .ro, true, 0⟩,
   ⟨0xC00108, 4, 1, .rc, true, 0⟩,
   ⟨0xC0010C, 4, 1, .rw, true, 0⟩,
   ⟨0xC00110, 4, 1, .ro, true, 0⟩,
   ⟨0xC00114, 4, 1, .rc, true, 0⟩,
   ⟨0xC00118, 4, 1, .rc, true, 0⟩,
   ⟨0xC0011C, 4, 1, .rc, true, 0⟩,
   ⟨0xC00120, 4, 1, .rc, true, 0⟩]

/-- The TOK registers. -/
def regRowsTOK : List RegRow :=
  [⟨0xD00000, 4, 8, .ro, true, 0⟩,
   ⟨0xD00100, 4, 1, .rc, true, 0⟩,
   ⟨0xD00104, 4, 1, .rc, true, 0⟩,
   ⟨0xD00108, 4, 1, .rc, true, 0⟩,
   ⟨0xD0010C, 4, 1, .rc, true, 0⟩,
   ⟨0xD00110, 4, 1, .rc, true, 0⟩,
   ⟨0xD00114, 4, 1, .rc, true, 0⟩,
   ⟨0xD00118, 4, 1, .rc, true, 0⟩,
   ⟨0xD0011C, 4, 1, .rc, true, 0⟩,
   ⟨0xD00120, 4, 1, .rc, true, 0⟩]

/-- The RTV registers. -/
def regRowsRTV : List RegRow :=
  [⟨0xE00000, 4, 1, .rc, true, 0⟩,
   ⟨0xE00004, 4, 1, .rc, true, 0⟩,
   ⟨0xE00008, 4, 1, .rc, true, 0⟩,
   ⟨0xE0000C, 4, 1, .rc, true, 0⟩,
   ⟨0xE00010, 4, 1, .rc, true, 0⟩,
   ⟨0xE00014, 4, 1, .rc, true, 0⟩,
   ⟨0xE00018, 4, 1, .rc, true, 0⟩,
   ⟨0xE0001C, 4, 1, .rc, true, 0⟩,
   ⟨0xE00020, 4, 1, .ro, true, 0⟩,
   ⟨0xE00024, 4, 1, .ro, true, 0⟩,
   ⟨0xE00028, 4, 1, .rw, true, 0⟩,
   ⟨0xE0002C, 4, 1, .ro, true, 0⟩]

/-- The LAH registers. -/
def regRowsLAH : List RegRow :=
  [⟨0xF00000, 4, 1, .ro, true, 0⟩,
   ⟨0xF00004, 4, 1, .rw, true, 0xbebc⟩,
   ⟨0xF00008, 4, 1, .ro, true, 0⟩,
   ⟨0xF0000C, 4, 1, .ro, true, 0⟩,
   ⟨0xF00010, 4, 1, .ro, true, 0⟩,
   ⟨0xF00014, 4, 1, .ro, true, 0⟩,
   ⟨0xF00018, 4, 1, .rw, true, 0x10000⟩,
   ⟨0xF0001C, 4, 1, .ro, true, 0⟩,
   ⟨0xF00020, 4, 1, .rw, true, 0x40⟩,
   ⟨0xF00024, 4, 1, .rw, true, 0x8⟩,
   ⟨0xF00028, 4, 1, .ro, true, 0⟩,
   ⟨0xF0002C, 4, 1, .rc, true, 0⟩,
   ⟨0xF00030, 4, 1, .rc, true, 0⟩,
   ⟨0xF00034, 4, 1, .rc, true, 0⟩,
   ⟨0xF00038, 4, 1, .rc, true, 0⟩]

/-- The OBS registers. -/
def regRowsOBS : List RegRow :=
  [⟨0x1000000, 4, 1, .rc, true, 0⟩,
   ⟨0x1000004, 4, 1, .wp, true, 0⟩,
   ⟨0x1000010, 4, 16, .wp, true, 0⟩,
   ⟨0x1000100, 4, 1, .ro, true, 0⟩,
   ⟨0x1000104, 4, 1, .rw, true, 0⟩,
   ⟨0x1000108, 4, 1, .ro, true, 0⟩,
   ⟨0x1000200, 4, 1, .rw, true, 0⟩,
   ⟨0x1000204, 4, 1, .ro, true, 0⟩,
   ⟨0x1000208, 4, 1, .ro, true, 0⟩,
   ⟨0x1000300, 4, 24, .ro, true, 0⟩]

/-- The PWR registers. -/
def regRowsPWR : List RegRow :=
  [⟨0x1100000, 4, 1, .ro, true, 0⟩,
   ⟨0x1100004, 4, 1, .ro, true, 0⟩,
   ⟨0x1100010, 4, 5, .ro, true, 0⟩,
   ⟨0x1100030, 4, 5, .ro, true, 0⟩,
   ⟨0x1100050, 4, 1, .ro, true, 0⟩,
   ⟨0x1100054, 4, 1, .rw, true, 0x64⟩,
   ⟨0x1100100, 4, 7, .ro, true, 0⟩,
   ⟨0x1100200, 4, 1, .ro, true, 0⟩]

/-- The TST registers. -/
def regRowsTST : List RegRow :=
  [⟨0x1200000, 4, 1, .ro, true, 0⟩,
   ⟨0x1200004, 4, 1, .rw, true, 0⟩,
   ⟨0x1200008, 4, 1, .ro, true, 0⟩,
   ⟨0x120000C, 4, 1, .ro, true, 0⟩]

/-- The HLK registers. -/
def regRowsHLK : List RegRow :=
  [⟨0x1300000, 4, 1, .rc, true, 0⟩,
   ⟨0x1300004, 4, 1, .wp, true, 0x8ffffc00⟩,
   ⟨0x1300008, 4, 1, .ro, true, 0⟩,
   ⟨0x1300010, 4, 1, .rc, true, 0⟩,
   ⟨0x1300014, 4, 1, .rc, true, 0⟩,
   ⟨0x1300018, 4, 1, .rc, true, 0⟩,
   ⟨0x130001C, 4, 1, .rc, true, 0⟩,
   ⟨0x1300020, 4, 1, .rc, true, 0⟩,
   ⟨0x1300024, 4, 1, .rc, true, 0⟩,
   ⟨0x1300028, 4, 1, .rc, true, 0⟩,
   ⟨0x1300030, 4, 1, .rw, true, 0⟩,
   ⟨0x1300034, 4, 1, .ro, true, 0⟩,
   ⟨0x1300038, 4, 1, .ro, true, 0⟩,
   ⟨0x1300100, 4, 16, .rc, true, 0⟩]

/-- The register rows of every block (R599). -/
def regRows : List RegRow :=
  regRowsGLB ++ regRowsFSQ ++ regRowsELG ++ regRowsFAB ++ regRowsTSH ++ regRowsVNT ++ regRowsSPM ++ regRowsTMC ++
  regRowsMUD ++ regRowsGEY ++ regRowsSNT ++ regRowsPFX ++ regRowsADP ++ regRowsTOK ++ regRowsRTV ++ regRowsLAH ++
  regRowsOBS ++ regRowsPWR ++ regRowsTST ++ regRowsHLK

end Sys2Proof.Machine
end

