-- ==== Sys2Proof/Machine/Ops.lean ====
section
/-!
DEFINITION. Sys2Proof/Machine/Ops.lean: the operations that every chapter shares: the status word, register counters,
the Event Ledger, the error log, alerts, partitions and handles, messages and their queues, and replies.
-/

namespace Sys2Proof.Machine

/-! ## The outcome of a row -/

/-- The device runs: SYS_RESET_N released, rails and REFCLK_SYS good, no thermal trip (R682, R684, R687, R693). -/
def Pins.running (p : Pins) : Bool := p.released && p.powered && p.refclk && !p.tripped

/-- A row's effect on a running device. A device that is stopped does nothing (R682, R693). -/
def run (s : State) (f : Dev → Dev) : Host.Outcome State Fault Refusal :=
  .next (if s.pins.running then { s with dev := f s.dev } else s)

/-- A row that the firmware or an engine that it runs carries out: nothing happens before the end of stage 1 of
bring-up (R654). -/
def serve (s : State) (f : Dev → Dev) : Host.Outcome State Fault Refusal :=
  run s fun d => if d.obs.stage = 2 then f d else d

/-! ## The status word (R20 to R23) -/

/-- CODE and DETAIL. -/
def stw (code detail : Nat) : Nat := code * 256 + detail

def stOk : Nat := 0x00
def stOpcode : Nat := 0x01
def stLen : Nat := 0x02
def stParam : Nat := 0x03
def stReserved : Nat := 0x04
def stStale : Nat := 0x05
def stRetry : Nat := 0x06
def stNoCap : Nat := 0x20
def stReserve : Nat := 0x21
def stEvicted : Nat := 0x22
def stContext : Nat := 0x23
def stTierLate : Nat := 0x40
def stTierLost : Nat := 0x41
def stUncorr : Nat := 0x42
def stCodec : Nat := 0x43
def stGrammarDead : Nat := 0x60
def stHostTimeout : Nat := 0x61
def stLateReply : Nat := 0x62
def stTokenInvalid : Nat := 0x63
def stVecDim : Nat := 0x80
def stVecNotFound : Nat := 0x81
def stMixed : Nat := 0xA0
def stRolledBack : Nat := 0xA1
def stNoStep : Nat := 0xA2
def stPrivilege : Nat := 0xC0
def stFenced : Nat := 0xC1
def stSignature : Nat := 0xC2
def stInternal : Nat := 0xE0
def stDegraded : Nat := 0xE1

/-- The first check that holds decides the status (R26): `none` when every check passes. -/
def firstFail : List (Bool × Nat) → Option Nat
  | [] => none
  | (c, st) :: r => if c then some st else firstFail r

/-! ## Registers that the device counts in -/

/-- The reset value of the register at `a`. -/
def regReset (a : Nat) : Word :=
  match regRows.find? fun r => decide (r.lo ≤ a) && decide (a < r.lo + r.stride * r.count) &&
      (a - r.lo) % r.stride == 0 with
  | some r => r.reset
  | none => 0

/-- The stored value of a register (R592). -/
def regGet (s : Dev) (a : Nat) : Word := tgetD s.reg.vals a (regReset a)

/-- The stored value of a register as a number. -/
def rd (s : Dev) (a : Nat) : Nat := (regGet s a).toNat

/-- R592: the limit, period or threshold that governs in this tick: the register's value at the last boundary. -/
def lim (s : Dev) (a : Nat) : Nat := (tgetD s.reg.eff a (regReset a)).toNat

/-- A register given a value. -/
def regSet (s : Dev) (a : Nat) (v : Word) : Dev := { s with reg.vals := tset s.reg.vals a v }

/-- A saturating counter of 32 bits advanced by `n` (R576, R610 and the other tables). -/
def bumpBy (s : Dev) (a n : Nat) : Dev := regSet s a (BitVec.ofNat 32 (min (rd s a + n) 0xFFFFFFFF))

/-- A saturating counter advanced by one. -/
def bump (s : Dev) (a : Nat) : Dev := bumpBy s a 1

/-! ## Free values (log 4) -/

/-- The counter of free values moved on. -/
def freeNext (s : Dev) : Dev := { s with freeCnt := s.freeCnt + 1 }

/-! ## The Event Ledger (R74 to R80) -/

/-- R78: the 32 bytes of a ledger record. -/
def ledBytes (r : LedRec) : List Byte :=
  leBytes 6 r.seq ++ leBytes 1 r.input ++ leBytes 1 r.type ++ leBytes 8 r.tick ++ leBytes 2 r.cycle ++ leBytes 2 r.status ++
  leBytes 1 r.part ++ leBytes 3 0 ++ leBytes 8 r.object

/-- The captured record goes to the ledger's buffer when capture is enabled; a full buffer drops it (R609). -/
def captureRec (s : Dev) (r : LedRec) : Dev :=
  if bit (rd s Addr.ELG_CAP_CTRL) 31 then
    if s.led.buf.length < 65536 then { s with led.buf := s.led.buf ++ [r] } else bump s Addr.ELG_CAP_DROP_CNT
  else s

/-- The device begins to leave a low-power state (R651). -/
def wake (s : Dev) : Dev := if s.pwr.st = 0 then s else { s with pwr.waking := true }

/-- R651: an event on inputs 1 to 9 wakes a DORMANT device and denies DORMANT for the frame (R650). -/
def noteInput (s : Dev) (input : Nat) : Dev :=
  if 1 ≤ input ∧ input ≤ 9 then
    let s := { s with pwr.busyDormant := true }
    if s.pwr.st = 2 then wake s else s
  else s

/-- R74, R78: one event stamped with the next 48-bit number, at the given cycle in the tick. -/
def stampAt (s : Dev) (input type status part object cycle : Nat) : Dev :=
  let s := captureRec s ⟨s.led.next, input, type, s.tick, cycle, status, part, object⟩
  let s := noteInput s input
  { s with led.next := (s.led.next + 1) % 2 ^ 48 }

/-- An event of the device itself: the cycle at which it reaches its input is a free value. -/
def stamp (s : Dev) (input type status part object : Nat) : Dev :=
  freeNext (stampAt s input type status part object (Config.freeCycle s.freeCnt % 30720))

/-- R79: the completion of a work item of a unit (log 19). -/
def workDone (s : Dev) (input status part object : Nat) : Dev := stamp s input 0x10 status part object

/-- R19 with n = 48: the order of two ledger numbers. -/
def before (a b : Nat) : Bool := precedes 48 a b

/-! ## The error log and alerts (R575, R594 to R598) -/

/-- An entry is unconsumed while its WSEQ does not precede GLB_ERRLOG_RPTR (R598). -/
def errUnconsumed (s : Dev) (e : ErrEnt) : Bool := !precedes 32 e.wseq (rd s Addr.GLB_ERRLOG_RPTR)

/-- R594: one entry written at index WPTR mod 4,096; the ERRLOG alert bit is set (R603), an unconsumed entry
overwritten is counted (R598). -/
def errLog (s : Dev) (status source part seq unit object : Nat) : Dev :=
  let i := s.reg.wptr % 4096
  let s := match tget s.reg.errlog i with
    | some e => if errUnconsumed s e then bump s Addr.GLB_ERRLOG_OVF else s
    | none => s
  let e : ErrEnt := ⟨s.reg.wptr, status, source, part, s.tick, seq, unit, object⟩
  let s := { s with reg.errlog := tset s.reg.errlog i e, reg.wptr := (s.reg.wptr + 1) % 2 ^ 32 }
  regSet s Addr.GLB_ALERT_STATUS (regGet s Addr.GLB_ALERT_STATUS ||| 1)

/-- R595: an Error event (TYPE 0x30) stamped on `input` and its log entry; `object` is the entry's OBJECT (R597). -/
def errEvent (s : Dev) (input status part unit object : Nat) : Dev :=
  let q := s.led.next
  errLog (stamp s input 0x30 status part unit) status input part q unit object

/-- An Error event at a cycle that its source gives. -/
def errEventAt (s : Dev) (input status part unit cycle : Nat) : Dev :=
  let q := s.led.next
  errLog (stampAt s input 0x30 status part unit cycle) status input part q unit unit

/-- R595: a refused register write by master `m`. -/
def refuseWrite (s : Dev) (m status addr : Nat) : Dev :=
  errLog s status (0x40 + m) 0xFF 0xFFFFFFFFFFFF 0 addr

/-! ## Partitions, sessions and handles (R81 to R90, R615) -/

/-- A partition that nothing configured (R484, R615). -/
def Part.absent (p : Nat) : Part := { Part.zero with st := .unconfigured, subBase := p, cfg := { PartCfg.initial with chanCount := 0 } }

/-- Partition p. -/
def part (s : Dev) (p : Nat) : Part := tgetD s.parts p (Part.absent p)

/-- Partition p changed. -/
def modPart (s : Dev) (p : Nat) (f : Part → Part) : Dev := { s with parts := tset s.parts p (f (part s p)) }

/-- FENCED, or RESETTING, which behaves as FENCED (R615). -/
def fenced (s : Dev) (p : Nat) : Bool :=
  match (part s p).st with
  | .fenced | .resetting => true
  | _ => false

/-- PFLAGS[0], CONFIDENTIAL (R569, R631). -/
def confidential (s : Dev) (p : Nat) : Bool := bit (part s p).cfg.pflags 0

/-- PFLAGS[1], GATE (R569, R504). -/
def gated (s : Dev) (p : Nat) : Bool := bit (part s p).cfg.pflags 1

/-- The device is a member of a Lahar ring (R502, R538). -/
def inRing (s : Dev) : Bool := s.lah.st != 0 && s.lah.st != 4

/-- R521: a gated partition of a device that is no ring member creates no session. -/
def gatedAlone (s : Dev) (p : Nat) : Bool := gated s p && s.lah.st == 0

/-- R626: a ring member without a tier or a replication key of p. -/
def keysMissing (s : Dev) (p : Nat) : Bool :=
  inRing s && ((part s p).tierKeys.isEmpty || (part s p).replKeys.isEmpty)

/-- HANDLE[63:56] (R81). -/
def hPart (h : Nat) : Nat := bits h 63 56
/-- HANDLE[55:32] (R81). -/
def hLocal (h : Nat) : Nat := bits h 55 32
/-- HANDLE[31:0] (R81). -/
def hGen (h : Nat) : Nat := bits h 31 0

/-- A handle from its fields (R81). -/
def mkHandle (p l g : Nat) : Nat := p * 2 ^ 56 + l * 2 ^ 32 + g

/-- The parameters of R563. -/
def Sampling.initial (seed : Nat) : Sampling :=
  { cls := 0, newGen := 0, streamOpt := 1, penScope := 0, topK := 1, grammar := 0, temp := 0, topP := 0x3F800000,
    minP := 0, repPen := 0x3F800000, freqPen := 0, presPen := 0, seed := seed, hostTopn := 64, hostDeadline := 4096 }

/-- The control page of a new session (R563): EOS the only stop id is set at the create. -/
def Ctrl.initial (seed home : Nat) : Ctrl :=
  { tau := 0, topkK := 0, sinkPages := 0, recentPages := 0, sampling := Sampling.initial seed, genSeq := 0,
    stopped := false, pen := [], gState := 0, gStack := [], stopIds := [], stopStrs := [], carry := [], utf8Hold := [],
    stopHold := [], outOffset := 0, chain := none, awaiting := none, timedOut := [], pend := [],
    forced := [], home := home }

/-- The entry of a session table index that nothing wrote: FREE, generation 0 (R86). -/
def SessEnt.free (gen : Nat) : SessEnt :=
  { gen := gen, st := .free, quar := false, clsD := false, gate := false, prev := .free, degReason := 0,
    degPrev := .free, model := 0, select := 0, length := 0, adapter := 0, adpVersion := 0, dirSpn := 0, metaSpns := [], ctrlSpn := 0,
    lastTick := 0, born := 0, doomed := false, layers := [], ctrl := Ctrl.initial 0 0, ctrlAway := false }

/-- Entry i of the session table. -/
def sess (s : Dev) (i : Nat) : SessEnt := tgetD s.sess i (SessEnt.free 0)

/-- R508: entry or object `k` is set in the change map D of a ring member. -/
def noteObj (s : Dev) (k : Nat) : Dev :=
  if s.lah.st = 0 ∨ s.lah.dObjs.contains k then s else { s with lah.dObjs := k :: s.lah.dObjs }

/-- R508: page `spn` is set in the change map D of a ring member. -/
def notePage (s : Dev) (spn : Nat) : Dev :=
  if s.lah.st = 0 ∨ s.lah.dPages.contains spn then s else { s with lah.dPages := spn :: s.lah.dPages }

/-- Entry i given a value; any change of an entry sets its bit of D (R508). -/
def setSess (s : Dev) (i : Nat) (e : SessEnt) : Dev := noteObj { s with sess := tset s.sess i e } i

/-- Entry i changed. -/
def modSess (s : Dev) (i : Nat) (f : SessEnt → SessEnt) : Dev := setSess s i (f (sess s i))

/-- The partition whose range holds entry i, and the handle of the entry (R81, R82). -/
def handleOf (s : Dev) (i : Nat) : Nat :=
  match s.parts.find? fun q => decide (q.2.cfg.sessBase ≤ i) && decide (i < q.2.cfg.sessBase + q.2.cfg.sessCount) with
  | some (p, c) => mkHandle p (i - c.cfg.sessBase) (sess s i).gen
  | none => (sess s i).gen

/-- The partition that owns entry i. -/
def ownerOf (s : Dev) (i : Nat) : Nat := hPart (handleOf s i)

/-- R83: the absolute entry of a live handle. -/
def live (s : Dev) (h : Nat) : Option Nat :=
  let c := (part s (hPart h)).cfg
  let i := c.sessBase + hLocal h
  let e := sess s i
  if hLocal h < c.sessCount ∧ e.st ≠ .free ∧ e.doomed = false ∧ e.gen = hGen h then some i else none

/-- The handle under which entry i's session was created, also once a destroy has moved its generation on (R85, R97). -/
def handleKept (s : Dev) (i : Nat) : Nat :=
  let e := sess s i
  if e.doomed && !e.quar then handleOf s i - 1 else handleOf s i

/-- R83: the entry of a handle that is live for a channel of partition p. -/
def liveOn (s : Dev) (p h : Nat) : Option Nat := if hPart h = p then live s h else none

/-- R155: the command names a session evicted after the command's stamp. -/
def evictedFor (s : Dev) (seq h : Nat) : Bool := s.pg.evicted.any fun q => q.1 == h && before seq q.2

/-! ## Shapers, queues and messages (R479 to R496) -/

/-- A subscriber that no SHAPER_CONFIG named (R484, R487). -/
def Sub.initial : Sub := { bytes := 2 ^ 20, sh := ⟨0, 0, 0⟩, classes := List.replicate 5 ⟨0, 0, 0⟩ }

/-- Subscriber n. -/
def sub (s : Dev) (n : Nat) : Sub := tgetD s.tsh.subs n Sub.initial

/-- R479: the subscriber of a message of partition p and LOCAL field l. -/
def subOf (s : Dev) (p l : Nat) : Nat := (part s p).subBase + l % (part s p).flowGroups

/-- Queue q. -/
def queue (s : Dev) (q : Nat) : List Msg := tgetD s.tsh.queues q []

/-- Bytes queued by a subscriber in classes 1 to 5 (R496). -/
def subBytes (s : Dev) (n : Nat) : Nat :=
  ([1, 2, 3, 4, 5].map fun c => ((queue s (8 * n + c)).map (·.len)).sum).sum

/-- The subscriber's byte limit in force (R496): a partition's first SHAPER_CONFIG may raise it. -/
def overLimit (s : Dev) (m : Msg) : Bool :=
  m.cls != 0 && decide ((sub s (m.queue / 8)).bytes < subBytes s (m.queue / 8) + m.len)

/-- Bits [27:25] of FAB_PORT_CTRL_n: the plane of port n (R476). -/
def planeOf (s : Dev) (n : Nat) : Nat := bits (rd s (Addr.FAB_PORT_CTRL n)) 27 25

/-- Port n (R477). -/
def port (s : Dev) (n : Nat) : Port :=
  tgetD s.fab.ports n ⟨0, 0, [], [], [], [], [], [], 0, 0, [], if n = 56 then [0, 0] else [256, 256, 256, 256], List.replicate 6 []⟩

/-- Port n changed. -/
def modPort (s : Dev) (n : Nat) (f : Port → Port) : Dev :=
  { s with fab.ports := tset s.fab.ports n (f (port s n)) }

/-- R456: the UP ports of the planes of a mask, in increasing port number. -/
def upPorts (s : Dev) (mask : Nat) : List Nat :=
  (List.range 56).filter fun n => (port s n).st == 2 && bit mask (planeOf s n)

/-- R452: the virtual channel of a message type. -/
def vcOf (type sub : Nat) : Nat :=
  match type with
  | 0x01 | 0x03 | 0x04 => 0
  | 0x02 | 0x05 => 1
  | 0x06 => if sub = 0 then 0 else 1
  | 0x10 | 0x11 | 0x12 => 2
  | _ => 3

/-- The role that a route entry of the destination must have for a message of the VC (R456, R460). -/
def roleOf (vc : Nat) : Nat := match vc with | 2 => 2 | 3 => 3 | _ => 1

/-- R161: a slot that is COPYING is reached at its replacement's address as well (log 30). -/
def copyRoutes (s : Dev) : Tbl Route :=
  (s.tier.filter fun t => t.2.st == 2).map fun t => (4064 + t.1, ⟨t.2.newAddr, 2, t.2.newPlane⟩)

/-- R456: the port of a fabric message. The flow key is LOCAL for VC 0 and 1, the UNIT for VC 2, 0 for VC 3. In fumarole
service the ports carry VC 0 and 1 only (R657). -/
def portFor (s : Dev) (m : Msg) : Option Nat :=
  if m.host then some 56
  else
    let vc := vcOf m.op m.flags
    let key := if vc = 2 then field m.body 0 4 else if vc = 3 then 0 else hLocal m.handle
    if s.pwr.fumarole && decide (2 ≤ vc) then none
    else match (s.fab.routes ++ copyRoutes s).find? fun r => r.2.addr == m.dest && r.2.role == roleOf vc with
    | some (_, r) =>
      let ps := upPorts s r.plane
      if ps.isEmpty then none else nth ps ((m.dest + key) % ps.length)
    | none => none

/-- R481: the port of the message at a queue's head: the one chosen when it came there, while that port is UP (log 31). -/
def headPort (s : Dev) (m : Msg) : Option Nat := match m.port with
  | some n => if (port s n).st = 2 then some n else portFor s m
  | none => portFor s m

/-- R485: the shaper allows a message at scheduler time t. -/
def Shaper.allows (h : Shaper) (t : Nat) : Bool := decide (h.e ≤ t * 2 ^ 24 + h.burst * h.cost)

/-- R485: the shaper charged for a message of L bytes at t. -/
def Shaper.charge (h : Shaper) (t len : Nat) : Shaper := { h with e := max h.e (t * 2 ^ 24) + len * h.cost }

/-- R492: the least whole unit at which the shaper allows. -/
def Shaper.entry (h : Shaper) : Nat := ceilDiv (h.e - h.burst * h.cost) (2 ^ 24)

/-- The shaper of a queue (R485): that of its class; ATTN_REPLY passes its queue's shaper free. -/
def queueShaper (s : Dev) (q : Nat) : Shaper :=
  (nth (sub s (q / 8)).classes (q % 8 - 1)).getD ⟨0, 0, 0⟩

/-- The shaper of port n (R488). -/
def portShaper (s : Dev) (n : Nat) : Shaper := tgetD s.tsh.ports n ⟨0, 0, 0⟩

/-- R547: the out-window of a channel covers a link message of `len` bytes. -/
def windowCovers (s : Dev) (chan len : Nat) : Bool :=
  match tget s.host.chans chan with
  | some c => decide (len / 16 ≤ c.outWin)
  | none => false

/-- R489, R548: the head message of queue q can be handed over at time t, and to which port. -/
def canHand (s : Dev) (q t : Nat) (m : Msg) : Option Nat :=
  match headPort s m with
  | none => none
  | some p =>
    let free := q % 8 == 0
    if decide (m.notBefore ≤ t) && (free || (queueShaper s q).allows t) && (free || (sub s (q / 8)).sh.allows t) &&
       (free || decide ((portShaper s p).e ≤ (t + lim s Addr.TSH_PORT_LEAD) * 2 ^ 24)) &&
       (!m.host || windowCovers s m.dest m.len) then some p else none

/-- R492: the entry time of queue q for its head message m, at or after t. -/
def entryTime (s : Dev) (q t : Nat) (m : Msg) : Nat :=
  if q % 8 = 0 then t
  else
    let p := match headPort s m with
      | some n => ceilDiv (portShaper s n).e (2 ^ 24) - lim s Addr.TSH_PORT_LEAD
      | none => 0
    max (max t m.notBefore) (max (queueShaper s q).entry (max (sub s (q / 8)).sh.entry p))

/-- R548: the head fails only the out-window condition, so its queue is not entered on the wheel. -/
def waitsWindow (s : Dev) (m : Msg) : Bool := m.host && !windowCovers s m.dest m.len

/-- R481: the message at the head of queue q has its port. -/
def chooseHead (s : Dev) (q : Nat) : Dev := match queue s q with
  | m :: r => { s with tsh.queues := tset s.tsh.queues q ({ m with port := headPort s m } :: r) }
  | [] => s

/-- R492, R495: queue q evaluated at time t: due at once, on the wheel, or in the overflow ring. -/
def enterQueue (s : Dev) (q t : Nat) : Dev :=
  let s := chooseHead s q
  match queue s q with
  | [] => s
  | m :: _ =>
    if waitsWindow s m then s
    else
      let e := entryTime s q t m
      if e < t + 65536 then { s with tsh.wheel := s.tsh.wheel.filter (·.1 != q) ++ [(q, e)] }
      else { s with tsh.overflow := s.tsh.overflow.filter (·.1 != q) ++ [(q, e)] }

/-- R499: the marks of queue q raised to its present depth and delay in Full mode. -/
def noteDepth (s : Dev) (q : Nat) : Dev :=
  if s.tsh.full then
    let ms := queue s q
    let depth := min ((ms.map (·.len)).sum) 0xFFFFFFFF
    let delay := match ms with
      | m :: _ => min (s.tsh.clock - m.enq) 0xFFFFFFFF
      | [] => 0
    let old := tgetD s.tsh.hwm q (0, 0)
    { s with tsh.hwm := tset s.tsh.hwm q (max old.1 depth, max old.2 delay) }
  else s

/-- The message enters its queue; an empty queue is evaluated (R495). -/
def pushQueue (s : Dev) (m : Msg) : Dev :=
  let m := { m with enq := s.tsh.clock }
  let old := queue s m.queue
  let s := { s with tsh.queues := tset s.tsh.queues m.queue (old ++ [m]), pwr.busyDormant := true }
  let s := if old.isEmpty then enterQueue s m.queue s.tsh.clock else s
  noteDepth s m.queue

/-- R496: an enqueue: held while the subscriber's bytes would exceed SUB_BYTES, and counted once. -/
def enqueue (s : Dev) (m : Msg) : Dev :=
  if overLimit s m then bump { s with tsh.held := s.tsh.held ++ [m] } Addr.TSH_HOLD_CNT else pushQueue s m

/-- A link message to the host (R545, R552): 16 bytes of link header, 16 of packet header, the body padded to 16. -/
def hostMsg (op part cls queue chan flags seg tag status : Nat) (body : List Byte) : Msg :=
  { host := true, op := op, part := part, cls := cls, queue := queue, dest := chan, flags := flags, tag := tag,
    status := status, handle := 0, seg := seg, len := 32 + roundUp body.length 16,
    body := body ++ List.replicate (roundUp body.length 16 - body.length) 0, ref := 0, enq := 0, notBefore := 0, port := none, gone := 0 }

/-- A fabric message (R459) with its body padded to 16 bytes. -/
def fabMsg (type part cls queue dest sub tag status handle : Nat) (body : List Byte) (ref : Nat) : Msg :=
  { host := false, op := type, part := part, cls := cls, queue := queue, dest := dest, flags := sub, tag := tag,
    status := status, handle := handle, seg := 0, len := 32 + roundUp body.length 16,
    body := body ++ List.replicate (roundUp body.length 16 - body.length) 0, ref := ref, enq := 0, notBefore := 0, port := none, gone := 0 }

/-- A fabric message of class `cls` sent for partition p, in the flow group of LOCAL field l. -/
def sendFab (s : Dev) (cls p l dest type sub tag status handle : Nat) (body : List Byte) (ref : Nat) : Dev :=
  enqueue s (fabMsg type p cls (8 * subOf s p l + cls) dest sub tag status handle body ref)

/-- A message that the scheduler does not shape (LAHAR_ACK, R482): it enters its port's FIFO at once. -/
def sendDirect (s : Dev) (m : Msg) : Dev :=
  match portFor s m with
  | some n => modPort s n fun p => { p with fifos := modNth p.fifos m.cls fun q => q ++ [m] }
  | none => { s with tsh.held := s.tsh.held ++ [m] }

/-- The next TAG of a message of the device's own (R460: each at most once in 64 ticks). -/
def newTag (s : Dev) : Nat × Dev :=
  (s.pg.nextTag, { s with pg.nextTag := if s.pg.nextTag + 1 = 2 ^ 32 then 1 else s.pg.nextTag + 1 })

/-- A packet of the device to partition p's channel (R551, R574), in the flow group of LOCAL field l. -/
def sendHost (s : Dev) (op p l cls chan flags status : Nat) (body : List Byte) : Dev :=
  enqueue s (hostMsg op p cls (8 * subOf s p l + cls) chan flags 0 0 status body)

/-- R544: a partition's lowest channel; partition 0 keeps channel 0 (R570). -/
def noticeChan (s : Dev) (p : Nat) : Nat := if p = 0 then 0 else (part s p).cfg.chanBase

/-- R575: an alert, at most once in a tick for each OBJECT as a notice; the status bit is set again each time (R603). -/
def alert (s : Dev) (code object part : Nat) : Dev :=
  let s := regSet s Addr.GLB_ALERT_STATUS (regGet s Addr.GLB_ALERT_STATUS ||| BitVec.ofNat 32 (2 ^ code))
  if s.reg.raised.contains (code, object) then s
  else
    let s := { s with reg.raised := (code, object) :: s.reg.raised }
    let s := errLog s 0 (0x80 + code) part 0xFFFFFFFFFFFF 0 object
    sendHost s 0x0A80 0 0 5 (noticeChan s 0) 0 0 (leBytes 2 code ++ leBytes 6 0 ++ leBytes 8 object)

/-! ## Replies (R551, R558) -/

/-- The command is no longer in processing and its TAG may be used again (R555). -/
def finish (s : Dev) (h : CmdHdr) : Dev :=
  { s with host.taken := s.host.taken.filter fun t => t.h != h,
           host.unanswered := s.host.unanswered.filter fun u => u != (h.chan, h.tag) }

/-- The class of a reply (R482): RETRIEVAL for VEC_INSERT, VEC_DELETE and VEC_QUERY, else BULK. -/
def replyClass (op : Nat) : Nat := if 0x0504 ≤ op ∧ op ≤ 0x0506 then 4 else 5

/-- One packet of a reply. -/
def replyMsg (s : Dev) (h : CmdHdr) (op status seg flags : Nat) (body : List Byte) : Msg :=
  hostMsg op h.part (replyClass op) (8 * subOf s h.part 0 + replyClass op) h.chan flags seg h.tag status body

/-- The reply to a command, with its body. -/
def replyBody (s : Dev) (h : CmdHdr) (op status : Nat) (body : List Byte) : Dev :=
  enqueue (finish s h) (replyMsg s h op status 0 0 body)

/-- A reply that leaves no earlier than the next tick (R360, R361). -/
def replyNextTick (s : Dev) (h : CmdHdr) (op status : Nat) (body : List Byte) : Dev :=
  enqueue (finish s h) { replyMsg s h op status 0 0 body with notBefore := 2048 * (s.tick + 1) }

/-- The reply to a command without a body. -/
def reply (s : Dev) (h : CmdHdr) (op status : Nat) : Dev := replyBody s h op status []

/-- The packets of a long reply (R558): MORE in every packet but the last, SEGMENT counting from 0. -/
def replyParts (s : Dev) (h : CmdHdr) (op status : Nat) : Nat → List (List Byte) → Dev
  | _, [] => s
  | i, [b] => enqueue s (replyMsg s h op status i 0 b)
  | i, b :: r => replyParts (enqueue s (replyMsg s h op status i 1 b)) h op status (i + 1) r

/-- A reply of a fixed part and entries of `size` bytes each: each packet at most 1 MiB, split between entries. -/
def replyEntries (s : Dev) (h : CmdHdr) (op status : Nat) (fixed : List Byte) (size : Nat) (ents : List Byte) : Dev :=
  let room := (1048576 - 16 - fixed.length) / size * size
  if ents.length ≤ room then replyBody s h op status (fixed ++ ents)
  else
    let per := (1048576 - 16) / size * size
    let rest := chunks per (ents.length + 1) (ents.drop room)
    replyParts (finish s h) h op status 0 ((fixed ++ ents.take room) :: rest)

/-- R619: a PARTITION_RESET of the command's partition, stamped before it, has been taken and has not ended. -/
def afterReset (s : Dev) (h : CmdHdr) : Bool := h.part != 0 && s.host.taken.any fun t => before t.h.seq h.seq && match t.cmd with
  | some (.partitionReset _ p) => p == h.part
  | _ => false

/-- R559, R615, R619: the command's partition serves it no more. -/
def fencedFor (s : Dev) (h : CmdHdr) : Bool := fenced s h.part || afterReset s h

/-- R559: the checks of privilege and partition state that every command of a channel meets; `priv` marks a command
that only partition 0 may issue. -/
def onChannel (s : Dev) (h : CmdHdr) (op : Nat) (priv : Bool) (k : Dev → Dev) : Dev :=
  if priv && h.part != 0 then reply s h op (stw stPrivilege 1)
  else if fencedFor s h then reply s h op (stw stFenced 0)
  else k s

/-- A command checked in the order of R26: the first failing check is answered, otherwise `k` serves it. -/
def checked (s : Dev) (h : CmdHdr) (op : Nat) (cs : List (Bool × Nat)) (k : Dev → Dev) : Dev :=
  match firstFail cs with
  | some st => reply s h op st
  | none => k s

/-- R83, R155: the session that a command's HANDLE (field `det`) names. -/
def withSess (s : Dev) (h : CmdHdr) (op handle det : Nat) (k : Dev → Nat → SessEnt → Dev) : Dev :=
  match liveOn s h.part handle with
  | some i => k (modSess s i fun e => { e with lastTick := s.tick }) i (sess s i)
  | none =>
    if hPart handle = h.part && evictedFor s h.seq handle then reply s h op (stw stEvicted 0)
    else reply s h op (stw stStale det)

/-! ## Telemetry counters and billing meters (R632, R634) -/

/-- An event counter of partition p advanced. -/
def countEvent (s : Dev) (p k n : Nat) : Dev :=
  modPart s p fun c => { c with events := modNth c.events k fun v => (v + n) % 2 ^ 32 }

/-- A billing meter of partition p advanced. -/
def meter (s : Dev) (p k n : Nat) : Dev :=
  modPart s p fun c => { c with meters := modNth c.meters k fun v => v + n }

/-- R668, R669: a unit worked for background activity `a` in this frame. -/
def noteBg (a : Nat) (s : Dev) : Dev := if s.pwr.bgNow.contains a then s else { s with pwr.bgNow := a :: s.pwr.bgNow }

/-! ## The slots of this tick (R48 to R55, R63, R68, R73) -/

/-- The slots that the active plan gives this tick. -/
def slotsNow (s : Dev) : List Slot := match s.plan.active with
  | some p => p.slots.filter fun x => x.index == s.tick % 64
  | none => []

/-- R63: the slot admits partition p. -/
def slotAdmits (x : Slot) (p : Nat) : Bool := match x.mask with
  | some ps => ps.contains p
  | none => true

/-- The BG slots of this tick: BG_ASSIGN assigns an activity its BG slots by their frame index (R54, R56, log 33). They run in
every tick (R68). -/
def bgSlotsNow (s : Dev) : List Slot := match s.plan.active with
  | some p => (slotsNow s).filter fun x => x.cls == .bg && bit (p.bgAssign.getD x.activity 0) x.index
  | none => []

/-- R54: activity a has a BG slot in this tick. -/
def bgSlot (s : Dev) (a : Nat) : Bool := (bgSlotsNow s).any fun x => x.activity == a

/-- The slot holds channels of stack k (R51). -/
def onStack (x : Slot) (k : Nat) : Bool := (x.kind == .channel && x.unit / 16 == k) || x.stackSet.contains k

/-- Stack k has a BG slot of activity a in this tick. -/
def bgOn (s : Dev) (a k : Nat) : Bool := (bgSlotsNow s).any fun x => x.activity == a && onStack x k

/-- R399: stack k's channels have a BG slot in this tick, in which its Mudpot cores run. -/
def stackBg (s : Dev) (k : Nat) : Bool := (bgSlotsNow s).any fun x => onStack x k

/-- R411, R412: the operator cores have a share of the BG slots of page-summary upkeep, and stack k has such a slot in this
tick. -/
def operatorSlot (s : Dev) (k : Nat) : Bool :=
  decide (0 < rd s Addr.MUD_OP_SHARE) && (bgSlotsNow s).any fun x => x.activity == 4 && onStack x k

/-- R52, R63, R68: a unit of kind k has an SVC slot in this tick that admits partition p. -/
def svcSlot (s : Dev) (k : UnitKind) (p : Nat) : Bool :=
  !s.plan.missed && (slotsNow s).any fun x => x.cls == .svc && x.kind == k && slotAdmits x p

/-- R49: the management cores have a slot in this tick. They run before a plan is active, and in a tick that R68 leaves without
dynamic work they prepare the next manifest (log 7). -/
def mgmtSlot (s : Dev) : Bool :=
  s.plan.active.isNone || (slotsNow s).any fun x => x.cls == .svc && x.kind == .mgmtCore

/-- The clusters of pool k of the active plan. -/
def poolClusters (s : Dev) (k : Nat) : List Nat := match s.plan.active with
  | some p => (p.pools[k]?).getD []
  | none => []

/-- R73: a cluster of the list has a KERNEL slot in this tick that admits partition p. -/
def kernelSlot (s : Dev) (cs : List Nat) (p : Nat) : Bool :=
  !s.plan.missed && (slotsNow s).any fun x => x.cls == .kernel && x.kind == .ventCluster && cs.contains x.unit && slotAdmits x p

/-- R54, R652, R657: work of background activity `a`: in one of its BG slots, not in power states from `limit` on, nor, where it
`waits`, in fumarole service. -/
def background (a limit : Nat) (waits : Bool) (f : Dev → Dev) (s : Dev) : Dev :=
  if limit ≤ s.pwr.st ∨ (waits ∧ s.pwr.fumarole) ∨ !bgSlot s a then s else noteBg a (f s)

/-- The key of a Vent or Mudpot context. -/
def ctxKey (c : CtxId) : Nat := if c.mudpot then 65536 + c.core * 4 + c.ctx else c.core * 16 + c.ctx

/-- The thread that a context holds. -/
def ctxOf (s : Dev) (c : CtxId) : Option VCtx := tget s.vnt.ctxs (ctxKey c)

/-- R72: no thread holds the context, neither one of a launch nor that of a query (R367). -/
def ctxFree (s : Dev) (c : CtxId) : Bool :=
  (ctxOf s c).isNone && !(s.rtv.queries.any fun q => match q.place with
    | some (k, _) => k == ctxKey c
    | none => false)

/-- R72: the contexts of the cores of some clusters, in increasing core and then context number. -/
def clusterContexts (cl : List Nat) : List CtxId :=
  ((sortBy (fun a b => decide (a ≤ b)) cl).map fun c => ((List.range 64).map fun i =>
    (List.range 16).map fun x => (⟨false, 64 * c + i, x⟩ : CtxId)).flatten).flatten

/-- R665: a checked standby plan retires cluster c. -/
def standbyRetires (s : Dev) (c : Nat) : Bool := match s.plan.standby with
  | some p => p.retiredClusters.contains c
  | none => false

/-- R72, R665: the free contexts of a list of clusters that serve. -/
def freeContexts (s : Dev) (cl : List Nat) : List CtxId :=
  (clusterContexts (cl.filter fun c => tgetD s.vnt.clusters c 0 == 1 && !standbyRetires s c)).filter (ctxFree s)

/-- Work of a unit of kind k for partition p: only in an SVC slot that admits p (R52, R63). -/
def inSvc (k : UnitKind) (p : Nat) (f : Dev → Dev) (s : Dev) : Dev := if svcSlot s k p then f s else s

/-! ## Manifests (R67, R69) -/

/-- R69: the 32 bytes of an entry. -/
def manBytes (m : ManEnt) : List Byte :=
  leBytes 4 m.slot ++ leBytes 1 m.cls ++ leBytes 1 m.kind ++ leBytes 2 m.count ++ leBytes 8 m.desc ++ leBytes 4 m.chargeP ++
  leBytes 4 m.chargeN ++ leBytes 8 m.planId

/-- The entry that 32 bytes hold. -/
def manOf (b : List Byte) : ManEnt :=
  ⟨field b 0 4, field b 4 1, field b 5 1, field b 6 2, field b 8 8, field b 16 4, field b 20 4, field b 24 8⟩

/-- The ledger numbers that the entry's descriptor names. -/
def descReqs (s : Dev) (m : ManEnt) : List Nat := tgetD s.plan.descs m.desc []

/-- The ledger numbers that the entries of a kind name. -/
def manifestReqs (s : Dev) (es : List ManEnt) (kind : Nat) : List Nat :=
  ((es.filter fun m => m.kind == kind).map (descReqs s)).flatten

/-- This tick's manifest holds the launch (kind 3) or service item (kind 4) with the ledger number. -/
def listed (s : Dev) (kind seq : Nat) : Bool := (manifestReqs s s.plan.latched kind).contains seq

/-- The entry of a launch or service item has been used. -/
def unlist (s : Dev) (kind seq : Nat) : Dev :=
  { s with plan.latched := s.plan.latched.filter fun m => !(m.kind == kind && (descReqs s m).contains seq) }

/-! ## Timers -/

/-- A timer set: its expiry is stamped at the boundary that ends tick `due`. -/
def addTimer (d : Dev) (kind : TimerKind) (due arr obj : Nat) : Dev :=
  { d with timers := d.timers ++ [⟨kind, due, arr, obj, none⟩] }

/-- The timer of a kind that belongs to the request with arrival number `arr`. -/
def timerOf (d : Dev) (kind : TimerKind) (arr : Nat) : Option Timer :=
  d.timers.find? fun t => t.kind == kind && t.arr == arr

/-- The ledger number of that timer's stamped expiry. -/
def expiredAt (d : Dev) (kind : TimerKind) (arr : Nat) : Option Nat := (timerOf d kind arr).bind (·.stamp)

/-- That timer leaves the table. -/
def dropTimer (d : Dev) (kind : TimerKind) (arr : Nat) : Dev :=
  { d with timers := d.timers.filter fun t => !(t.kind == kind && t.arr == arr) }

/-! ## Draws (R620) -/

/-- The next value of the Obsidian core's generator. -/
def drawNext (s : Dev) : Nat × Dev := (Config.draw s.obs.drbg, { s with obs.drbg := s.obs.drbg + 1 })

end Sys2Proof.Machine
end

