-- ==== Sys2Proof/Machine/Gf.lean ====
section
/-!
DEFINITION. Sys2Proof/Machine/Gf.lean: the fields GF(2^m) and the systematic Reed-Solomon encoder of the HBM's outer code (R422) and of
the links' codewords (R446).
-/

namespace Sys2Proof.Machine

/-- A field GF(2^bits) by the polynomial that it is built on; α is the residue of x. -/
structure Gf where
  bits : Nat
  poly : Nat
  deriving DecidableEq, Repr

/-- R422: x^16 + x^12 + x^3 + x + 1. -/
def gf16 : Gf := ⟨16, 0x1100B⟩

/-- R446: x^10 + x^3 + 1. -/
def gf10 : Gf := ⟨10, 0x409⟩

/-- Times α. -/
def gfStep (F : Gf) (a : Nat) : Nat := if 2 ^ (F.bits - 1) ≤ a then Nat.xor (2 * a) F.poly else 2 * a

/-- The product over the low `n` bits of b. -/
def gfMulAux (F : Gf) (b : Nat) : Nat → Nat → Nat → Nat
  | 0, _, acc => acc
  | n + 1, a, acc => gfMulAux F (b / 2) n (gfStep F a) (if b % 2 = 1 then Nat.xor acc a else acc)

def gfMul (F : Gf) (a b : Nat) : Nat := gfMulAux F b F.bits a 0

/-- α^n. -/
def gfAlpha (F : Gf) : Nat → Nat
  | 0 => 1
  | n + 1 => gfStep F (gfAlpha F n)

/-- The product of a^2, a^4, … over n squarings. -/
def gfInvAux (F : Gf) : Nat → Nat → Nat → Nat
  | 0, _, acc => acc
  | n + 1, a, acc => gfInvAux F n (gfMul F a a) (gfMul F acc (gfMul F a a))

/-- a^(2^bits − 2), the inverse of a. -/
def gfInv (F : Gf) (a : Nat) : Nat := gfInvAux F (F.bits - 1) a 1

/-- A polynomial (highest coefficient first) times (x − r). -/
def gfTimesRoot (F : Gf) (p : List Nat) (r : Nat) : List Nat :=
  List.zipWith Nat.xor (p ++ [0]) (0 :: p.map fun c => gfMul F c r)

/-- The generator polynomial (x − α^0)(x − α^1)…(x − α^(n − 1)). -/
def rsGenerator (F : Gf) (n : Nat) : List Nat := (List.range n).foldl (fun p i => gfTimesRoot F p (gfAlpha F i)) [1]

/-- One more data symbol enters the remainder `r` of the division by the generator g. -/
def rsShift (F : Gf) (g r : List Nat) (m : Nat) : List Nat :=
  let q := Nat.xor (r.headD 0) m
  List.zipWith Nat.xor (r.drop 1 ++ [0]) ((g.drop 1).map fun c => gfMul F c q)

/-- The data symbols and the n check symbols behind them, the first symbol the highest coefficient (log 52). -/
def rsEncode (F : Gf) (n : Nat) (m : List Nat) : List Nat := m ++ m.foldl (rsShift F (rsGenerator F n)) (List.replicate n 0)

end Sys2Proof.Machine
end

