-- ==== Sys2Proof/Machine/Hbm.lean ====
section
/-!
DEFINITION. Sys2Proof/Machine/Hbm.lean: the HBM: where a frame's granules lie (R418 to R421, R438 to R440), the outer code over GF(2^16)
(R422, R424) and the codewords that hold errors (R423, R425).
-/

namespace Sys2Proof.Machine

/-! ## Frames, page table entries and Tephra copies -/

def frame (s : Dev) (f : Nat) : Option Frame := tget s.pg.frames f
def pte (s : Dev) (n : Nat) : Option Pte := tget s.pg.ptes n
def desc (s : Dev) (a : Nat) : Option Desc := tget s.pg.descs a
def setFrame (s : Dev) (f : Nat) (x : Frame) : Dev := { s with pg.frames := tset s.pg.frames f x }
def setPte (s : Dev) (n : Nat) (x : Pte) : Dev := { s with pg.ptes := tset s.pg.ptes n x }
def setDesc (s : Dev) (a : Nat) (x : Desc) : Dev := { s with pg.descs := tset s.pg.descs a x }
def modFrame (s : Dev) (f : Nat) (g : Frame → Frame) : Dev := { s with pg.frames := tmod s.pg.frames f g }
def modPte (s : Dev) (n : Nat) (g : Pte → Pte) : Dev := { s with pg.ptes := tmod s.pg.ptes n g }
def modDesc (s : Dev) (a : Nat) (g : Desc → Desc) : Dev := { s with pg.descs := tmod s.pg.descs a g }

/-- The bytes of frame f start at this address of HBM. -/
def frameBase (f : Nat) : Nat := f * 65536

/-- Bytes written into frame f from offset o. -/
def writeFrame (s : Dev) (f o : Nat) (l : List Byte) : Dev :=
  { s with pg.hbm := Memory.writeBytes s.pg.hbm (frameBase f + o) l,
           hbm.errs := s.hbm.errs.filter fun b =>
             let at' := b.cw.granule * 512 + b.cw.word * 64
             !(b.cw.frame == f && decide (o ≤ at') && decide (at' + 64 ≤ o + l.length)) }

/-- n bytes of frame f from offset o. -/
def readFrame (s : Dev) (f o n : Nat) : List Byte := Memory.readBytes s.pg.hbm (frameBase f + o) n

/-! ## Places -/

/-- R658, R660: frame f still lies in the fumarole window. -/
def inWindow (d : Dev) (f : Nat) : Bool :=
  decide (f < 393216) && (d.pwr.fumarole || (d.pwr.migrating && decide (d.pwr.cursor ≤ f)))

/-- R438: the frame whose place frame f takes. -/
def placeFrame (d : Dev) (f : Nat) : Nat := (tget d.hbm.reloc f).getD f

/-- R420, R658: the stack and slot granule of granule g of frame f. -/
def granulePlace (d : Dev) (f g : Nat) : Nat × Nat :=
  let loc := match frame d f with
    | some x => x.loc
    | none => false
  let p := placeFrame d f
  if inWindow d f then (0, g) else if loc then (p % 8, g) else ((g + p) % 8, 16 * (p % 8) + g / 8)

/-- R418, R419: the pseudo-channel of slot granule s of a stack. -/
def slotPc (stack s : Nat) : Nat := 32 * stack + 2 * (s % 16) + s / 16 % 2

/-- Granules of a retiring pseudo-channel (R439). -/
def retireGranules : Nat := 3047424

/-- Pseudo-channel n (R443); one that no training reported is OFFLINE. -/
def Pc.offline : Pc := { st := 0, failing := false, mark0 := none, mark1 := none, uePass := 0 }
def pcAt (d : Dev) (n : Nat) : Pc := tgetD d.hbm.pcs n Pc.offline
def setPc (d : Dev) (n : Nat) (x : Pc) : Dev := { d with hbm.pcs := tset d.hbm.pcs n x }

/-- R440: granules of pseudo-channel n below this index lie in donor slots. -/
def retireCursor (d : Dev) (n : Nat) : Nat :=
  if (pcAt d n).st = 3 then retireGranules
  else match d.hbm.retire with
    | some r => if r.pc = n then r.cursor else 0
    | none => 0

/-- R439: the slot granule of the donor granule of index x of the retiring pseudo-channel n. -/
def donorSlot (n x : Nat) : Nat :=
  let offered := (List.range 128).filter fun s => slotPc (n / 32) s != n
  (nth offered (x % 124)).getD 0

/-- R418, R419, R440: the pseudo-channel and the granule index there of granule g of frame f. -/
def granuleAt (d : Dev) (f g : Nat) : Nat × Nat :=
  let p := granulePlace d f g
  let n := slotPc p.1 p.2
  let slot := if inWindow d f then f else placeFrame d f / 8
  let x := 4 * slot + p.2 / 32
  if x < retireCursor d n then
    let s := donorSlot n x
    (slotPc (n / 32) s, 4 * (761856 + x / 124) + s / 32)
  else (n, x)

def granulePc (d : Dev) (f g : Nat) : Nat := (granuleAt d f g).1

/-- R419: the bank and row of granule index i of pseudo-channel n. -/
def bankRow (d : Dev) (n i : Nat) : Nat × Nat :=
  let nb := match tget d.hbm.stks (n / 32) with
    | some k => k.banks
    | none => 0
  (i % nb, i / nb / 2)

/-! ## The outer code (R422, R424) -/

/-- R422: the symbol of data lane j of a codeword's 64 bytes: bit t is the bit of beat t. -/
def laneSymbol (bytes : List Byte) (j : Nat) : Nat :=
  ((List.range 16).map fun t => if bit (bytes.getD (4 * t + j / 8) 0).toNat (j % 8) then 2 ^ t else 0).sum

/-- R422: the 36 symbols of the codeword: 32 data lanes, and the remainder on lanes 32 to 35. -/
def outerEncode (bytes : List Byte) : List Nat := rsEncode gf16 4 ((List.range 32).map (laneSymbol bytes))

/-- The locator of lane j. -/
def laneLoc (j : Nat) : Nat := gfAlpha gf16 (35 - j)

/-- Syndrome k of a word given by its lanes that are not zero. The syndromes of a stored word are those of its errors alone, since those
of what was written are zero. -/
def syndrome (w : List (Nat × Nat)) (k : Nat) : Nat :=
  w.foldl (fun s q => Nat.xor s (gfMul gf16 q.2 (gfAlpha gf16 (k * (35 - q.1))))) 0

def syndromes (w : List (Nat × Nat)) : List Nat := (List.range 4).map (syndrome w)

/-- The errors on exactly lane j that have these syndromes. -/
def solveOne (s : List Nat) (j : Nat) : Option (List (Nat × Nat)) :=
  let e := [(j, s.headD 0)]
  if syndromes e = s then some e else none

/-- The errors on lanes i and j that have these syndromes. -/
def solveTwo (s : List Nat) (i j : Nat) : Option (List (Nat × Nat)) :=
  let s0 := s.headD 0
  let b := gfMul gf16 (Nat.xor (s.getD 1 0) (gfMul gf16 s0 (laneLoc i))) (gfInv gf16 (Nat.xor (laneLoc i) (laneLoc j)))
  let e := [(i, Nat.xor s0 b), (j, b)]
  if syndromes e = s then some e else none

/-- R424: what the outer decoder corrects, from the syndromes and the marked lanes, which it takes as erasures: with no mark one lane, with
one mark that lane and one other, with two marks those lanes. None where the word is uncorrectable. -/
def outerDecode (marks : List Nat) (s : List Nat) : Option (List (Nat × Nat)) :=
  let r := if s = [0, 0, 0, 0] then some []
    else match marks with
      | [] => (List.range 36).findSome? (solveOne s)
      | [m] => ((List.range 36).filter (· != m)).findSome? (solveTwo s m)
      | m :: n :: _ => solveTwo s m n
  r.map fun e => e.filter fun q => q.2 != 0

/-! ## Codewords with errors (R423 to R427) -/

/-- The marked lanes of pseudo-channel n (R423). -/
def marksOf (d : Dev) (n : Nat) : List Nat := (pcAt d n).mark0.toList ++ (pcAt d n).mark1.toList

/-- RAW of the page in frame f (R410). -/
def rawFrame (d : Dev) (f : Nat) : Bool := d.pg.ptes.any fun q => q.2.tier == .hbm && q.2.at' == f && q.2.raw

/-- What the outer decoder makes of a codeword's errors. -/
def decodeCw (d : Dev) (e : CwErr) : Option (List (Nat × Nat)) :=
  outerDecode (marksOf d (granulePc d e.cw.frame e.cw.granule)) (syndromes e.lanes)

/-- R425: a read of the codeword is uncorrectable: by the outer decode alone, and for a page with RAW set by the severity alone. -/
def uncorrectable (d : Dev) (e : CwErr) : Bool :=
  if rawFrame d e.cw.frame then e.sev == 2 else (decodeCw d e).isNone

/-- The uncorrectable codewords. -/
def badCws (d : Dev) : List CwAddr := (d.hbm.errs.filter (uncorrectable d)).map (·.cw)

/-- R427: frame f holds an uncorrectable codeword. -/
def badFrame (d : Dev) (f : Nat) : Bool := (badCws d).any fun c => c.frame == f

/-- R409, R410: frame f is encoded anew from its inner-code reading: a codeword that the inner code could read has no errors then. -/
def resealFrame (d : Dev) (f : Nat) : Dev :=
  { d with hbm.errs := d.hbm.errs.filter fun b => !(b.cw.frame == f && b.sev != 2) }

/-- Two error patterns of one codeword together. -/
def addLanes (a b : List (Nat × Nat)) : List (Nat × Nat) :=
  ((List.range 36).map fun j => (j, Nat.xor (tgetD a j 0) (tgetD b j 0))).filter fun q => q.2 != 0

/-- The standing errors of a codeword. -/
def errsAt (d : Dev) (c : CwAddr) : List (Nat × Nat) := match d.hbm.errs.find? fun e => e.cw == c with
  | some e => e.lanes
  | none => []

/-- The codeword's stored bits agree with what was written. -/
def clearErrs (d : Dev) (c : CwAddr) : Dev := { d with hbm.errs := d.hbm.errs.filter fun e => e.cw != c }

/-- Bits of the codeword's data changed: byte b of the codeword by its lanes' bits (R422). -/
def flipData (d : Dev) (c : CwAddr) (lanes : List (Nat × Nat)) : Dev :=
  let o := c.granule * 512 + c.word * 64
  let old := readFrame d c.frame o 64
  let flip := fun (b : Nat) => ((List.range 8).map fun t =>
    if bit (tgetD lanes (8 * (b % 4) + t) 0) (b / 4) then 2 ^ t else 0).sum
  writeFrame d c.frame o (old.zipIdx.map fun (x, b) => x ^^^ BitVec.ofNat 8 (flip b))

/-- New errors join those that stand. A pattern beyond the limits of R424 that the decoder takes for another leaves the data changed by
the difference. -/
def meetErrs (d : Dev) (e : CwErr) : Dev :=
  let all := addLanes (errsAt d e.cw) e.lanes
  let d := clearErrs d e.cw
  let x : CwErr := { e with lanes := all }
  if (frame d e.cw.frame).isNone then d
  else match decodeCw d x with
    | some corr =>
      let diff := (addLanes all corr).filter fun q => decide (q.1 < 32)
      let d := if diff.isEmpty then d else flipData d e.cw diff
      if corr.isEmpty ∧ x.sev = 0 then d else { d with hbm.errs := d.hbm.errs ++ [{ x with lanes := corr }] }
    | none => { d with hbm.errs := d.hbm.errs ++ [x] }

/-- The reads that the row reports: their severities and corrections are counted (R425, R426). -/
def countErrs (d : Dev) (e : CwErr) : Dev :=
  let d := if e.sev = 1 then bump d Addr.TMC_INNER_CE_CNT else if e.sev = 2 then bump d Addr.TMC_INNER_UE_CNT else d
  match decodeCw d { e with lanes := errsAt d e.cw } with
  | some (_ :: _) => if rawFrame d e.cw.frame then d else bump d Addr.TMC_OUTER_CE_CNT
  | _ => d

/-- A read that met errors. -/
def readErrs (d : Dev) (e : CwErr) : Dev := countErrs (meetErrs d e) e

end Sys2Proof.Machine
end

