-- ==== Sys2Proof/Machine/Pages.lean ====
section
/-!
DEFINITION. Sys2Proof/Machine/Pages.lean: frames, page table entries, Tephra copies, their allocation and the page
state machine of R111, with the snapshot marks and holds of R107 to R109 and R508 to R510.
-/

namespace Sys2Proof.Machine

/-- A result, or a status code; code 0 stands for an event that waits (R700). -/
abbrev Res (α : Type) := Except Nat α

/-! ## Frames and pages -/

/-- Frame f's contents copied to frame g (R112: the destination is sealed), with the book slot they name. -/
def copyFrame (s : Dev) (f g : Nat) : Dev :=
  let book := match frame s f with
    | some x => x.book
    | none => 0
  let s := modFrame s g fun x => { x with book := book }
  { s with pg.hbm := Memory.copy s.pg.hbm (frameBase f) (frameBase g) 65536,
           hbm.errs := s.hbm.errs.filter fun c => c.cw.frame != g }

/-- The frame that holds a page now, when one does. -/
def pageFrame (s : Dev) (spn : Nat) : Option Nat :=
  match pte s spn with
  | some p => match p.tier with
    | .hbm | .inFlight => some p.at'
    | _ => none
  | none => none

/-- The frame of a page whose contents are readable there: resident or on its way out (rows 5, 15). -/
def residentFrame (s : Dev) (spn : Nat) : Option Nat :=
  match pte s spn with
  | some p => match p.tier with
    | .hbm => some p.at'
    | .inFlight => match frame s p.at' with
      | some f => if f.st = .outgoing then some p.at' else none
      | none => none
    | _ => none
  | none => none

/-- The states of R110. -/
inductive PageSt where
  | free | new | hbm | out | inn | tephra | lost
  deriving DecidableEq, Repr

/-- R110: the state that the PTE and the frame or descriptor determine. -/
def pageSt (s : Dev) (spn : Nat) : PageSt :=
  match pte s spn with
  | none => .free
  | some p => match p.tier with
    | .never => .new
    | .hbm => .hbm
    | .inFlight => match frame s p.at' with
      | some f => if f.st = .incoming then .inn else .out
      | none => .out
    | .tephra => match desc s p.at' with
      | some d => if d.st = .lost then .lost else .tephra
      | none => .lost

/-- R111: an event that the table does not list. -/
def illegalEvent (s : Dev) : Dev := bump s Addr.SPM_ILLEGAL_EVT_CNT

/-! ## Model facts that pages depend on -/

/-- The descriptor of a READY model slot. -/
def modelDesc (s : Dev) (m : Nat) : Option Descr := match tget s.mdl.slots m with
  | some x => x.desc
  | none => none

/-- The layer entry of a session's layer. -/
def layerOf (s : Dev) (e : SessEnt) (l : Nat) : Option LayerDesc := match modelDesc s e.model with
  | some d => nth d.layers l
  | none => none

/-- KIND of a session's layer (R168), 0 where no descriptor is held. -/
def kindOf (s : Dev) (e : SessEnt) (l : Nat) : Nat := match layerOf s e l with
  | some d => d.kind
  | none => 0

/-- R88: a layer's control pages: its state pages, or its tail page. -/
def layerControl (s : Dev) (e : SessEnt) (i : Nat) (l : LayerSt) : List Nat :=
  if kindOf s e i = 2 then l.pages.map (·.spn) else l.pages.getLast?.toList.map (·.spn)

/-- R88: the control pages, the control page first, then layer by layer (R92). -/
def controlSpns (s : Dev) (e : SessEnt) : List Nat :=
  e.ctrlSpn :: (e.layers.zipIdx.map fun (l, i) => layerControl s e i l).flatten

/-- The key-value and recurrent state pages of a session. -/
def dataSpns (e : SessEnt) : List Nat := (e.layers.map fun l => l.pages.map (·.spn)).flatten

/-- R101, R207: the directory, the layer page lists and the summary arrays, which are never parked (R135). -/
def metaOnlySpns (e : SessEnt) : List Nat :=
  e.dirSpn :: e.metaSpns ++ (e.layers.map (·.sumSpns)).flatten

/-- Every SPN of a session. -/
def allSpns (e : SessEnt) : List Nat := metaOnlySpns e ++ e.ctrlSpn :: dataSpns e

/-- The layer that holds page `spn`, as a key-value, state or summary page. -/
def layerIndex (e : SessEnt) (spn : Nat) : Option Nat :=
  e.layers.findIdx? fun l => l.sumSpns.contains spn || l.pages.any fun p => p.spn == spn

/-- R405: the home stack of layer l of entry e. -/
def homeStack (e l : Nat) : Nat := (e + l) % 8

/-- R404: whether a session's page is stack-local, and its home stack. -/
def placeOf (s : Dev) (i spn : Nat) : Bool × Nat :=
  match layerIndex (sess s i) spn with
  | some l => (true, homeStack i l)
  | none => (false, 0)

/-- A LOGITS of entry i has been accepted and not answered: it awaits its sampler unit or its host, or its token awaits its release
(R89). -/
def logitsOpen (s : Dev) (i : Nat) : Bool :=
  (s.tok.logits.any fun l => l.entry == i && l.held.isNone) || (sess s i).ctrl.pend.any fun t => !t.noToken

/-- R89: the session has a step in progress. -/
def stepInProgress (s : Dev) (i : Nat) : Bool :=
  let e := sess s i
  (e.layers.any fun l => l.len != e.length) ||
  (s.reqs.any fun r => r.entry == i && r.phase != .waiting) ||
  e.st == .awaitHost || logitsOpen s i

/-- R91: an admitted request or an accepted LOGITS is unanswered, or a RECURRENT layer has advanced past LENGTH. -/
def stepBars (s : Dev) (i : Nat) : Bool :=
  let e := sess s i
  (s.reqs.any fun r => r.entry == i && r.phase != .waiting) || logitsOpen s i ||
  (e.layers.zipIdx.any fun (l, k) => kindOf s e k == 2 && decide (e.length < l.len))

/-! ## Frame placement (R403, R420, R421, R436, R658, R660) -/

/-- Frame rows of the device. -/
def frameRows : Nat := 786432

/-- R436, R438: a band frame while TMC_BAND_HOLD is 1, or once a retirement has made the band's FREE frames RETIRED. -/
def bandHeld (s : Dev) (f : Nat) : Bool := (bit (rd s Addr.TMC_BAND_HOLD) 0 || s.hbm.bandOut) && decide (6094848 ≤ f)

/-- R658, R660: the row may receive new frames. -/
def rowOpen (s : Dev) (row : Nat) : Bool :=
  if s.pwr.fumarole then decide (row < 49152)
  else if s.pwr.migrating && decide (row < 393216) then
    decide (row < s.pwr.cursor) && (decide (49152 ≤ row) || decide (8 * row + 7 < s.pwr.cursor))
  else true

/-- R420: the mode of a frame row: that of its allocated frames, none when it has none. A frame whose place a relocated
frame takes (R438) keeps its row's mode. -/
def rowMode (s : Dev) (row : Nat) : Option Bool :=
  (List.range 8).findSome? fun k => match frame s (8 * row + k) with
    | some f => some f.loc
    | none => none

/-- The frame is FREE and may be allocated with the given LOC. -/
def canTake (s : Dev) (loc : Bool) (f : Nat) : Bool :=
  (frame s f).isNone && !bandHeld s f && rowOpen s (f / 8) &&
  match rowMode s (f / 8) with
  | some m => m == loc
  | none => true

/-- R421: stack-local frames at position k, from row `row` down, at most `fuel` rows and not below `lo`. -/
def findDown (s : Dev) (k lo : Nat) : Nat → Nat → Option Nat
  | 0, _ => none
  | fuel + 1, row =>
    if canTake s true (8 * row + k) then some (8 * row + k)
    else if row ≤ lo then none else findDown s k lo fuel (row - 1)

/-- R421: spread frames from row `row` up, at most `fuel` rows and below `hi`; the lowest position of a row first. -/
def findUp (s : Dev) (hi : Nat) : Nat → Nat → Option Nat
  | 0, _ => none
  | fuel + 1, row =>
    if hi ≤ row then none
    else match (List.range 8).find? fun k => canTake s false (8 * row + k) with
      | some k => some (8 * row + k)
      | none => findUp s hi fuel (row + 1)

/-- A search passes at most one row for each frame that is not FREE. -/
def searchFuel (s : Dev) : Nat := s.pg.frames.length + 1

/-- The highest row that may be open: the band is skipped while it is held (R436). -/
def topRow (s : Dev) : Nat :=
  if s.pwr.fumarole then 49151 else if bandHeld s 6291455 then 761855 else frameRows - 1

/-- R421, R660: a frame for LOC = 1 at position k. -/
def pickLocal (s : Dev) (k : Nat) : Option Nat :=
  (findDown s k 0 (searchFuel s) (topRow s)).orElse fun _ =>
    if s.pwr.migrating then
      (findDown s k 49152 (searchFuel s) (s.pwr.cursor - 1)).orElse fun _ =>
        findDown s k 0 (searchFuel s) ((s.pwr.cursor - 8) / 8)
    else none

/-- R421, R660: a frame for LOC = 0. -/
def pickSpread (s : Dev) : Option Nat :=
  (findUp s frameRows (searchFuel s) 0).orElse fun _ =>
    if s.pwr.migrating then
      (findUp s s.pwr.cursor (searchFuel s) 49152).orElse fun _ => findUp s frameRows (searchFuel s) 393216
    else none

/-- R405: the home stack, or the next stack in increasing order mod 8 that has a frame. -/
def pickHome (s : Dev) (home : Nat) : Option Nat :=
  (List.range 8).findSome? fun d => pickLocal s ((home + d) % 8)

/-- R405, R421: the frame that an allocation takes. -/
def pickFrame (s : Dev) (loc : Bool) (home : Nat) : Option Nat := if loc then pickHome s home else pickSpread s

/-- A frame taken: VALID with REFCNT 1 and zero contents, charged to `own` (R109). -/
def takeFrame (s : Dev) (f own : Nat) (loc : Bool) : Dev :=
  let s := setFrame s f ⟨1, .valid, false, false, own, 0, 0, loc, 0⟩
  { s with pg.hbm := Memory.clear s.pg.hbm (frameBase f) 65536, hbm.errs := s.hbm.errs.filter fun c => c.cw.frame != f }

/-! ## Capacity (R145 to R150, R695) -/

/-- Frames of the adapter cache in use: cached units and staged images (R298, R301). -/
def cacheInUse (s : Dev) : Nat :=
  (s.adp.cache.filter fun c => c.fwd.isNone).length + (s.adp.ids.map fun q => match q.2.stage with
    | some i => i.frames.length
    | none => 0).sum

/-- R301: the frames of the adapter cache that are set aside and not in use. -/
def cacheSpare (s : Dev) : Nat := rd s Addr.ADP_CACHE_FRAMES - cacheInUse s

/-- R146, R301: frames charged to partition p; the whole adapter cache is charged to partition 0. -/
def charged (s : Dev) (p : Nat) : Nat :=
  (s.pg.frames.filter fun q => q.2.own == p && q.2.st != .retired).length + if p = 0 then cacheSpare s else 0

/-- R146: Tephra units charged to partition p. -/
def chargedUnits (s : Dev) (p : Nat) : Nat := (s.pg.descs.filter fun q => q.2.own == p).length

/-- Frames that can hold anything: those not RETIRED, within the window of R658 during fumarole service, and not free
band frames while the band is held (R436). -/
def usableFrames (s : Dev) : Nat :=
  if s.pwr.fumarole then 393216
  else
    let retired := (s.pg.frames.filter fun q => q.2.st == .retired).length
    let held := if bandHeld s 6291455 then 196608 - (s.pg.frames.filter fun q => decide (6094848 ≤ q.1)).length else 0
    6291456 - retired - held

/-- The frames that partition p keeps out of the pool (R147). -/
def frameShare (s : Dev) (p : Nat) (c : Part) : Nat :=
  if c.cfg.capMode = 1 then max (charged s p) c.cfg.hbmFrames else charged s p

/-- R147: free pool frames. -/
def poolFree (s : Dev) : Nat := usableFrames s - (s.parts.map fun q => frameShare s q.1 q.2).sum

/-- Units of the bound slots (R122). -/
def totalUnits (s : Dev) : Nat := (s.tier.map fun t => t.2.cap).sum

/-- R147: free pool units. -/
def poolUnits (s : Dev) : Nat :=
  totalUnits s - (s.parts.map fun q =>
    if q.2.cfg.capMode = 1 then max (chargedUnits s q.1) q.2.cfg.tephraUnits else chargedUnits s q.1).sum

/-- A pool frame is free and one can be placed. -/
def allocAt (s : Dev) (own : Nat) (loc : Bool) (home : Nat) : Option (Nat × Dev) :=
  match pickFrame s loc home with
  | some f => some (f, takeFrame s f own loc)
  | none => none

/-- A frame of the adapter cache, which was set aside for it (R301). -/
def allocCache (s : Dev) : Option (Nat × Dev) := allocAt s 0 false 0

/-- R695: free frames of partition 0's reservation and of the pool. -/
def ownRoom (s : Dev) : Nat :=
  let c := (part s 0).cfg
  (if c.capMode = 1 then c.hbmFrames - charged s 0 else 0) + poolFree s

/-- R695: an allocation for partition 0's own structures. -/
def allocOwn (s : Dev) (loc : Bool) (home : Nat) : Res (Nat × Dev) :=
  if 0 < ownRoom s then
    match allocAt s 0 loc home with
    | some r => .ok r
    | none => .error stNoCap
  else .error stNoCap

/-- n frames for partition 0's own structures, or none. -/
def allocOwnMany (s : Dev) (loc : Bool) (home : Nat) : Nat → Res (List Nat × Dev)
  | 0 => .ok ([], s)
  | n + 1 =>
    match allocOwn s loc home with
    | .error e => .error e
    | .ok (f, s1) => match allocOwnMany s1 loc home n with
      | .error e => .error e
      | .ok (fs, s2) => .ok (f :: fs, s2)

/-! ## Reference counts and twins (R105, R106, R113, R694) -/

/-- R106: one more reference of a 24-bit count. -/
def incCount (c : Nat) : Nat := if c = 0xFFFFFF then c else c + 1

/-- R106: one reference less; a sticky count stays. -/
def decCount (c : Nat) : Nat := if c = 0xFFFFFF then c else c - 1

/-- R106: the saturation counter. -/
def noteSticky (s : Dev) (c : Nat) : Dev := if c = 0xFFFFFF then bump s Addr.SPM_STICKY_CNT else s

/-- One more reference to frame f. -/
def incFrame (s : Dev) (f : Nat) : Dev := match frame s f with
  | some x => modFrame (noteSticky s x.refcnt) f fun x => { x with refcnt := incCount x.refcnt }
  | none => s

/-- One more reference to the Tephra copy at a. -/
def incDesc (s : Dev) (a : Nat) : Dev := match desc s a with
  | some x => modDesc (noteSticky s x.refcnt) a fun x => { x with refcnt := incCount x.refcnt }
  | none => s

/-- A Tephra address released. -/
def releaseUnit (s : Dev) (a : Nat) : Dev := { s with pg.descs := tdel s.pg.descs a }

/-- R694: the copy at a loses its TV: it is freed when nothing refers to it. -/
def endDescTwin (s : Dev) (a : Nat) : Dev := match desc s a with
  | some d => if d.refcnt = 0 then releaseUnit s a else modDesc s a fun d => { d with tv := false }
  | none => s

/-- R113, R438: frame f becomes FREE; its twin loses TV; a relocated band frame becomes RETIRED and its place FREE. -/
def freeFrame (s : Dev) (f : Nat) : Dev :=
  let s := match frame s f with
    | some x => if x.tv then endDescTwin s x.twin else s
    | none => s
  let s := { s with hbm.errs := s.hbm.errs.filter fun c => c.cw.frame != f }
  match tget s.hbm.reloc f with
  | some g =>
    let s := { s with hbm.reloc := tdel s.hbm.reloc f, pg.frames := tdel s.pg.frames g }
    setFrame s f ⟨0, .retired, false, false, 0, 0, 0, false, 0⟩
  | none => { s with pg.frames := tdel s.pg.frames f }

/-- One reference to frame f less; at 0 it is freed (R694). -/
def decFrame (s : Dev) (f : Nat) : Dev := match frame s f with
  | some x =>
    if decCount x.refcnt = 0 then freeFrame s f else modFrame s f fun x => { x with refcnt := decCount x.refcnt }
  | none => s

/-- One reference to the copy at a less; at 0 a copy with TV = 1 is kept as its frame's twin (R694, row 34). -/
def decDesc (s : Dev) (a : Nat) : Dev := match desc s a with
  | some d =>
    if decCount d.refcnt = 0 ∧ d.tv = false then releaseUnit s a
    else modDesc s a fun d => { d with refcnt := decCount d.refcnt }
  | none => s

/-- Row 6: the twin link of frame f ends. -/
def endTwin (s : Dev) (f : Nat) : Dev := match frame s f with
  | some x =>
    if x.tv then modFrame (endDescTwin s x.twin) f fun x => { x with tv := false } else s
  | none => s

/-- R107: a snapshot hold on a frame. -/
def holdFrame (s : Dev) (f spn : Nat) : Dev :=
  let s := incFrame s f
  { s with lah.holds := s.lah.holds ++ [⟨false, f, spn⟩] }

/-- R107: a snapshot hold on a Tephra copy. -/
def holdCopy (s : Dev) (a spn : Nat) : Dev :=
  let s := incDesc s a
  { s with lah.holds := s.lah.holds ++ [⟨true, a, spn⟩] }

/-! ## The snapshot reserve (R108, R509, R510) -/

/-- Frames of the reserve. -/
def reserveFrames (s : Dev) : List Nat := (s.pg.frames.filter fun q => q.2.st == .reserve).map (·.1)

/-- Reserve frames that no marked page holds. -/
def reserveFree (s : Dev) : List Nat := (reserveFrames s).filter fun f => !(s.lah.marked.any fun m => m.2 == f)

/-- LAH_RESERVE_FREE: reserve frames not promised. -/
def unpromised (s : Dev) : Nat := (reserveFree s).length - s.lah.promised

/-- R508: the page's P bit is set. -/
def uncaptured (s : Dev) (spn : Nat) : Bool := s.lah.pPages.contains spn

/-- Row 29: SNAP set with a reserve frame reserved; `prom`: the frame is one promised to the request (R510). -/
def markPage (s : Dev) (spn : Nat) (prom : Bool) : Res Dev :=
  match reserveFree s with
  | [] => .error 0
  | f :: _ =>
    if prom && decide (0 < s.lah.promised) then
      .ok (modPte { s with lah.marked := tset s.lah.marked spn f, lah.promised := s.lah.promised - 1 } spn
        fun p => { p with snap := true })
    else if 0 < unpromised s then
      .ok (modPte { s with lah.marked := tset s.lah.marked spn f } spn fun p => { p with snap := true })
    else .error 0

/-- SNAP cleared; the reserved frame goes back to the reserve. -/
def unmark (s : Dev) (spn : Nat) : Dev :=
  modPte { s with lah.marked := tdel s.lah.marked spn } spn fun p => { p with snap := false }

/-- R509 Drop: an uncaptured page's contents are kept by a hold before it is dropped; from then on the hold stands for the
page, whose number may be used again. -/
def holdBeforeDrop (s : Dev) (spn : Nat) : Dev :=
  if uncaptured s spn then
    let s := { s with lah.pPages := s.lah.pPages.filter (· != spn) }
    match pte s spn with
    | some p => match p.tier with
      | .tephra => holdCopy s p.at' spn
      | .never => s
      | _ => match frame s p.at' with
        | some f => if f.st = .incoming then holdCopy s f.twin spn else holdFrame s p.at' spn
        | none => s
    | none => s
  else s

/-- R408: every grant on the page is revoked before an event's data action. -/
def revokeGrants (s : Dev) (spn : Nat) : Dev :=
  let n := (s.vnt.grants.filter fun g => g.spn == spn && !g.revoked).length
  if n = 0 then s
  else bumpBy { s with vnt.grants := s.vnt.grants.map fun g => if g.spn == spn then { g with revoked := true } else g }
    Addr.MUD_REVOKE_CNT n

/-! ## Drops (rows 4, 11, 20, 26, 34, 37) -/

/-- V := 0; a table block is freed with its last SPN (R99), and the page's queued summary leaves with it (R211). -/
def freeSpn (s : Dev) (spn : Nat) : Dev :=
  let s := { s with pg.ptes := tdel s.pg.ptes spn, lah.marked := tdel s.lah.marked spn,
                    vnt.sumQ := s.vnt.sumQ.filter fun j => j.spn != spn }
  let b := spn / 65536
  if s.pg.ptes.any fun q => q.1 / 65536 == b then s
  else match tget s.pg.blocks b with
    | some fs => fs.foldl decFrame { s with pg.blocks := tdel s.pg.blocks b }
    | none => s

/-- The Drop event of R111 on a page in any state. -/
def dropPage (s : Dev) (spn : Nat) : Dev :=
  match pte s spn with
  | none => illegalEvent s
  | some p =>
    let st := pageSt s spn
    let s := notePage (holdBeforeDrop (revokeGrants s spn) spn) spn
    match st with
    | .free => s
    | .new => freeSpn s spn
    | .hbm => freeSpn (decFrame s p.at') spn
    | .out =>
      let s := { s with pg.xfers := s.pg.xfers.map fun x =>
        if x.frame == p.at' then { x with spns := x.spns.filter (· != spn) } else x }
      freeSpn (decFrame s p.at') spn
    | .inn =>
      let s := { s with pg.xfers := s.pg.xfers.map fun x =>
        if x.frame == p.at' then { x with spns := x.spns.filter (· != spn) } else x }
      freeSpn (decFrame s p.at') spn
    | .tephra => freeSpn (decDesc s p.at') spn
    | .lost => freeSpn (decDesc s p.at') spn

/-- A list of pages dropped. -/
def dropPages (s : Dev) (l : List Nat) : Dev := l.foldl dropPage s

/-! ## Parks without a transfer (row 12) and clean eviction (R151, R152) -/

/-- R509 Park: an uncaptured page that reaches P_TEPHRA with SNAP clear gets a hold on its copy; rows 12 and 17: a
SNAP page places one and gives its reserved frame back. -/
def parkSnap (s : Dev) (spn a : Nat) : Dev :=
  match pte s spn with
  | some p =>
    if p.snap then holdCopy (unmark s spn) a spn
    else if uncaptured s spn then holdCopy s a spn else s
  | none => s

/-- Row 12: the PTE points to the valid twin, which is sealed (R112). -/
def parkToTwin (s : Dev) (spn : Nat) : Dev :=
  match pte s spn with
  | some p => match frame s p.at' with
    | some f =>
      let a := f.twin
      let s := parkSnap (revokeGrants s spn) spn a
      let s := decFrame (incDesc s a) p.at'
      modPte s spn fun q => { q with tier := .tephra, at' := a, snap := false, raw := false }
    | none => s
  | none => s

/-- R152: age bucket, then entry. -/
def agedSessions (s : Dev) : List Nat :=
  (sortBy (fun a b : Nat × SessEnt => decide (a.2.lastTick / 1024 < b.2.lastTick / 1024) ||
    (a.2.lastTick / 1024 == b.2.lastTick / 1024 && decide (a.1 ≤ b.1)))
    (s.sess.filter fun q => q.2.st != .free)).map (·.1)

/-- R151: the pages of entry i that a clean eviction may take, lower SPN first. -/
def cleanPages (s : Dev) (i : Nat) : List Nat :=
  let e := sess s i
  let ctl := controlSpns s e
  (sortBy (fun a b => decide (a ≤ b)) (dataSpns e)).filter fun n =>
    pageSt s n == .hbm && !ctl.contains n && match pageFrame s n with
      | some f => match frame s f with
        | some x => x.refcnt == 1 && x.tv && x.st == .valid
        | none => false
      | none => false

/-- R275: entry i is the holder of an attach whose lookup has ended. -/
def attachHolder (s : Dev) (i : Nat) : Bool := s.pfx.jobs.any fun j => match j.hit with
  | some (_, _, k) => k == i
  | none => false

/-- R275: entry i is the holder or the target of such an attach. -/
def attaching (s : Dev) (i : Nat) : Bool :=
  attachHolder s i || s.pfx.jobs.any fun j => j.hit.isSome && live s j.handle == some i

/-- A session that an eviction may touch (R151). -/
def evictable (s : Dev) (i : Nat) : Bool :=
  !stepInProgress s i && (sess s i).st != .fenced && !(sess s i).doomed && !attachHolder s i

/-- The first page that a clean eviction takes among the sessions that `ok` admits. -/
def cleanVictim (s : Dev) (ok : Nat → Bool) : Option Nat :=
  (agedSessions s).findSome? fun i =>
    if ok (ownerOf s i) && evictable s i then (cleanPages s i).head? else none

/-- R151: one clean eviction, with the frame that it frees. -/
def cleanEvict (s : Dev) (ok : Nat → Bool) : Option (Nat × Dev) :=
  match cleanVictim s ok with
  | some n => some ((pageFrame s n).getD 0, bump (parkToTwin s n) Addr.TMC_CLEAN_EVICT_CNT)
  | none => none

/-- R148, R150: a frame charged to partition p, or the status that its capacity mode gives. A clean eviction's frame is taken, but
where its row cannot hold the LOC wanted (R420) or the band keeps it (R438). -/
def allocFrame (s : Dev) (p : Nat) (loc : Bool) (home : Nat) : Res (Nat × Dev) :=
  let c := (part s p).cfg
  if c.capMode = 1 then
    if charged s p < c.hbmFrames then
      match allocAt s p loc home with
      | some r => .ok r
      | none => .error stReserve
    else .error stReserve
  else
    let atCap := c.hbmFrames != 0 && decide (c.hbmFrames ≤ charged s p)
    if !atCap && decide (0 < poolFree s) then
      match allocAt s p loc home with
      | some r => .ok r
      | none => .error stNoCap
    else
      match cleanEvict s fun q => if atCap then q == p else (part s q).cfg.capMode == 0 with
      | some (f, s1) =>
        if canTake s1 loc f then .ok (f, takeFrame s1 f p loc)
        else match allocAt s1 p loc home with
          | some r => .ok r
          | none => .error stNoCap
      | none => .error stNoCap

/-! ## SPNs (R99) -/

/-- The eight frames of a new table block: the lowest row that is wholly free. -/
def allocBlock (s : Dev) (b : Nat) : Res Dev :=
  let free := fun row => (List.range 8).all fun k => canTake s false (8 * row + k)
  if 8 ≤ ownRoom s then
    match firstFrom free 0 (searchFuel s) with
    | some row =>
      let fs := (List.range 8).map fun k => 8 * row + k
      .ok { fs.foldl (fun s f => takeFrame s f 0 false) s with pg.blocks := tset s.pg.blocks b fs }
    | none => .error stNoCap
  else .error stNoCap

/-- The SPNs of block b in use, rising. -/
def blockSpns (s : Dev) (b : Nat) : List Nat := (s.pg.ptes.filter fun q => q.1 / 65536 == b).map (·.1)

/-- R99: block b has a free SPN. A block that is not allocated has all of its own. -/
def blockOpen (s : Dev) (b : Nat) : Bool := (tget s.pg.blocks b).isNone || decide ((blockSpns s b).length < 65536)

/-- R99, row 1: the lowest free SPN of the lowest-numbered of the 65,536 blocks that has one, with its new PTE of entry i. -/
def allocSpn (s : Dev) (i : Nat) : Res (Nat × Dev) :=
  let new : Pte := ⟨.never, false, false, false, false, false, 0, 0, i⟩
  match firstFrom (blockOpen s) 0 (s.pg.blocks.length + 1) with
  | none => .error stNoCap
  | some b =>
    if 65536 ≤ b then .error stNoCap
    else match (if (tget s.pg.blocks b).isSome then .ok s else allocBlock s b) with
      | .error e => .error e
      | .ok s1 =>
        let n := lowestFree (blockSpns s1 b) (b * 65536)
        .ok (n, notePage (setPte s1 n new) n)

/-! ## Write (rows 3, 6 to 9, 16) -/

/-- Row 3: a page never written gets its frame. -/
def firstWrite (s : Dev) (i p spn : Nat) : Res Dev :=
  let pl := placeOf s i spn
  match allocFrame s p pl.1 pl.2 with
  | .error e => .error e
  | .ok (f, s1) =>
    let loc := match frame s1 f with
      | some x => x.loc
      | none => pl.1
    .ok (modPte s1 spn fun q => { q with tier := .hbm, at' := f, loc := loc })

/-- Row 6: in place. -/
def writeInPlace (s : Dev) (spn f : Nat) : Dev :=
  let s := endTwin s f
  let s := modFrame s f fun x => if x.st = .outgoing then { x with void := true } else x
  modPte (if rawFrame s f then resealFrame s f else s) spn fun q => { q with raw := false }

/-- Row 7: the old contents pass to the snapshot engine in the reserved frame. -/
def writeMarked (s : Dev) (spn f : Nat) : Dev :=
  match tget s.lah.marked spn with
  | some r =>
    let s := copyFrame s f r
    let s := modFrame s r fun x => { x with st := .valid, refcnt := 1 }
    let s := { s with lah.holds := s.lah.holds ++ [⟨false, r, spn⟩], lah.marked := tdel s.lah.marked spn }
    writeInPlace (modPte s spn fun q => { q with snap := false }) spn f
  | none => writeInPlace (modPte s spn fun q => { q with snap := false }) spn f

/-- Row 9: the page is copied to a new frame of the writer's partition. An uncorrectable source ends the copy (R427). -/
def writeCopy (s : Dev) (i p spn f : Nat) (q : Pte) : Res Dev :=
  if badFrame s f then .error stUncorr
  else
    let pl := placeOf s i spn
    match allocFrame s p q.loc pl.2 with
    | .error e => .error e
    | .ok (g, s1) =>
      let s1 := copyFrame s1 f g
      let s2 := if q.snap then
          let s1 := { s1 with lah.holds := s1.lah.holds ++ [⟨false, f, spn⟩], lah.marked := tdel s1.lah.marked spn }
          s1
        else decFrame s1 f
      .ok (modPte s2 spn fun q => { q with at' := g, shr := false, snap := false, raw := false })

/-- R509 Write: an uncaptured page whose SNAP is clear is marked first. -/
def markForWrite (s : Dev) (spn : Nat) (prom : Bool) : Res Dev :=
  match pte s spn with
  | some p => if uncaptured s spn && !p.snap && p.tier != .never then markPage s spn prom else .ok s
  | none => .ok s

/-- Rows 6 to 9 on a page in HBM. -/
def writeHbm (s : Dev) (i p spn : Nat) : Res Dev :=
  match pte s spn with
  | some q => match frame s q.at' with
    | some x =>
      if 1 < x.refcnt then writeCopy s i p spn q.at' q
      else
        let s := if q.shr then modPte s spn fun q => { q with shr := false } else s
        if q.snap then
          if badFrame s q.at' then .error stUncorr else .ok (writeMarked s spn q.at')
        else .ok (writeInPlace s spn q.at')
    | none => .ok (illegalEvent s)
  | none => .ok (illegalEvent s)

/-- The Write event of R111 by entry i of partition p: afterwards the page's frame may be written. -/
def writeEvent (s : Dev) (i p spn : Nat) (prom : Bool) : Res Dev :=
  match pageSt s spn with
  | .new => firstWrite (notePage s spn) i p spn
  | .hbm => match markForWrite (revokeGrants s spn) spn prom with
    | .ok s1 => writeHbm (notePage s1 spn) i p spn
    | .error e => .error e
  | .out => match markForWrite (revokeGrants s spn) spn prom with
    | .ok s1 => writeHbm (modPte (notePage s1 spn) spn fun q => { q with tier := .hbm }) i p spn
    | .error e => .error e
  | _ => .ok (illegalEvent s)

/-- Bytes written into a page that a Write event has made writable. -/
def writePage (s : Dev) (spn o : Nat) (l : List Byte) : Dev :=
  match pageFrame s spn with
  | some f => writeFrame s f o l
  | none => s

/-- n bytes of a resident page. -/
def readPage (s : Dev) (spn o n : Nat) : List Byte :=
  match residentFrame s spn with
  | some f => readFrame s f o n
  | none => List.replicate n 0

/-! ## Share (rows 10, 27, 38) -/

/-- The Share event: a new PTE of entry i for the page's frame or copy. In no other state is a page shared: the commands wait for
pages on their way (R115, R275), and a page never written gets a new number. -/
def sharePage (s : Dev) (spn i : Nat) : Res (Nat × Dev) :=
  match pte s spn, pageSt s spn with
  | some p, .hbm =>
    match allocSpn (incFrame (revokeGrants s spn) p.at') i with
    | .error e => .error e
    | .ok (n, s1) =>
      let s1 := modPte s1 spn fun q => { q with shr := true }
      .ok (n, notePage (setPte s1 n { p with shr := true, snap := false, owner := i }) spn)
  | some p, .tephra | some p, .lost =>
    match allocSpn (incDesc s p.at') i with
    | .error e => .error e
    | .ok (n, s1) =>
      let s1 := modPte s1 spn fun q => { q with shr := true }
      .ok (n, notePage (setPte s1 n { p with shr := true, snap := false, owner := i }) spn)
  | _, _ => .ok (spn, illegalEvent s)

end Sys2Proof.Machine
end

