-- ==== Sys2Proof/Machine/Requests.lean ====
section
/-!
DEFINITION. Sys2Proof/Machine/Requests.lean: the geometry of dense and state pages (R171 to R173), the end of a request
and what it discards (R34, R95, R465), the states that sessions enter (R92, R96), and the end of a session (R85, R97).
-/

namespace Sys2Proof.Machine

/-! ## Geometry (R171 to R173, R696) -/

/-- Bytes of one stored element (R168, R171, R173). -/
def elemBytes (elem : Nat) : Nat := match elem with | 0 => 1 | 1 => 1 | 2 => 2 | _ => 4

/-- R171: bytes of one position. -/
def entrySize (d : LayerDesc) : Nat :=
  if d.kind = 1 then (d.latent + d.rotDim) * elemBytes d.elem else d.kvh * (d.headDim + d.vDim) * elemBytes d.elem

/-- The largest power of two, 2^k for k at most `fuel`, whose product with `e` is at most 65,536. -/
def pow2Fit (e : Nat) : Nat → Nat
  | 0 => 1
  | fuel + 1 => if 2 ^ (fuel + 1) * e ≤ 65536 then 2 ^ (fuel + 1) else pow2Fit e fuel

/-- PAGE_POS (R171). -/
def pagePos (d : LayerDesc) : Nat := pow2Fit (entrySize d) 16

/-- R172: the offset of key row `row` of KV head h (a LATENT row is the latent vector and the rotary key). -/
def keyOff (d : LayerDesc) (h row : Nat) : Nat :=
  if d.kind = 1 then row * entrySize d else (h * pagePos d + row) * d.headDim * elemBytes d.elem

/-- Bytes of a key row. -/
def keyBytes (d : LayerDesc) : Nat :=
  if d.kind = 1 then entrySize d else d.headDim * elemBytes d.elem

/-- R172: the offset of value row `row` of KV head h. -/
def valOff (d : LayerDesc) (h row : Nat) : Nat :=
  (d.kvh * pagePos d * d.headDim + (h * pagePos d + row) * d.vDim) * elemBytes d.elem

/-- R173: bytes of the state stream, and its pages. -/
def stateBytes (d : LayerDesc) : Nat := d.qh * d.headDim * d.vDim * elemBytes d.elem
def statePages (d : LayerDesc) : Nat := ceilDiv (stateBytes d) 65536

/-- The KV head of query head h (R696). -/
def kvHead (d : LayerDesc) (h : Nat) : Nat := h / (d.qh / d.kvh)

/-- The key dimension E of summaries and selection (R207). -/
def keyDim (d : LayerDesc) : Nat := if d.kind = 1 then d.latent + d.rotDim else d.headDim

/-- R101: the first position past the page at index k of a layer. -/
def pageEnd (l : LayerSt) (k : Nat) : Nat := match nth l.pages (k + 1) with
  | some p => p.first
  | none => l.len

/-- R34, R172: row `row` of a dense page is set to zero. -/
def zeroRow (s : Dev) (d : LayerDesc) (f row : Nat) : Dev :=
  (List.range d.kvh).foldl (fun s h =>
    let s := { s with pg.hbm := Memory.clear s.pg.hbm (frameBase f + keyOff d h row) (keyBytes d) }
    if d.kind = 1 then s
    else { s with pg.hbm := Memory.clear s.pg.hbm (frameBase f + valOff d h row) (d.vDim * elemBytes d.elem) }) s

/-- R207: bytes of a summary entry, and entries of a summary page. -/
def sumStride (ld : LayerDesc) : Nat := roundUp (16 + ld.kvh * (4 + 2 * keyDim ld)) 64
def sumPerPage (ld : LayerDesc) : Nat := 65536 / sumStride ld

/-- R101: where layer l's page list begins: behind the directory and the lists of the layers below (log 23). -/
def listPlace (e : SessEnt) (l : Nat) : Nat := 16 * e.layers.length + 8 * ((e.layers.take l).map (·.pages.length)).sum

/-- R101: pages of the directory and the page lists beyond the first (log 23). -/
def metaNeeded (e : SessEnt) : Nat := ceilDiv (listPlace e e.layers.length) 65536 - 1

/-! ## The session's layers changed -/

/-- Layer l of entry i changed; LENGTH is the least length over the layers (R89). -/
def modLayer (s : Dev) (i l : Nat) (g : LayerSt → LayerSt) : Dev :=
  modSess s i fun e =>
    let ls := modNth e.layers l g
    { e with layers := ls, length := (ls.map (·.len)).foldl min ((ls.head?.map (·.len)).getD 0) }

/-- The page at the end of a layer's list leaves it with its summary entry. -/
def dropTail (s : Dev) (i l : Nat) : Dev := modLayer s i l fun x => { x with pages := x.pages.dropLast }

/-- R34: what the request's append wrote is discarded: new tail pages take a Drop and the written rows of the old tail
read zero again. The layer's length was never advanced. -/
def discardAppend (s : Dev) (r : Req) : Dev :=
  if r.appended = 0 ∧ r.newTails.isEmpty then s
  else
    let s := r.newTails.foldl (fun s n => dropTail (dropPage s n) r.entry r.layer) s
    let e := sess s r.entry
    match layerOf s e r.layer, nth e.layers r.layer with
    | some d, some l =>
      if d.kind = 2 then s
      else match l.pages.getLast? with
        | some p => match pageFrame s p.spn with
          | some f => (List.range r.appended).foldl (fun s k =>
              let row := r.first + k - p.first
              if row < pagePos d then zeroRow s d f row else s) s
          | none => s
        | none => s
    | _, _ => s

/-! ## Session states -/

/-- R92, R252: every control page is resident, and no state page is still coded. -/
def controlResident (s : Dev) (e : SessEnt) : Bool :=
  (controlSpns s e).all fun n => pageSt s n == .new ||
    ((residentFrame s n).isSome && match pte s n with
      | some p => !p.cmp
      | none => false)

/-- R92: a THAWING session whose last control page is resident becomes ACTIVE. -/
def activate (s : Dev) (i : Nat) : Dev :=
  let e := sess s i
  if e.st = .thawing ∧ controlResident s e then modSess s i fun e => { e with st := .active } else s

/-- R96: the session becomes DEGRADED with the reason; a reason other than ST_DEGRADED stands until it is destroyed. -/
def degrade (s : Dev) (i reason : Nat) : Dev :=
  modSess s i fun e =>
    match e.st with
    | .free => e
    | .degraded => if e.degReason = stDegraded then { e with degReason := reason } else e
    | .fenced =>
      if e.prev = .degraded then (if e.degReason = stDegraded then { e with degReason := reason } else e)
      else { e with prev := .degraded, degReason := reason,
                    degPrev := if e.prev = .parked then .parked else .active }
    | st => { e with st := .degraded, degReason := reason, degPrev := if st = .parked then .parked else .active }

/-! ## The end of a session (R85, R97) -/

/-- The partition whose adapter range holds an id (R295). -/
def adapterOwner (s : Dev) (id : Nat) : Nat :=
  match s.parts.find? fun q => decide (q.2.cfg.adpBase ≤ id) && decide (id < q.2.cfg.adpBase + q.2.cfg.adpCount) with
  | some (p, _) => p
  | none => 0

/-- An id that nothing was loaded under (R299). -/
def AdpId.none' : AdpId := { last := 0, cur := none, vers := [], stage := none, commit := none, waiting := [] }

def adpId (s : Dev) (id : Nat) : AdpId := tgetD s.adp.ids id AdpId.none'

/-- An adapter id given a value; its table frame is an object of the shard (R508, R518). -/
def setAdp (s : Dev) (id : Nat) (x : AdpId) : Dev := noteObj { s with adp.ids := tset s.adp.ids id x } (2 ^ 33 + id)

/-- R300: the frames and Tephra units of a version are freed. -/
def freeVersion (s : Dev) (id ver : Nat) : Dev :=
  let x := adpId s id
  match x.vers.find? fun v => v.ver == ver with
  | some v =>
    let s := v.units.foldl decDesc s
    let gone := s.adp.cache.filter fun c => c.id == id && c.ver == ver
    let s := gone.foldl (fun s c => decFrame s c.frame) s
    let s := { s with adp.cache := s.adp.cache.filter fun c => !(c.id == id && c.ver == ver) }
    setAdp s id { x with vers := x.vers.filter fun v => v.ver != ver }
  | none => s

/-- R300: one session less holds the version; a version that is not current is freed with its last session. -/
def releaseVersion (s : Dev) (id ver : Nat) : Dev :=
  if id = 0 then s
  else
    let x := adpId s id
    let s := setAdp s id { x with vers := x.vers.map fun v =>
      if v.ver = ver then { v with sessions := v.sessions - 1 } else v }
    if x.cur != some ver && (x.vers.any fun v => v.ver == ver && v.sessions ≤ 1) then freeVersion s id ver else s

/-- R300: one session more holds the version. -/
def holdVersion (s : Dev) (id ver : Nat) : Dev :=
  if id = 0 then s
  else
    let x := adpId s id
    setAdp s id { x with vers := x.vers.map fun v => if v.ver = ver then { v with sessions := v.sessions + 1 } else v }

/-- R85: the entry becomes FREE with the next generation, or quarantined. -/
def freeEntry (s : Dev) (i : Nat) : Dev :=
  let e := sess s i
  let g := if e.doomed then e.gen else if e.gen = 0xFFFFFFFF then e.gen else e.gen + 1
  let q := e.quar || (!e.doomed && e.gen == 0xFFFFFFFF)
  let s := if q && !e.quar then bump s Addr.SPM_QUAR_CNT else s
  setSess s i { SessEnt.free g with quar := q }

/-- R97: the pages of the session are released, and its adapter version, and its entry becomes FREE. -/
def releaseSession (s : Dev) (i : Nat) : Dev :=
  let e := sess s i
  freeEntry (releaseVersion (dropPages s (allSpns e)) e.adapter e.adpVersion) i

/-- Something keeps the pages of a destroyed session: an admitted request or LOGITS that is not answered (R97), a fork stamped before
that still waits (R115), or an attach that found it (R279). -/
def keptAlive (s : Dev) (i : Nat) : Bool :=
  (s.reqs.any fun r => r.entry == i) || logitsOpen s i || (s.pg.forks.any fun f => f.parent == i && f.child.isNone) ||
  s.pfx.guard.any fun g => g.entry == i && g.usable

/-- R97: a doomed session is released when nothing keeps its pages. -/
def finishDoomed (s : Dev) (i : Nat) : Dev :=
  if (sess s i).doomed && !keptAlive s i then releaseSession s i else s

/-! ## The end of a request -/

/-- R465: the ATTN_RSP of a request, in class ATTN_REPLY. -/
def sendRsp (s : Dev) (src tag part handle layer count first status outFmt ref : Nat) (out : List Byte) : Dev :=
  sendFab s 0 part (hLocal handle) src 0x02 0 tag status handle
    (leBytes 2 layer ++ leBytes 2 count ++ leBytes 4 first ++ leBytes 1 outFmt ++ leBytes 7 0 ++ out) ref

/-- The request leaves the device's table with its thaw timer; what the reserve promised it and no mark took goes back
(R510). -/
def dropReq (s : Dev) (r : Req) : Dev :=
  { s with reqs := s.reqs.filter fun q => q.seq != r.seq, lah.promised := s.lah.promised - r.promised,
           timers := s.timers.filter fun t => !(t.kind == .thaw && t.arr == r.seq) }

/-- R103: pages at the front of a sliding-window layer's list whose last position lies more than the window before the
layer's length are dropped. A hold keeps the frame of such a page and not its place in the list: DESIGN CHOICE (log 51). -/
def windowDrop (s : Dev) (i l : Nat) : Dev :=
  let e := sess s i
  match layerOf s e l, nth e.layers l with
  | some d, some x =>
    if d.window = 0 ∨ d.kind = 2 then s
    else
      let old := (List.range x.pages.length).takeWhile fun k => decide (pageEnd x k + d.window ≤ x.len)
      let n := min old.length (x.pages.length - 1)
      dropPages (modLayer s i l fun x => { x with pages := x.pages.drop n }) ((x.pages.take n).map (·.spn))
  | _, _ => s

/-- OUT_FMT of the session's model (R167). -/
def outFmtOf (s : Dev) (i : Nat) : Nat := match modelDesc s (sess s i).model with
  | some d => d.outFmt
  | none => 0

/-- The DETAIL of a status that ends a request after its arrival: the position field (R118), the handle (R97). -/
def endDetail (code : Nat) : Nat := if code = stParam then 8 else if code = stStale then 5 else 0

/-- The request is answered. ST_OK advances the layer's length; any other status discards the append (R34). The reply
of a request that was admitted when its partition was fenced carries ST_PARTITION_FENCED in place of its result (R95). -/
def endReq (s : Dev) (r : Req) (code : Nat) (out : List Byte) : Dev :=
  let code := if r.fenced then stFenced else code
  let s := if code = stOk then
      (if r.appended = 0 then s
       else windowDrop (modLayer s r.entry r.layer fun l => { l with len := r.first + r.appended }) r.entry r.layer)
    else discardAppend s r
  let s := dropReq s r
  let s := sendRsp s r.src r.tag r.part r.handle r.layer r.count r.first (stw code (endDetail code)) (outFmtOf s r.entry) r.seq
    (if code = stOk ∧ r.append = false then out else [])
  let s := if r.phase = .waiting then s else workDone s 12 (stw code (endDetail code)) r.part r.handle
  finishDoomed (countEvent s r.part 3 1) r.entry

/-- A request that has not been admitted ends: it appended nothing. -/
def endWaiting (s : Dev) (r : Req) (code : Nat) : Dev := endReq s r code []

/-- R34, R77, R96: every admitted request that keeps page `spn` and still waits on it ends with the code, and where the page cannot
be read, each session that it serves becomes DEGRADED. One whose thaw expiry was stamped before is late already and waits no more. -/
def failKept (s : Dev) (spn code : Nat) : Dev :=
  let rs := s.reqs.filter fun r => (r.kept.any fun k => k.spn == spn && k.merged.isNone) && r.failed == 0 &&
    (expiredAt s .thaw r.seq).isNone
  rs.foldl (fun s r =>
    endReq (if [stUncorr, stTierLost, stCodec].contains code then degrade s r.entry code else s) r code []) s

/-! ## TOKEN_OUT (R467) -/

/-- A TOKEN_OUT to the SRC of the LOGITS, in class TOKEN_STREAM. -/
def sendToken (s : Dev) (src tag part handle pos token tflags reason status ref : Nat) : Dev :=
  sendFab s 2 part (hLocal handle) src 0x05 0 tag status handle
    (leBytes 4 pos ++ leBytes 4 token ++ leBytes 1 tflags ++ leBytes 1 reason ++ leBytes 6 0) ref

/-- The LOGITS of a step ends without a token (R334, R467). -/
def endLogits (s : Dev) (l : LogitsReq) (status reason : Nat) : Dev :=
  let s := { s with tok.logits := s.tok.logits.filter fun q => q.seq != l.seq }
  finishDoomed (sendToken s l.src l.tag (hPart l.handle) l.handle l.pos 0 2 reason status l.seq) l.entry

/-! ## SESSION_DESTROY and evictions (R97, R155) -/

/-- R260, R261: the prefix tables that partition p reads: its own, and that of its public domain. -/
def pfxTables (s : Dev) (p : Nat) : List Nat :=
  let c := (part s p).cfg
  (if c.pfxBuckets = 0 then [] else [p]) ++ (if c.publicDomain = 255 then [] else [256 + c.publicDomain])

/-- Some entry of prefix table t names the holder. -/
def tableNames (s : Dev) (t handle : Nat) : Bool := match tget s.pfx.tables t with
  | some x => x.ways.any fun b => b.2.any fun e => e.valid && e.holder == handle
  | none => false

/-- Ledger numbers and partitions of the prefix commands of one opcode that are stamped and not answered (R278, R279). -/
def openPrefix (s : Dev) (op : Nat) : List (Nat × Nat) :=
  (s.host.stamped.filterMap fun t => if field t.bytes 0 2 = op then some (t.seq, field t.bytes 2 1) else none) ++
  (s.host.taken.filterMap fun t => if t.op = op then some (t.h.seq, t.h.part) else none) ++
  s.pfx.jobs.filterMap fun j => if j.insert = decide (op = 0x0301) then some (j.cmd.seq, j.cmd.part) else none

/-- An attach of partition p can meet an entry of this holder: a table that it reads names the holder, or an insert that is still open
may come to name it. -/
def mayMeet (s : Dev) (handle p : Nat) : Bool :=
  ((pfxTables s p).any fun t => tableNames s t handle) ||
  ((openPrefix s 0x0301).any fun c => c.2 == hPart handle) && (hPart handle == p || hPart handle == 0)

/-- R279: at the stamp `seq` of a destroy, each attach stamped before keeps what it is to see of the holder in entry i. -/
def guardHolder (s : Dev) (i seq : Nat) : Dev :=
  let e := sess s i
  let h := handleOf s i
  let ok := (e.st == .active || e.st == .parked) && !stepInProgress s i
  let as := (openPrefix s 0x0302).filter fun a => before a.1 seq && mayMeet s h a.2 &&
    !(s.pfx.guard.any fun g => g.attach == a.1 && g.handle == h)
  { s with pfx.guard := s.pfx.guard ++ (dedup as).map fun a => ⟨a.1, i, h, e.length, ok⟩ }

/-- R279: the attach with ledger number `seq` has ended, and keeps no holder. -/
def endGuards (s : Dev) (seq : Nat) : Dev :=
  let is := (s.pfx.guard.filter fun g => g.attach == seq).map (·.entry)
  is.foldl finishDoomed { s with pfx.guard := s.pfx.guard.filter fun g => g.attach != seq }

/-- R97: from the stamp `seq` the handle is not live. Requests not admitted, and those stamped after it, end with
ST_STALE_HANDLE, so does a LOGITS that no sampler unit has taken; the pages are released once the admitted ones are answered. -/
def destroySession (s : Dev) (i seq : Nat) : Dev :=
  let s := guardHolder s i seq
  let out := s.reqs.filter fun r => r.entry == i && (r.phase == .waiting || before seq r.seq)
  let s := out.foldl (fun s r => endWaiting s r stStale) s
  let ls := s.tok.logits.filter fun l => l.entry == i && (!l.sent || before seq l.seq)
  let s := ls.foldl (fun s l => endLogits s l (stw stStale 5) 0) s
  if keptAlive s i then
    let e := sess s i
    let s := if e.gen = 0xFFFFFFFF then bump s Addr.SPM_QUAR_CNT else s
    setSess s i { e with doomed := true, gen := if e.gen = 0xFFFFFFFF then e.gen else e.gen + 1,
                         quar := e.quar || e.gen == 0xFFFFFFFF }
  else releaseSession s i

/-- R155: an eviction of a whole session, stamped on input 10, with its notice on the session's home channel (R551). -/
def evictSession (s : Dev) (i : Nat) : Dev :=
  let h := handleOf s i
  let p := hPart h
  let q := s.led.next
  let home := (sess s i).ctrl.home
  let s := stamp s 10 0x12 (stw stEvicted 0) p h
  let s := { s with pg.evicted := s.pg.evicted ++ [(h, q)] }
  let s := destroySession s i q
  let s := sendHost s 0x0180 p (hLocal h) 5 home 0 (stw stEvicted 0) (leBytes 8 h ++ leBytes 8 0)
  bump (countEvent s p 9 1) Addr.TMC_SESS_EVICT_CNT

end Sys2Proof.Machine
end

