-- ==== Sys2Proof/Machine/Tier.lean ====
section
/-!
DEFINITION. Sys2Proof/Machine/Tier.lean: Tephra addresses, sealed units, transfers, and the rows of R111 that they
drive: 12 to 14, 17 to 19, 21 to 25, 35 (R121 to R144, R154, R157, R158).
-/

namespace Sys2Proof.Machine

/-! ## Book slots (R232, R236) -/

/-- The key of (domain, model, layer) and the number of a book slot. -/
def bookKey (dom model l : Nat) : Nat := (dom * 32 + model) * 256 + l
def bookNo (key slot : Nat) : Nat := 2 * key + slot + 1

/-- The book slot that a coded page's header names (R236). -/
def codedBook (l : List Byte) : Nat := bookNo (bookKey (field l 24 1) (field l 25 1) (field l 26 1)) (field l 7 1 % 2)

/-! ## Slots and addresses (R121 to R126) -/

/-- An ABSENT slot. -/
def TSlot.absent : TSlot :=
  { st := 0, addr := 0, plane := 0, cap := 0, newAddr := 0, newPlane := 0, cursor := 0, bad := [], frames := [],
    copied := [], cmd := none }

def slot (s : Dev) (n : Nat) : TSlot := tgetD s.tier n TSlot.absent
def setSlot (s : Dev) (n : Nat) (t : TSlot) : Dev := { s with tier := tset s.tier n t }

/-- R121. -/
def addrOf (sl unit : Nat) : Nat := sl * 2 ^ 36 + unit
def slotOf (a : Nat) : Nat := a / 2 ^ 36
def unitOf (a : Nat) : Nat := a % 2 ^ 30

/-- The units of slot n that are allocated or failed (R126, R158), rising. -/
def usedUnits (s : Dev) (n : Nat) : List Nat :=
  let us := (s.pg.descs.filter fun q => slotOf q.1 == n).map fun q => unitOf q.1
  sortBy (fun a b => decide (a ≤ b)) (us ++ (slot s n).bad.filter fun u => !us.contains u)

/-- R126: the lowest free unit of slot n, when the slot is ONLINE and has one. -/
def freeUnit (s : Dev) (n : Nat) : Option Nat :=
  let t := slot s n
  if t.st = 1 then
    let u := lowestFree (usedUnits s n) 0
    if u < t.cap then some u else none
  else none

/-- R126: the slot of partition p's rotation and the address, when one has a free unit. -/
def pickUnit (s : Dev) (p : Nat) : Option (Nat × Nat) :=
  let c := part s p
  (List.range 16).findSome? fun k =>
    let n := (c.lastSlot + 1 + k) % 16
    if bit c.cfg.slotMask n then (freeUnit s n).map fun u => (n, addrOf n u) else none

/-- The units that partition p may still be charged (R145, R148). -/
def unitRoom (s : Dev) (p : Nat) : Nat :=
  let c := (part s p).cfg
  if c.capMode = 1 then c.tephraUnits - chargedUnits s p
  else if c.tephraUnits = 0 then poolUnits s else min (poolUnits s) (c.tephraUnits - chargedUnits s p)

/-- A Tephra address allocated INCOMING for a park of partition p (row 13), with p's rotation moved on; `own` is charged. -/
def takeUnit (s : Dev) (p own : Nat) : Option (Nat × Dev) :=
  match pickUnit s p with
  | some (n, a) =>
    some (a, modPart (setDesc s a ⟨0, .incoming, false, 0, own, 0⟩) p fun c => { c with lastSlot := n })
  | none => none

/-- The free units in the slots of p's mask. -/
def maskFree (s : Dev) (p : Nat) : Nat :=
  ((List.range 16).map fun n =>
    if bit (part s p).cfg.slotMask n && (slot s n).st == 1 then (slot s n).cap - (usedUnits s n).length else 0).sum

/-- R154: whole PARKED sessions of POOL partitions evicted in the order of R152, at most `fuel`, until `n` units are
free for p. -/
def evictUnits (s : Dev) (p n : Nat) : Nat → Dev
  | 0 => s
  | fuel + 1 =>
    if n ≤ unitRoom s p ∧ n ≤ maskFree s p then s
    else
      let c := (part s p).cfg
      let atCap := c.tephraUnits != 0 && decide (c.tephraUnits < chargedUnits s p + n)
      match (agedSessions s).find? fun i => (sess s i).st == .parked && !(sess s i).doomed &&
          (if atCap then ownerOf s i == p else (part s (ownerOf s i)).cfg.capMode == 0) with
      | some i => evictUnits (evictSession s i) p n fuel
      | none => s

/-- R137, R154: the device after the evictions that a POOL partition's n units call for, and the status where they cannot be
had all the same: the evictions stand. -/
def reserveUnits (s : Dev) (p n : Nat) : Dev × Option Nat :=
  if (part s p).cfg.capMode = 1 then (s, if n ≤ unitRoom s p then none else some stReserve)
  else
    let s := if s.pwr.fumarole then s else evictUnits s p n 64
    (s, if n = 0 ∨ (n ≤ unitRoom s p ∧ n ≤ maskFree s p) then none else some stNoCap)

/-! ## Keys and sealed units (R130 to R133, R625) -/

/-- R625: the tier generation that seals now: the newest delivered before this tick. -/
def sealKey (s : Dev) (p : Nat) : Option (Nat × List Byte) :=
  match (part s p).tierKeys.find? fun k => decide (k.2.1 < s.tick) with
  | some (g, _, k) => some (g, k)
  | none => none

/-- The tier key of a generation that the device holds (R133). -/
def openKey (s : Dev) (p gen : Nat) : Option (List Byte) :=
  ((part s p).tierKeys.find? fun k => k.1 == gen).map fun k => k.2.2

/-- R132: FORM. -/
def formByte (fmt : Nat) (cmp : Bool) : Nat := fmt * 16 + b01 cmp * 8

/-- R132: the additional data: the address in 5 bytes, then side-record bytes 28 to 31. -/
def tierAad (a own form gen : Nat) : List Byte := leBytes 5 a ++ leBytes 1 own ++ leBytes 1 form ++ leBytes 2 gen

/-- R130 to R132: the side record and the ciphertext of 65,536 bytes sealed for partition p at address a. -/
def sealUnit (s : Dev) (p a form : Nat) (key : Nat × List Byte) (plain : List Byte) : List Byte × List Byte :=
  let nonce := (s.obs.nb + s.obs.wCount) % 2 ^ 96
  let r := Config.gcmSeal key.2 nonce (tierAad a p form key.1) plain
  (leBytes 12 nonce ++ r.2.take 16 ++ leBytes 1 p ++ leBytes 1 form ++ leBytes 2 key.1, r.1)

/-- R133: a unit read back: its OWNER, FORM and contents when a held key opens it. -/
def openUnit (s : Dev) (a : Nat) (side cipher : List Byte) : Option (Nat × Nat × List Byte) :=
  let own := field side 28 1
  let form := field side 29 1
  let gen := field side 30 2
  match openKey s own gen with
  | some k => (Config.gcmOpen k (field side 0 12) (tierAad a own form gen) cipher ((side.drop 12).take 16)).map
      fun d => (own, form, d)
  | none => none

/-! ## Messages to targets (R128, R469) -/

/-- A tier message in class TIER_MOVE of the owner's partition; PARTITION 0xFF and HANDLE 0 in its header. -/
def sendTier (s : Dev) (type own dest tag unit len : Nat) (rest : List Byte) : Dev :=
  enqueue s { host := false, op := type, part := 0xFF, cls := 3, queue := 8 * subOf s own 0 + 3, dest := dest,
              flags := 0, tag := tag, status := 0, handle := 0, seg := 0, len := len,
              body := leBytes 4 unit ++ leBytes 12 0 ++ rest, ref := 0, enq := 0, notBefore := 0, port := none, gone := 0 }

/-- A TIER_READ of address a, recorded as a transfer (R104 MOVE). -/
def issueRead (s : Dev) (own : Nat) (x : Xfer) : Dev :=
  let (t, s) := newTag s
  let s := { s with pg.xfers := s.pg.xfers ++ [{ x with tag := t, issued := s.tick }] }
  meter (sendTier s 0x10 own (slot s (slotOf x.addr)).addr t (unitOf x.addr) 48 []) own 6 1

/-- A TIER_WRITE of a sealed unit to address a, with W advanced (R131); a checkpoint image that had the unit is none any more. -/
def issueWrite (s : Dev) (own form : Nat) (key : Nat × List Byte) (plain : List Byte) (x : Xfer) : Dev :=
  let (t, s) := newTag s
  let u := sealUnit s own x.addr form key plain
  let s := { s with pg.xfers := s.pg.xfers ++ [{ x with tag := t, issued := s.tick, sealW := s.obs.wCount }],
                    obs.wCount := s.obs.wCount + 1, lah.ckpt := s.lah.ckpt.filter fun c => !c.units.contains x.addr }
  meter (sendTier s 0x11 own (slot s (slotOf x.addr)).addr t (unitOf x.addr) 65616 (u.1 ++ u.2)) own 6 1

/-- A transfer record for a page. -/
def mkXfer (kind : XferKind) (frame addr : Nat) (spns : List Nat) (cmd : Nat) : Xfer :=
  { tag := 0, kind := kind, frame := frame, addr := addr, spns := spns, later := [], issued := 0, sent := false,
    retried := false, sealW := 0, cmd := cmd }

/-! ## Parks (rows 12 to 14, R126, R135 to R140) -/

/-- What a park did with a page. -/
inductive ParkResult where
  | moved | started | deferred | noSlot | unreadable | nothing
  deriving DecidableEq, Repr

/-- R154: a park of a POOL partition that finds no free unit evicts. -/
def makeTierRoom (s : Dev) (p : Nat) : Dev :=
  if (pickUnit s p).isSome ∨ (part s p).cfg.capMode = 1 ∨ s.pwr.fumarole then s else evictUnits s p 1 64

/-- Row 13: the frame goes OUTGOING and its TIER_WRITE is issued. A frame that cannot be corrected is not parked (R427). -/
def startPark (s : Dev) (spn f : Nat) (p : Pte) (own cmd : Nat) : ParkResult × Dev :=
  let by' := ownerOf s p.owner
  if badFrame s f then (.unreadable, s)
  else match sealKey s own with
    | none => (.noSlot, s)
    | some key =>
      let s := makeTierRoom s by'
      if pte s spn ≠ some p then (.nothing, s)
      else match takeUnit s by' own with
      | none => (.noSlot, alert s 2 by' by')
      | some (a, s) =>
        let book := match frame s f with
          | some x => x.book
          | none => 0
        let s := modDesc s a fun q => { q with book := book }
        let s := modFrame s f fun x => { x with st := .outgoing, void := false, move := a }
        let s := modPte s spn fun q => { q with tier := .inFlight }
        (.started, issueWrite s own (formByte p.fmt p.cmp) key (readFrame s f 0 65536) (mkXfer .park f a [spn] cmd))

/-- The Park event on a page (rows 12 to 14); `cmd` is the ledger number of the SESSION_PARK it serves, or 0. -/
def parkPage (s : Dev) (spn cmd : Nat) : ParkResult × Dev :=
  match pte s spn, pageSt s spn with
  | some p, .hbm => match frame s p.at' with
    | some f =>
      if f.st = .outgoing then
        (.deferred, { s with pg.xfers := s.pg.xfers.map fun x =>
          if x.frame == p.at' then { x with later := x.later ++ [(spn, cmd)] } else x })
      else if f.tv then (.moved, parkToTwin s spn)
      else startPark (revokeGrants s spn) spn p.at' p f.own cmd
    | none => (.nothing, s)
  | _, _ => (.nothing, illegalEvent s)

/-! ## Thaws (rows 21 to 23, 36) -/

/-- Row 21: the PTE points to the valid twin. -/
def thawFromTwin (s : Dev) (spn a f : Nat) : Dev :=
  let s := decDesc (incFrame s f) a
  modPte s spn fun q => { q with tier := .hbm, at' := f }

/-- Row 22: a new INCOMING frame charged to partition p, and the TIER_READ. -/
def startThaw (s : Dev) (i p spn a : Nat) (q : Pte) (d : Desc) : Res Dev :=
  match allocFrame s p q.loc (placeOf s i spn).2 with
  | .error e => .error e
  | .ok (f, s) =>
    let s := modFrame s f fun x => { x with st := .incoming, tv := true, twin := a, move := a, book := d.book }
    let s := modDesc s a fun d => { d with tv := true, twin := f }
    let s := modPte s spn fun q => { q with tier := .inFlight, at' := f }
    .ok (issueRead s d.own (mkXfer .thaw f a [spn] 0))

/-- A page that a Thaw event brings in, or whose loss it finds (rows 21 to 23, 36). -/
def needsThaw (s : Dev) (spn : Nat) : Bool := pageSt s spn == .tephra || pageSt s spn == .lost

/-- The Thaw event on a page of entry i, charged to partition p (rows 21 to 23). For a page on its way no second one is made
(R143); a lost page answers ST_TIER_LOST (row 36). -/
def thawPage (s : Dev) (i p spn : Nat) : Res Dev :=
  match pte s spn, pageSt s spn with
  | some q, .tephra => match desc s q.at' with
    | some d =>
      if (slot s (slotOf q.at')).st = 3 then .error stTierLost
      else if d.tv then match frame s d.twin with
        | some f =>
          if f.st = .incoming then
            let joined := ((s.pg.xfers.filter fun x => x.frame == d.twin).map fun x => x.spns.length).sum
            if joined < 16 then
              let s := { s with pg.xfers := s.pg.xfers.map fun x =>
                if x.frame == d.twin then { x with spns := x.spns ++ [spn] } else x }
              .ok (modPte (incFrame s d.twin) spn fun q => { q with tier := .inFlight, at' := d.twin })
            else .ok { s with pg.xfers := s.pg.xfers.map fun x =>
                if x.frame == d.twin then { x with later := x.later ++ [(spn, 0)] } else x }
          else .ok (thawFromTwin s spn q.at' d.twin)
        | none => startThaw s i p spn q.at' q d
      else startThaw s i p spn q.at' q d
    | none => .error stTierLost
  | _, .lost => .error stTierLost
  | _, .inn => .ok s
  | _, _ => .ok (illegalEvent s)

/-- Row 16 by cancel: a park in flight is cancelled and the page is P_HBM (R92). -/
def cancelPark (s : Dev) (spn : Nat) : Dev :=
  if pageSt s spn = .out then modPte s spn fun q => { q with tier := .hbm } else s

/-! ## The end of a transfer (rows 17 to 19, 24, 25, 35) -/

/-- Row 17 or 18 for a park acknowledged by its target. -/
def commitPark (s : Dev) (x : Xfer) : Dev :=
  let voided := match frame s x.frame with
    | some f => f.void && f.move == x.addr
    | none => false
  let mine := match frame s x.frame with
    | some f => f.st == .outgoing && f.move == x.addr
    | none => false
  let outs := x.spns.filter fun n => match pte s n with
    | some p => p.tier == .inFlight && p.at' == x.frame && mine
    | none => false
  match outs with
  | [] =>
    -- row 18; or row 20, where the entry that waited was dropped and the copy gets no reference
    if mine then
      let s := modFrame s x.frame fun f => { f with st := .valid, void := false }
      if voided || x.spns.isEmpty then releaseUnit s x.addr
      else
        let s := modFrame s x.frame fun f => { f with tv := true, twin := x.addr }
        modDesc s x.addr fun d => { d with st := .valid, refcnt := 0, tv := true, twin := x.frame }
    else releaseUnit s x.addr
  | n :: _ =>
    let s := modDesc s x.addr fun d => { d with st := .valid, refcnt := 1, tv := true, twin := x.frame }
    let s := modFrame s x.frame fun f => { f with st := .valid, tv := true, twin := x.addr }
    let s := parkSnap s n x.addr
    let s := modPte s n fun q => { q with tier := .tephra, at' := x.addr, snap := false, raw := false }
    match frame s x.frame with
    | some f =>
      if decCount f.refcnt = 0 then
        -- the frame goes and the descriptor's TV with it; the descriptor keeps its reference
        freeFrame s x.frame
      else modFrame s x.frame fun f => { f with refcnt := decCount f.refcnt }
    | none => s

/-- n pages that the SESSION_PARK with ledger number `cmd` moved to Tephra (R135). -/
def noteMoved (s : Dev) (cmd n : Nat) : Dev :=
  { s with pg.parks := s.pg.parks.map fun j => if j.1.seq = cmd then (j.1, j.2.1, j.2.2 + n) else j }

/-- Row 14's retry: the deferred parks of a transfer that has ended, each for the SESSION_PARK that it serves. -/
def retryParks (s : Dev) (l : List (Nat × Nat)) : Dev :=
  l.foldl (fun s q =>
    if pageSt s q.1 = .hbm then
      let r := parkPage s q.1 q.2
      if r.1 = .moved then noteMoved r.2 q.2 1 else r.2
    else s) s

/-- Row 19: the park is lost: the page is P_HBM again and the address is released. -/
def losePark (s : Dev) (x : Xfer) : Dev :=
  let s := modFrame s x.frame fun f => if f.st = .outgoing then { f with st := .valid, void := false } else f
  let s := x.spns.foldl (fun s n => cancelPark s n) s
  releaseUnit s x.addr

/-- R77: the arrival of a kept page, stamped with number q, reaches the requests that keep it. -/
def noteArrival (s : Dev) (spn q : Nat) : Dev :=
  { s with reqs := s.reqs.map fun r => { r with kept := r.kept.map fun k =>
      if k.spn = spn ∧ k.arrSeq = none then { k with arrSeq := some q, arrTick := s.tick } else k } }

/-- The sessions whose pages are in the list become ACTIVE where their control pages are resident (R92). -/
def activateOwners (s : Dev) (l : List Nat) : Dev :=
  l.foldl (fun s n => match pte s n with
    | some p => activate s p.owner
    | none => s) s

/-- R526: the control page of a session that was installed from elsewhere is there: its contents are known from now on;
the tokens forced on it stay, and
its chain state is cleared (R271). -/
def ctrlArrives (s : Dev) (spn : Nat) (data : List Byte) : Dev :=
  match pte s spn with
  | some p =>
    if (sess s p.owner).ctrlAway && (sess s p.owner).ctrlSpn == spn then
      modSess s p.owner fun e => { e with
        ctrlAway := false,
        ctrl := { (Config.ctrlOf data).getD e.ctrl with forced := e.ctrl.forced, chain := none } }
    else s
  | none => s

/-- Row 24: the unit's contents are installed; then the deferred entries take row 21. -/
def arrive (s : Dev) (x : Xfer) (data : List Byte) : Dev :=
  let q := s.led.next
  let own := match desc s x.addr with
    | some d => d.own
    | none => 0xFF
  let s := stamp s 11 0x03 0 own (x.spns.headD 0)
  if x.spns.isEmpty then
    -- row 26 took the frame; the deferred entries try again
    x.later.foldl (fun s n => match (if needsThaw s n.1 then pte s n.1 else none) with
      | some p => match thawPage s p.owner (ownerOf s p.owner) n.1 with
        | .ok s1 => s1
        | .error _ => s
      | none => s) s
  else
    let coded := x.spns.any fun n => match pte s n with
      | some p => p.cmp
      | none => false
    let s := modFrame s x.frame fun f => { f with st := .valid, book := if coded then codedBook data else 0 }
    let s := writeFrame s x.frame 0 data
    let s := x.spns.foldl (fun s n => decDesc (modPte s n fun p => { p with tier := .hbm, raw := false }) x.addr) s
    let s := countEvent s own 6 1
    let s := x.later.foldl (fun s n => if pageSt s n.1 = .tephra then thawFromTwin s n.1 x.addr x.frame else s) s
    let ns := x.spns ++ x.later.map (·.1)
    let s := ns.foldl (fun s n => noteArrival (ctrlArrives s n data) n q) s
    activateOwners s ns

/-- A control page that cannot be brought in: the requests of its layer that wait for it (R93) end with the code, and its session
becomes DEGRADED (R96, R157). -/
def loseControl (s : Dev) (i spn code : Nat) : Dev :=
  let waits := fun (r : Req) => r.entry == i && r.phase == .waiting && match (sess s i).layers[r.layer]? with
    | some l => (layerControl s (sess s i) r.layer l).contains spn
    | none => false
  (s.reqs.filter waits).foldl (fun s r => endWaiting s r code) (degrade s i code)

/-- Row 25, with row 35 for the copy: the frame is freed, the descriptor is LOST; requests that wait on the page end with
ST_TIER_LOST and its sessions become DEGRADED. -/
def loseThaw (s : Dev) (x : Xfer) : Dev :=
  let s := modDesc s x.addr fun d => { d with st := .lost, tv := false }
  let s := x.spns.foldl (fun s n => modPte s n fun p => { p with tier := .tephra, at' := x.addr }) s
  let s := { s with pg.frames := tdel s.pg.frames x.frame }
  (x.spns ++ x.later.map (·.1)).foldl (fun s n =>
    let s := failKept s n stTierLost
    match pte s n with
    | some p => if (controlSpns s (sess s p.owner)).contains n then loseControl s p.owner n stTierLost else s
    | none => s) s

/-- The transfer leaves the table. -/
def endXfer (s : Dev) (tag : Nat) : Dev := { s with pg.xfers := s.pg.xfers.filter fun x => x.tag != tag }

/-- R157: the copies on slot n that have a resident twin lose TV (R113), and each other becomes LOST (row 35), those that were still
being written as well. -/
def loseCopies (s : Dev) (n : Nat) : Dev :=
  (s.pg.descs.filter fun q => slotOf q.1 == n && q.2.st != .lost).foldl (fun s q =>
    let s := if q.2.tv then modFrame s q.2.twin fun f => { f with tv := false } else s
    if q.2.refcnt = 0 then releaseUnit s q.1 else modDesc s q.1 fun d => { d with st := .lost, tv := false }) s

/-- R158, row 35: one unit fails: it is LOST and not allocated again until the slot is rebound. -/
def loseUnit (s : Dev) (a : Nat) : Dev :=
  let n := slotOf a
  let t := slot s n
  let s := setSlot s n { t with bad := insertBy (fun x y => decide (x ≤ y)) (unitOf a) t.bad }
  match desc s a with
  | some d =>
    let s := if d.tv then modFrame s d.twin fun f => { f with tv := false } else s
    if d.refcnt = 0 then releaseUnit s a else modDesc s a fun d => { d with st := .lost, tv := false }
  | none => s

end Sys2Proof.Machine
end

