-- ==== Sys2Proof/Machine/Shared.lean ====
section
/-!
DEFINITION. Sys2Proof/Machine/Shared.lean: image objects and their delivery (R284, R285, R560, R561), uncorrectable
reads (R420, R428) and the timers of ledger input 0 (R71, R75 to R77).
-/

namespace Sys2Proof.Machine

/-! ## Uncorrectable reads (R428) -/

/-- OWNER of a frame, 0xFF where it is FREE. -/
def frameOwner (d : Dev) (f : Nat) : Nat := match frame d f with
  | some x => x.own
  | none => 0xFF

/-- R436: the pseudo-channel is failing; the alert is raised once. -/
def pcFails (d : Dev) (n : Nat) : Dev :=
  if (pcAt d n).failing then d else alert (setPc d n { pcAt d n with failing := true }) 3 n 0xFF

/-- R428: one read of an uncorrectable codeword: the Error event on input 22, the error-log entry that names the place
(R597), and the count of the pseudo-channel (R436). -/
def noteUncorrectable (d : Dev) (c : CwAddr) : Dev :=
  let pc := granulePc d c.frame c.granule
  let q := d.led.next
  let own := frameOwner d c.frame
  let d1 := stamp d 22 0x30 (stw stUncorr 0) own pc
  let d2 := errLog d1 (stw stUncorr 0) 22 own q pc
    (c.frame + (granulePlace d c.frame c.granule).2 * 2 ^ 32 + c.word * 2 ^ 40)
  let x := pcAt d2 pc
  let n := min (x.uePass + 1) 0xFFFF
  let d3 := bump (setPc d2 pc { x with uePass := n }) Addr.TMC_OUTER_UE_CNT
  if lim d3 Addr.TMC_PC_FAIL_THRESH ≤ n then pcFails d3 pc else d3

/-- The first codeword of frame f in the byte range [o, o + n) that holds uncorrectable data (R418: 64 bytes each). -/
def badIn (d : Dev) (f o n : Nat) : Option CwAddr :=
  (badCws d).find? fun c =>
    let at' := c.granule * 512 + c.word * 64
    c.frame == f && decide (at' < o + n) && decide (o < at' + 64)

/-- The first uncorrectable codeword of a list of frames. -/
def badAmong (d : Dev) (fs : List Nat) : Option CwAddr := (badCws d).find? fun c => fs.contains c.frame

/-- R431: a refill that installs nothing ends: the scrub reports the codeword that is still uncorrectable. -/
def refillEnds (d : Dev) (f : Nat) : Dev :=
  let d := { d with hbm.refills := d.hbm.refills.filter (· != f) }
  match badAmong d [f] with
  | some c => noteUncorrectable d c
  | none => d

/-! ## Image objects (R283 to R285, R560, R561) -/

/-- An EMPTY object. -/
def Image.empty : Image := { st := 0, length := 0, frames := [], digest := [] }

/-- The bytes [o, o + n) of an image, at most `fuel` frames' worth. -/
def imageRead (d : Dev) (img : Image) : Nat → Nat → Nat → List Byte
  | 0, _, _ => []
  | fuel + 1, o, n =>
    if n = 0 then []
    else
      let k := min n (65536 - o % 65536)
      match nth img.frames (o / 65536) with
      | some f => readFrame d f (o % 65536) k ++ imageRead d img fuel (o + k) (n - k)
      | none => []

/-- n bytes of an image at offset o. -/
def imageBytes (d : Dev) (img : Image) (o n : Nat) : List Byte := imageRead d img (n / 65536 + 2) o n

/-- The first uncorrectable codeword of the bytes [o, o + n) of an image. -/
def imageBad (d : Dev) (img : Image) (o n : Nat) : Option CwAddr :=
  (badCws d).find? fun c => match img.frames.idxOf? c.frame with
    | some k =>
      let at' := k * 65536 + c.granule * 512 + c.word * 64
      decide (at' < o + n) && decide (o < at' + 64)
    | none => false

/-- The whole image. -/
def imageAll (d : Dev) (img : Image) : List Byte := imageBytes d img 0 img.length

/-- Bytes written into an image at offset o. -/
def imageWrite (d : Dev) (img : Image) : Nat → Nat → List Byte → Dev
  | 0, _, _ => d
  | fuel + 1, o, l =>
    if l.isEmpty then d
    else
      let k := 65536 - o % 65536
      match nth img.frames (o / 65536) with
      | some f => imageWrite (writeFrame d f (o % 65536) (l.take k)) img fuel (o + k) (l.drop k)
      | none => d

/-- The checks of a DATA form on an object: not LOADING, offset not a multiple of 16, bytes beyond LENGTH. -/
def dataChecks (img : Image) (offset : Nat) (data : List Byte) : List (Bool × Nat) :=
  [(img.st != 1, stw stParam 6), (offset % 16 != 0, stw stParam 7),
   (data.isEmpty || decide (65536 < data.length), stw stParam 8),
   (decide (img.length < offset + data.length), stw stParam 8)]

/-- The DATA form on an object whose image is in HBM. -/
def serveData (d : Dev) (h : CmdHdr) (op : Nat) (img : Image) (offset : Nat) (data : List Byte) : Dev :=
  checked d h op (dataChecks img offset data) fun d =>
    reply (imageWrite d img 3 offset data) h op stOk

/-- R561: a commit that fails a check: the byte offset of the failing field. -/
def commitFail (d : Dev) (h : CmdHdr) (op status offset : Nat) : Dev :=
  replyBody d h op status (leBytes 4 offset ++ leBytes 12 0)

/-- The COMMIT form up to its own checks: the object LOADING, its frames readable, the digest as expected. `k` gets the
image bytes and the digest. -/
def commitChecks (d : Dev) (h : CmdHdr) (op : Nat) (img : Image) (digest : List Byte)
    (k : Dev → List Byte → Dev) : Dev :=
  if img.st ≠ 1 then reply d h op (stw stParam 6)
  else match badAmong d img.frames with
    | some c => reply (noteUncorrectable d c) h op (stw stUncorr 0)
    | none =>
      let bytes := imageAll d img
      if sha256 bytes != digest then commitFail d h op (stw stParam 8) 0xFFFFFFFF else k d bytes

/-- Frames released, one reference each. -/
def freeFrames (d : Dev) (fs : List Nat) : Dev := fs.foldl decFrame d

/-- n frames charged to partition p's own objects under its capacity mode (R148), LOC = 0. -/
def allocMany (d : Dev) (p : Nat) : Nat → Res (List Nat × Dev)
  | 0 => .ok ([], d)
  | n + 1 =>
    match allocFrame d p false 0 with
    | .error e => .error e
    | .ok (f, d1) => match allocMany d1 p n with
      | .error e => .error e
      | .ok (fs, d2) => .ok (f :: fs, d2)

end Sys2Proof.Machine
end

