-- ==== Sys2Proof/Machine/Arrivals.lean ====
section
/-!
DEFINITION. Sys2Proof/Machine/Arrivals.lean: what every fabric message meets when it arrives (R445, R451, R455, R460 to
R462).
-/

namespace Sys2Proof.Machine

/-- The types of R460 that the device accepts. -/
def acceptedTypes : List Nat := [0x01, 0x03, 0x04, 0x06, 0x12, 0x20, 0x21, 0x22]

/-- R456: a route entry gives the address the role: 1 PEER, 2 TARGET, 3 BUDDY. -/
def hasRole (d : Dev) (addr role : Nat) : Bool := (d.fab.routes ++ copyRoutes d).any fun r => r.2.addr == addr && r.2.role == role

/-- R445: the ledger input of a port. -/
def portInput (p : Nat) : Nat := 2 + p / 7

/-- R455: a message with the same SRC, TYPE and TAG was accepted within the previous 64 ticks. -/
def isDuplicate (d : Dev) (src type tag : Nat) : Bool :=
  d.fab.seen.any fun q => q.1 == src && q.2.1 == type && q.2.2.1 == tag && decide (d.tick ≤ q.2.2.2 + 64)

/-- The message joins the accepted ones; those older than 64 ticks leave the record. -/
def noteSeen (d : Dev) (src type tag : Nat) : Dev :=
  { d with fab.seen := (d.fab.seen.filter fun q => decide (d.tick ≤ q.2.2.2 + 64)) ++ [(src, type, tag, d.tick)] }

/-- A message on an UP port that the row of type `type` takes: the checks of R460, R462 and R455 in this order. A message
of another row's type is not this step, and in fumarole service the ports carry VC 0 and 1 only (R657). -/
def accept (d : Dev) (p : Nat) (m : FabMsg) (type role : Nat) (oversize k : Dev → Dev) : Dev :=
  if (port d p).st ≠ 2 ∨ (d.pwr.fumarole ∧ 2 ≤ role) then d
  else if !acceptedTypes.contains m.type then bump d Addr.FAB_SRC_REJ_CNT
  else if m.type ≠ type then d
  else if !hasRole d m.src role then bump d Addr.FAB_SRC_REJ_CNT
  else if 67108864 < m.length then oversize (bump d Addr.FAB_OVERSIZE_CNT)
  else if isDuplicate d m.src m.type m.tag then bump d Addr.FAB_DUP_CNT
  else k (noteSeen d m.src m.type m.tag)

/-- The n bytes at offset o of a message's body. -/
def bodyAt (m : FabMsg) (o n : Nat) : Nat := field m.body o n

/-- A run of bfloat16 numbers, widened. -/
def bf16Vec (l : List Byte) : List F32 := (chunks 2 l.length l).map fun b => ofBf16 (leNat b)

end Sys2Proof.Machine
end

