-- ==== Sys2Proof/Machine/Kmeans.lean ====
section
/-!
DEFINITION. Sys2Proof/Machine/Kmeans.lean: the codebook build of R233 and R357 over binary32 sample vectors, with
bfloat16 centroids.
-/

namespace Sys2Proof.Machine

/-- The squared Euclidean distance in binary32, components in increasing order. -/
def sqDist (a b : List F32) : F32 :=
  (a.zip b).foldl (fun s q => let t := fSub q.1 q.2; fAdd s (fMul t t)) 0

/-- The index of the centroid at least distance, ties going to the lower code; the list is numbered from `i`. -/
def nearestFrom (v : List F32) : List (List F32) → Nat → Nat → F32 → Nat
  | [], _, best, _ => best
  | c :: r, i, best, bd =>
    let x := sqDist v c
    if fLt x bd then nearestFrom v r (i + 1) i x else nearestFrom v r (i + 1) best bd

/-- The code of a vector against a codebook. -/
def nearest (cents : List (List F32)) (v : List F32) : Nat := nearestFrom v cents 0 0 f32Inf

/-- The binary32 mean of vectors, in order, rounded to bfloat16. -/
def meanVec (dim : Nat) (l : List (List F32)) : List F32 :=
  let s := l.foldl (fun a v => List.zipWith fAdd a v) (List.replicate dim 0)
  s.map fun x => viaBf16 (fDiv x (fInt (l.length : Int)))

/-- One round: every sample to its nearest centroid, every centroid to the mean of its members. -/
def kmeansRound (dim : Nat) (samples cents : List (List F32)) : List (List F32) :=
  let tagged := samples.map fun v => (nearest cents v, v)
  cents.zipIdx.map fun (c, i) =>
    let m := (tagged.filter fun t => t.1 == i).map (·.2)
    if m.isEmpty then c else meanVec dim m

/-- The rounds. -/
def kmeansRounds (dim : Nat) (samples : List (List F32)) : Nat → List (List F32) → List (List F32)
  | 0, cents => cents
  | n + 1, cents => kmeansRounds dim samples n (kmeansRound dim samples cents)

/-- 256 centroids: centroid c starts as sample ⌊c × n ÷ 256⌋. -/
def kmeans (dim rounds : Nat) (samples : List (List F32)) : List (List F32) :=
  let n := samples.length
  let init := (List.range 256).map fun c => ((samples[c * n / 256]?).getD (List.replicate dim 0)).map viaBf16
  kmeansRounds dim samples rounds init

/-- A vector's subvectors of `sub` components. -/
def subvectors (sub : Nat) (v : List F32) : List (List F32) := chunks sub v.length v

/-- One codebook for each subspace of the samples: subspace-major, then code-major, then component, as bfloat16
patterns. -/
def buildBook (sub rounds : Nat) (samples : List (List F32)) : List (BitVec 16) :=
  let dim := (samples.head?.map (·.length)).getD 0
  ((List.range (dim / sub)).map fun s =>
    let part := samples.map fun v => (v.drop (s * sub)).take sub
    ((kmeans sub rounds part).map fun c => c.map fun x => BitVec.ofNat 16 (narrow fmtB16 x)).flatten).flatten

/-- The 256 centroids of subspace s of a book with `sub` components each. -/
def bookCents (book : List (BitVec 16)) (sub s : Nat) : List (List F32) :=
  chunks sub 256 (((book.drop (s * 256 * sub)).take (256 * sub)).map fun b => ofBf16 b.toNat)

/-- The centroid of a code. -/
def bookCent (book : List (BitVec 16)) (sub s code : Nat) : List F32 :=
  ((book.drop ((s * 256 + code) * sub)).take sub).map fun b => ofBf16 b.toNat

/-- The codes of a vector. -/
def encodeVec (book : List (BitVec 16)) (sub : Nat) (v : List F32) : List Nat :=
  (subvectors sub v).zipIdx.map fun (x, s) => nearest (bookCents book sub s) x

/-- The vector that a list of codes reconstructs. -/
def decodeVec (book : List (BitVec 16)) (sub : Nat) (codes : List Nat) : List F32 :=
  (codes.zipIdx.map fun (c, s) => bookCent book sub s c).flatten

end Sys2Proof.Machine
end

