-- ==== Sys2Proof/Machine/Geyser.lean ====
section
/-!
DEFINITION. Sys2Proof/Machine/Geyser.lean: the arithmetic of the attention pipelines (R165 to R197) and of selection
(R201 to R223), over decoded pages.
-/

namespace Sys2Proof.Machine

/-- Element i of a list of binary32 numbers, 0 beyond its end. -/
def fAt (l : List F32) (i : Nat) : F32 := (l[i]?).getD 0

/-! ## Carried vectors (R174) -/

/-- Binary32 numbers carried for one query token. -/
def tokenWidth (d : LayerDesc) : Nat :=
  match d.kind with
  | 1 => d.qh * d.headDim + d.qh * d.rotDim + d.latent + d.rotDim
  | 2 => 2 * d.qh * d.headDim + d.qh * d.vDim + (if d.rmode = 1 then d.qh * d.headDim else d.qh) +
      (if d.rmode = 2 then d.qh else 0)
  | _ => d.qh * d.headDim + d.kvh * d.headDim + d.kvh * d.vDim

/-- Token t's vectors. -/
def tokenVecs (d : LayerDesc) (vecs : List F32) (t : Nat) : List F32 := slice vecs (t * tokenWidth d) (tokenWidth d)

/-! ## Rotary units (R177) -/

/-- cos and sin of the angle of pair i at position p. -/
def rotAngle (d : LayerDesc) (p i : Nat) : F32 × F32 :=
  let q := fDiv (fInt (p : Int)) d.ropeDiv
  let e := fDiv (fInt (-2 * (i : Int))) (fInt (d.rotDim : Int))
  let phi := pMul q (pPow d.ropeBase e)
  (pCos phi, pSin phi)

/-- A vector with its first ROT_DIM components rotated for position p. -/
def rotate (d : LayerDesc) (p : Nat) (x : List F32) : List F32 :=
  if d.ropeMode = 0 then x
  else
    let half := d.rotDim / 2
    x.zipIdx.map fun (v, c) =>
      if d.rotDim ≤ c then v
      else
        let (i, first) := if d.ropeMode = 1 then (c / 2, c % 2 == 0) else (c % half, decide (c < half))
        let mate := if d.ropeMode = 1 then (if c % 2 = 0 then c + 1 else c - 1) else (if c < half then c + half else c - half)
        let (cs, sn) := rotAngle d p i
        let w := fAt x mate
        if first then pFma v cs (pMul (fNeg w) sn) else pFma w sn (pMul v cs)

/-! ## Stored entries (R170 to R172, log 20) -/

/-- The stored pattern of a component: converted to ELEM after division by the scale. -/
def storedPat (elem : Nat) (scale x : F32) : Nat :=
  if elem < 2 then narrow (elemFmt elem) (fDiv x scale) else narrow (elemFmt elem) x

/-- The scale of stored keys or values (R170): 1 where ELEM is 2 or 3. -/
def scaleOf (elem : Nat) (l : List F32) (k : Nat) : F32 := if elem < 2 then fAt l k else f32One

/-- The stored key and value patterns of token t, by KV head; a LATENT row is the latent vector and the rotary key. -/
def storedEntry (d : LayerDesc) (p : Nat) (tok : List F32) : List (List Nat × List Nat) :=
  if d.kind = 1 then
    let o := d.qh * (d.headDim + d.rotDim)
    let s := scaleOf d.elem d.kScale 0
    [((slice tok o d.latent ++ rotate d p (slice tok (o + d.latent) d.rotDim)).map (storedPat d.elem s), [])]
  else
    (List.range d.kvh).map fun k =>
      let key := rotate d p (slice tok (d.qh * d.headDim + k * d.headDim) d.headDim)
      let val := slice tok ((d.qh + d.kvh) * d.headDim + k * d.vDim) d.vDim
      (key.map (storedPat d.elem (scaleOf d.elem d.kScale k)), val.map (storedPat d.elem (scaleOf d.elem d.vScale k)))

/-- Stored patterns as bytes. -/
def patBytes (elem : Nat) (l : List Nat) : List Byte := (l.map fun v => leBytes (elemBytes elem) v).flatten

/-- Stored bytes widened. -/
def patVec (elem : Nat) (l : List Byte) : List F32 :=
  (chunks (elemBytes elem) l.length l).map fun b => widen (elemFmt elem) (leNat b)

/-- A key position of a dense page: position, key components and value components in stored units. -/
structure KeyPos where
  j : Nat
  key : List F32
  val : List F32

/-- A stored entry as key positions by KV head. -/
def entryKeys (d : LayerDesc) (p : Nat) (e : List (List Nat × List Nat)) : List KeyPos :=
  e.map fun kv =>
    let key := kv.1.map (widen (elemFmt d.elem))
    ⟨p, key, if d.kind = 1 then key.take d.latent else kv.2.map (widen (elemFmt d.elem))⟩

/-- Key row `row` of KV head k of a dense page's bytes (R172), as position p. -/
def denseKey (d : LayerDesc) (page : List Byte) (k row p : Nat) : KeyPos :=
  let key := patVec d.elem (slice page (keyOff d k row) (keyBytes d))
  ⟨p, key, if d.kind = 1 then key.take d.latent
           else patVec d.elem (slice page (valOff d k row) (d.vDim * elemBytes d.elem))⟩

/-! ## Query rows (R183, R184, R242) -/

/-- A query row: token, head, KV head, position; the binary32 query, the converted query and its score factor σ; the
row's own key. -/
structure QRow where
  t : Nat
  h : Nat
  kv : Nat
  pos : Nat
  q : List F32
  qc : List F32
  sigma : F32
  own : KeyPos

/-- R183: the converted query and sq_h. -/
def convertQuery (d : LayerDesc) (q : List F32) : List F32 × F32 :=
  if d.qFp8 then
    let s := pow2Scale (q.foldl (fun m x => fMax m (fAbs x)) 0)
    (q.map fun x => viaE4m3 (fDiv x s), s)
  else (q.map viaBf16, f32One)

/-- A stored matrix of FP8 E4M3 elements, row-major. -/
structure Fp8Mat where
  cols : Nat
  bytes : List Byte

def Fp8Mat.at' (m : Fp8Mat) (r c : Nat) : F32 := widen fmtE4 (((m.bytes[r * m.cols + c]?).getD 0).toNat)

/-- R184: the absorbed query of a head. -/
def absorb (d : LayerDesc) (uk : Fp8Mat) (scale : F32) (q : List F32) : List F32 :=
  (List.range d.latent).map fun c =>
    pMul scale (dotRound (q.zipIdx.map fun (x, i) => (uk.at' i c, x)))

/-- The query of head h of a token at position p, before conversion. `uk` gives the head's matrix. -/
def headQuery (d : LayerDesc) (uk : Nat → Fp8Mat) (p h : Nat) (tok : List F32) : List F32 :=
  let q := slice tok (h * d.headDim) d.headDim
  if d.kind = 1 then
    absorb d (uk h) (fAt d.ukScale h) q ++ rotate d p (slice tok (d.qh * d.headDim + h * d.rotDim) d.rotDim)
  else rotate d p q

/-- The query rows of a request in order of token, then head. -/
def queryRows (d : LayerDesc) (uk : Nat → Fp8Mat) (first count : Nat) (vecs : List F32) : List QRow :=
  ((List.range count).map fun t =>
    let tok := tokenVecs d vecs t
    let own := entryKeys d (first + t) (storedEntry d (first + t) tok)
    (List.range d.qh).map fun h =>
      let kv := kvHead d h
      let q := headQuery d uk (first + t) h tok
      let c := convertQuery d q
      { t := t, h := h, kv := kv, pos := first + t, q := q, qc := c.1,
        sigma := pMul (pMul c.2 (scaleOf d.elem d.kScale kv)) d.smScale, own := (own[kv]?).getD ⟨0, [], []⟩ }).flatten

/-! ## Score programs and masks (R178, R180) -/

/-- One operation on a score. -/
def scoreOp (d : LayerDesc) (r : QRow) (j : Nat) (s : F32) (op : Nat) : F32 := match op with
  | 1 => pMul s d.c0
  | 2 => pAdd s d.c0
  | 3 => pMul d.c1 (pTanh (pDiv s d.c1))
  | 4 => pAdd s (pMul (fAt d.slope r.h) (fInt ((j : Int) - r.pos)))
  | 5 => fMin (fMax s (fNeg d.c1)) d.c1
  | _ => s

/-- The program up to its first END. -/
def program (d : LayerDesc) (r : QRow) (j : Nat) (s : F32) : F32 :=
  (d.ops.takeWhile (· != 0)).foldl (scoreOp d r j) s

/-- A request's mask bitmap: first column, columns, and the rows as numbers. -/
structure MaskMap where
  base : Nat
  cols : Nat
  rows : List Nat

/-- R180: row r attends position j. -/
def attends (d : LayerDesc) (m : Option MaskMap) (r : QRow) (j : Nat) : Bool :=
  decide (j ≤ r.pos) && (d.window == 0 || decide (r.pos < j + d.window)) && match m with
    | none => true
    | some b => j == r.pos || decide (j < b.base) || decide (b.base + b.cols ≤ j) ||
        bit ((b.rows[r.t]?).getD 0) (j - b.base)

/-- R185 with the program and the mask. -/
def denseScore (d : LayerDesc) (m : Option MaskMap) (r : QRow) (k : KeyPos) : F32 :=
  if attends d m r k.j then program d r k.j (pMul (dotRound (r.qc.zip k.key)) r.sigma) else f32NegInf

/-! ## The softmax state (R179, R186 to R188, R193) -/

def emptyRow (w : Nat) : RowSt := { m := f32NegInf, l := 0, acc := List.replicate w 0 }

/-- Width of the accumulator. -/
def accWidth (d : LayerDesc) : Nat := if d.kind = 1 then d.latent else d.vDim

/-- R179: the state that the sink enters. -/
def sinkRow (d : LayerDesc) (h : Nat) : RowSt :=
  if d.sink then { m := fAt d.sinks h, l := f32One, acc := List.replicate (accWidth d) 0 } else emptyRow (accWidth d)

def rowMax (l : List F32) : F32 := l.foldl fMax f32NegInf

/-- R187: a dense block's contribution. -/
def denseContribution (d : LayerDesc) (kv : Nat) (w : List F32) (ks : List KeyPos) : List F32 :=
  let scale := if d.kind = 1 then scaleOf d.elem d.kScale 0 else scaleOf d.elem d.vScale kv
  let s := pMul scale (f32 .near (Fv.pow2 (-8)))
  let wt := w.map fun x =>
    let y := f32 .near ((un x).mul (Fv.pow2 8))
    if d.qFp8 then viaE4m3 y else viaBf16 y
  (List.range (accWidth d)).map fun c => pMul (dotRound ((wt.zip ks).map fun (x, k) => (x, fAt k.val c))) s

/-- R186: the weights of a block, and the state before its contribution; `none` when nothing has been attended yet. -/
def blockWeights (st : RowSt) (scores : List F32) : Option (RowSt × F32 × List F32) :=
  let mn := fMax st.m (rowMax scores)
  if mn = f32NegInf then none
  else
    let alpha := pExp (pAdd st.m (fNeg mn))
    let w := scores.map fun s => if s = f32NegInf then 0 else pExp (pAdd s (fNeg mn))
    some ({ m := mn, l := pAdd (pMul alpha st.l) (w.foldl pAdd 0), acc := st.acc.map (pMul alpha) }, alpha, w)

/-- One dense block. -/
def denseBlock (d : LayerDesc) (m : Option MaskMap) (r : QRow) (st : RowSt) (ks : List KeyPos) : RowSt :=
  match blockWeights st (ks.map (denseScore d m r)) with
  | none => st
  | some (s, _, w) => { s with acc := List.zipWith pAdd s.acc (denseContribution d r.kv w ks) }

/-- Blocks of up to 64 positions. -/
def blocksOf {α : Type} (l : List α) : List (List α) := chunks 64 (l.length + 1) l

/-- R193. -/
def foldRows (a b : RowSt) : RowSt :=
  let m := fMax a.m b.m
  if m = f32NegInf then a
  else
    let ea := pExp (pAdd a.m (fNeg m))
    let eb := pExp (pAdd b.m (fNeg m))
    { m := m, l := pAdd (pMul ea a.l) (pMul eb b.l),
      acc := List.zipWith (fun x y => pAdd (pMul ea x) (pMul eb y)) a.acc b.acc }

/-! ## Coded pages (R191, R242 to R245) -/

/-- A position of a coded page in one head: base key codes, value codes, refinement codes where it is refined. -/
structure CodePos where
  j : Nat
  keys : List Nat
  vals : List Nat
  refs : Option (List Nat)

/-- The books of one head with the widths of their subvectors. -/
structure HeadBook where
  dk : Nat
  dv : Nat
  base : List (BitVec 16)
  refine : List (BitVec 16)
  value : List (BitVec 16)

/-- R242: one table entry. -/
def codeTable (q : List F32) (dk : Nat) (book : List (BitVec 16)) (s c : Nat) : F32 :=
  dotRound ((slice q (s * dk) dk).zip (bookCent book dk s c))

/-- R243 with the program and the mask. -/
def codeScore (d : LayerDesc) (m : Option MaskMap) (r : QRow) (b : HeadBook) (p : CodePos) : F32 :=
  if attends d m r p.j then
    let t := p.keys.zipIdx.foldl (fun a (c, s) => pAdd a (codeTable r.q b.dk b.base s c)) 0
    let t := match p.refs with
      | some l => pAdd t (l.zipIdx.foldl (fun a (c, s) => pAdd a (codeTable r.q b.dk b.refine s c)) 0)
      | none => t
    program d r p.j (pMul t d.smScale)
  else f32NegInf

/-- The bucket keys that a position's weight goes to: stage × 2^24 + subspace × 256 + code (R245). -/
def bucketKeys (d : LayerDesc) (b : HeadBook) (p : CodePos) : List Nat :=
  if d.kind = 1 then
    let lat := d.latent / b.dk
    let base := (p.keys.take lat).zipIdx.map fun (c, s) => s * 256 + c
    match p.refs with
    | some l => base ++ (l.take lat).zipIdx.map fun (c, s) => 2 ^ 24 + s * 256 + c
    | none => base
  else p.vals.zipIdx.map fun (c, s) => s * 256 + c

/-- The value array's reduction of the touched buckets of a page (R245), one number for each component. -/
def reduceBuckets (d : LayerDesc) (b : HeadBook) (bk : Tbl F32) : List F32 :=
  let w := if d.kind = 1 then b.dk else b.dv
  let part := fun (stage : Nat) (book : List (BitVec 16)) (s i : Nat) (a : F32) =>
    (bk.filter fun q => q.1 / 256 == stage * 65536 + s).foldl (fun a q =>
      pAdd a (pMul (viaBf16 q.2) (fAt (bookCent book w s (q.1 % 256)) i))) a
  (List.range (accWidth d)).map fun c =>
    let s := c / w
    let i := c % w
    if d.kind = 1 then part 1 b.refine s i (part 0 b.base s i 0) else part 0 b.value s i 0

/-- A block of a coded page: the state and the buckets. -/
def codeBlock (d : LayerDesc) (m : Option MaskMap) (r : QRow) (b : HeadBook) (x : RowSt × Tbl F32)
    (ps : List CodePos) : RowSt × Tbl F32 :=
  match blockWeights x.1 (ps.map (codeScore d m r b)) with
  | none => x
  | some (s, alpha, w) =>
    let bk := if fLt alpha f32One then tmap (pMul alpha) x.2 else x.2
    (s, (w.zip ps).foldl (fun bk (wj, p) =>
      (bucketKeys d b p).foldl (fun bk k => tset bk k (pAdd (tgetD bk k 0) wj)) bk) bk)

/-- A coded page in one head's state. -/
def codePage (d : LayerDesc) (m : Option MaskMap) (r : QRow) (b : HeadBook) (st : RowSt) (ps : List CodePos) : RowSt :=
  let x := (blocksOf ps).foldl (codeBlock d m r b) (st, [])
  { x.1 with acc := List.zipWith pAdd x.1.acc (reduceBuckets d b x.2) }

/-! ## Visiting pages (R166, R176, R190) -/

/-- A page as the pipelines read it, by KV head. -/
inductive PageData where
  | dense (heads : List (List KeyPos))
  | coded (heads : List (HeadBook × List CodePos))

/-- One page in a row's state. -/
def visitPage (d : LayerDesc) (m : Option MaskMap) (r : QRow) (st : RowSt) : PageData → RowSt
  | .dense hs => (blocksOf ((hs[r.kv]?).getD [])).foldl (denseBlock d m r) st
  | .coded hs => match hs[r.kv]? with
    | some (b, ps) => codePage d m r b st ps
    | none => st

/-- Every n-th element from index i on. -/
def every {α : Type} (l : List α) (i n : Nat) : List α := (l.zipIdx.filter fun q => q.2 % n == i).map (·.1)

/-- R166, R179: the resident state of a row over the kept resident pages, with the request's own entries last. The pages that R166 deals
out are numbered among these: DESIGN CHOICE (log 24), the rule says "kept pages". -/
def attendRow (d : LayerDesc) (m : Option MaskMap) (g : Nat) (pages : List PageData) (r : QRow) : RowSt :=
  if g ≤ d.kvh then pages.foldl (visitPage d m r) (sinkRow d r.h)
  else
    let part := fun i => (every pages i g).foldl (visitPage d m r)
      (if i = 0 then sinkRow d r.h else emptyRow (accWidth d))
    ((List.range (g - 1)).map fun i => part (i + 1)).foldl foldRows (part 0)

/-- R193: a thawed page in a fresh state. -/
def attendThawed (d : LayerDesc) (m : Option MaskMap) (r : QRow) (p : PageData) : RowSt :=
  visitPage d m r (emptyRow (accWidth d)) p

/-- R188: the output of a row. `uv` gives the head's matrix. Each product is rounded before its addition and UV_SCALE multiplies the sum
once: DESIGN CHOICE (log 8), the rule fixes the order of the sum only. -/
def finishRow (d : LayerDesc) (uv : Nat → Fp8Mat) (h : Nat) (st : RowSt) : List F32 :=
  let o := st.acc.map fun a => pDiv a st.l
  if d.kind = 1 then
    (List.range d.vDim).map fun i => pMul (fAt d.uvScale h) (dotRound (o.zipIdx.map fun (x, c) => ((uv h).at' i c, x)))
  else o

/-- OUT_FMT (R167, R188). -/
def outBytes (fmt : Nat) (l : List F32) : List Byte :=
  if fmt = 0 then (l.map fun x => leBytes 2 (narrow fmtB16 x)).flatten else (l.map fun x => leBytes 4 x.toNat).flatten

/-! ## Recurrent mode (R195, R196) -/

/-- R195: a vector divided by its norm. -/
def pUnit (x : List F32) : List F32 :=
  let n := pSqrt (x.foldl (fun s v => pFma v v s) 0)
  if (un n).eqv (Fv.int 0) then x else x.map fun v => pDiv v n

/-- One head's update for one token: state rows, output. -/
def recurHead (d : LayerDesc) (s : List (List F32)) (q k v al : List F32) (be : F32) : List (List F32) × List F32 :=
  let q := if d.qkNorm then pUnit q else q
  let k := if d.qkNorm then pUnit k else k
  let u := (List.range d.vDim).map fun j => fmaChain (s.zipIdx.map fun (row, i) => (fAt k i, fAt row j))
  let s' := s.zipIdx.map fun (row, i) =>
    let ki := fAt k i
    let a := if d.rmode = 1 then fAt al i else fAt al 0
    row.zipIdx.map fun (x, j) =>
      if d.rmode = 2 then
        let b := pMul be ki
        pFma b (fAt v j) (pMul a (pFma (fNeg b) (fAt u j) x))
      else pFma ki (fAt v j) (pMul a x)
  (s', (List.range d.vDim).map fun j =>
    pMul d.smScale (fmaChain (s'.zipIdx.map fun (row, i) => (fAt row j, fAt q i))))

/-- One token over all heads: the states and the output of the token. -/
def recurToken (d : LayerDesc) (states : List (List (List F32))) (tok : List F32) :
    List (List (List F32)) × List F32 :=
  let hd := d.headDim
  let ko := d.qh * hd
  let vo := 2 * d.qh * hd
  let ao := vo + d.qh * d.vDim
  let aw := if d.rmode = 1 then hd else 1
  let bo := ao + d.qh * aw
  let rs := states.zipIdx.map fun (s, h) =>
    recurHead d s (slice tok (h * hd) hd) (slice tok (ko + h * hd) hd) (slice tok (vo + h * d.vDim) d.vDim)
      (slice tok (ao + h * aw) aw) (fAt tok (bo + h))
  (rs.map (·.1), (rs.map (·.2)).flatten)

/-- The tokens of a request in order. -/
def recurRun (d : LayerDesc) (states : List (List (List F32))) (toks : List (List F32)) :
    List (List (List F32)) × List F32 :=
  toks.foldl (fun acc tok => let r := recurToken d acc.1 tok; (r.1, acc.2 ++ r.2)) (states, [])

/-- R173: the states of a layer from its byte stream, and back. -/
def statesOf (d : LayerDesc) (bytes : List Byte) : List (List (List F32)) :=
  let v := patVec d.elem (bytes.take (stateBytes d))
  (chunks (d.headDim * d.vDim) d.qh v).map fun m => chunks d.vDim d.headDim m
def stateStream (d : LayerDesc) (states : List (List (List F32))) : List Byte :=
  patBytes d.elem ((states.flatten.flatten).map fun x => narrow (elemFmt d.elem) x)

/-! ## Selection (R201 to R223) -/

/-- What selection knows of a page: index in the list, first position, end, whether it is coded, its summary when valid. -/
structure Cand where
  index : Nat
  spn : Nat
  first : Nat
  stop : Nat
  coded : Bool
  tail : Bool
  sum : Option SumEnt

/-- R204: positions of the page that row r attends. -/
def attended (d : LayerDesc) (m : Option MaskMap) (r : QRow) (c : Cand) : List Nat :=
  ((List.range (c.stop - c.first)).map fun i => c.first + i).filter (attends d m r)

/-- R215: [L₀, U₀]. Every product and addition rounds in its interval's direction, in increasing c: DESIGN CHOICE (log 8), the rule
gives the direction only. -/
def rawInterval (d : LayerDesc) (r : QRow) (coded : Bool) (h : SumHead) : F32 × F32 :=
  let q := if coded then r.q else r.qc
  let f := if coded then d.smScale else r.sigma
  let fs := f32 .near ((un f).mul (un h.scale))
  let lo := h.lo.map fun b => widen fmtE4 b.toNat
  let hi := h.hi.map fun b => widen fmtE4 b.toNat
  let ts := q.zip (lo.zip hi)
  let up := ts.foldl (fun a (x, l, u) => dAdd .up a (fMax (dMul .up x l) (dMul .up x u))) 0
  let dn := ts.foldl (fun a (x, l, u) => dAdd .down a (fMin (dMul .down x l) (dMul .down x u))) 0
  let mg := ts.foldl (fun a (x, l, u) => dAdd .up a (dMul .up (fAbs x) (fMax (fAbs l) (fAbs u)))) 0
  let delta := dMul .up (f32 .up (Fv.pow2 (-11))) (dMul .up fs mg)
  (dAdd .down (dMul .down fs dn) (fNeg delta), dAdd .up (dMul .up fs up) delta)

/-- R217: one operation of the program on an interval, rounded outward: DESIGN CHOICE (log 8), the rule names no direction. -/
def intervalOp (d : LayerDesc) (r : QRow) (js : List Nat) (x : F32 × F32) (op : Nat) : F32 × F32 :=
  let wid := dMul .up d.c1 (f32 .up (Fv.pow2 (-21)))
  match op with
  | 1 => if fLt d.c0 0 then (dMul .down d.c0 x.2, dMul .up d.c0 x.1) else (dMul .down d.c0 x.1, dMul .up d.c0 x.2)
  | 2 => (dAdd .down x.1 d.c0, dAdd .up x.2 d.c0)
  | 3 => (dAdd .down (dMul .down d.c1 (pTanh (f32 .down ((un x.1).div (un d.c1))))) (fNeg wid),
          dAdd .up (dMul .up d.c1 (pTanh (f32 .up ((un x.2).div (un d.c1))))) wid)
  | 4 =>
    let t := fun rm j => dMul rm (fAt d.slope r.h) (fInt ((j : Int) - r.pos))
    let lo := js.foldl (fun a j => fMin a (t .down j)) f32Inf
    let hi := js.foldl (fun a j => fMax a (t .up j)) f32NegInf
    (dAdd .down x.1 lo, dAdd .up x.2 hi)
  | 5 => (fMin (fMax x.1 (fNeg d.c1)) d.c1, fMin (fMax x.2 (fNeg d.c1)) d.c1)
  | _ => x

/-- R217: [L(P, r), B(P, r)]; a page without a valid summary has the bound +∞ (R205). -/
def bounds (d : LayerDesc) (m : Option MaskMap) (r : QRow) (c : Cand) : F32 × F32 :=
  let js := attended d m r c
  if js.isEmpty then (f32NegInf, f32NegInf)
  else match c.sum with
    | none => (f32NegInf, f32Inf)
    | some s => match s.heads[r.kv]? with
      | some h => (d.ops.takeWhile (· != 0)).foldl (intervalOp d r js) (rawInterval d r c.coded h)
      | none => (f32NegInf, f32Inf)

/-- exp of any binary32 number (R220 takes it of B − A, which may be positive; log 8). -/
def expAny (x : F32) : F32 := match un x with
  | .fin neg m e =>
    if neg || m == 0 then pExp x
    else if (Fv.int 89).lt (un x) then f32Inf
    else
      let r := expFix (-(toFix false m e))
      let v := (Fv.int 1).div (ofFix r.1 r.2)
      withinBound (Config.expCand x) v (relBound v)
  | _ => pExp x

/-- What selection decides for a page. -/
inductive Choice where
  | kept | dropped | skipped
  deriving DecidableEq, Repr

/-- A candidate of BOUNDED: for each row its count, L and B. -/
structure Bounded where
  cand : Cand
  n : List Nat
  lo : List F32
  hi : List F32

/-- A count as binary32. -/
def fNat (n : Nat) : F32 := fInt (n : Int)

/-- R220: the candidates dropped. -/
def selectBounded (d : LayerDesc) (rows : List QRow) (m : Option MaskMap) (tau : F32) (cs : List Cand) : List Nat :=
  let bs := cs.map fun c =>
    let bd := rows.map fun r => bounds d m r c
    ({ cand := c, n := rows.map fun r => (attended d m r c).length, lo := bd.map (·.1), hi := bd.map (·.2) } : Bounded)
  let az := rows.zipIdx.map fun (r, i) =>
    let self := denseScore d m r r.own
    let snk := if d.sink then fAt d.sinks r.h else f32NegInf
    let a := bs.foldl (fun a b => fMax a (fAt b.lo i)) (fMax self snk)
    let e := fun x => if x = f32NegInf then 0 else pExp (dAdd .down x (fNeg a))
    let z := bs.foldl (fun z b => dAdd .down z (dMul .down (fNat ((b.n[i]?).getD 0)) (e (fAt b.lo i))))
      (dAdd .down (e self) (e snk))
    (a, z)
  let at1 := fun i => ((az[i]?).getD (0, 0)).1
  let at2 := fun i => ((az[i]?).getD (0, 0)).2
  let rho := fun b : Bounded => rowMax (b.n.zipIdx.map fun (n, i) =>
    if n = 0 then f32NegInf else fSub (fSub (fAdd (fAt b.hi i) (pLn (fNat n))) (at1 i)) (pLn (at2 i)))
  let order := sortBy (fun x y : Bounded × F32 => fLt x.2 y.2 || (!fLt y.2 x.2 && decide (x.1.cand.index ≤ y.1.cand.index)))
    (bs.map fun b => (b, rho b))
  (order.foldl (fun (acc : List F32 × List Nat) b =>
    let c := b.1.n.zipIdx.map fun (n, i) => if n = 0 then 0 else dMul .up (fNat n) (expAny (dAdd .up (fAt b.1.hi i) (fNeg (at1 i))))
    let used := List.zipWith (dAdd .up) acc.1 c
    if used.zipIdx.all fun (u, i) => fLe u (dMul .down tau (at2 i)) then (used, b.1.cand.index :: acc.2) else acc)
    (rows.map fun _ => (0 : F32), [])).2

/-- R222: the indices that TOPK ranks in. -/
def selectTopk (d : LayerDesc) (rows : List QRow) (m : Option MaskMap) (k : Nat) (cs : List Cand) : List Nat :=
  let rank := cs.map fun c =>
    (c, match c.sum with
      | none => f32Inf
      | some _ => rowMax (rows.map fun r =>
          let n := (attended d m r c).length
          if n = 0 then f32NegInf else fAdd (bounds d m r c).2 (pLn (fNat n))))
  ((sortBy (fun x y : Cand × F32 => fLt y.2 x.2 || (!fLt x.2 y.2 && decide (x.1.index ≤ y.1.index))) rank).take k).map
    (·.1.index)

/-- R222: a page that TOPK keeps without ranking it, of a list of `total` pages. -/
def topkFixed (c : Ctrl) (total : Nat) (x : Cand) : Bool :=
  decide (x.index < c.sinkPages) || decide (total ≤ x.index + c.recentPages) || x.tail

/-- R204: a page other than the tail of which no row attends a position. -/
def pageSkipped (d : LayerDesc) (rows : List QRow) (m : Option MaskMap) (x : Cand) : Bool :=
  !x.tail && rows.all fun r => (attended d m r x).isEmpty

/-- The pages whose summaries selection reads (R205, R220, R222): none in DENSE. -/
def summaryRead (d : LayerDesc) (rows : List QRow) (m : Option MaskMap) (mode : Nat) (c : Ctrl) (cs : List Cand) : List Cand :=
  cs.filter fun x => !pageSkipped d rows m x && match mode with
    | 1 => !x.tail
    | 2 => !topkFixed c cs.length x
    | _ => false

/-- R204 to R222: the choice for every page of the list. -/
def selectPages (d : LayerDesc) (rows : List QRow) (m : Option MaskMap) (mode : Nat) (c : Ctrl) (cs : List Cand) :
    List (Cand × Choice) :=
  let rest := summaryRead d rows m mode c cs
  let dropped : List Nat :=
    if mode = 1 then selectBounded d rows m c.tau (rest.filter fun x => x.sum.isSome)
    else
      let pick := selectTopk d rows m c.topkK rest
      (rest.filter fun x => !pick.contains x.index).map (·.index)
  cs.map fun x => (x, if pageSkipped d rows m x then .skipped else if dropped.contains x.index then .dropped else .kept)

end Sys2Proof.Machine
end

