-- ==== Sys2Proof/Machine/Sinter.lean ====
section
/-!
DEFINITION. Sys2Proof/Machine/Sinter.lean: the Sinter codec (R226 to R253): formats and layer maps, books and their
build, coded pages with their checks, the encoding of runs, and coded recurrent state.
-/

namespace Sys2Proof.Machine

/-! ## Geometry (R227, R228) -/

/-- S_K: key subspaces of a layer. -/
def keySubs (fm : Fmt) (ld : LayerDesc) : Nat := keyDim ld / fm.dk

/-- S_V: value subspaces, 0 for a LATENT layer. -/
def valSubs (fm : Fmt) (ld : LayerDesc) : Nat := if ld.kind = 1 then 0 else ld.vDim / fm.dv

/-- SEC_BYTES. -/
def secBytes (ld : LayerDesc) : Nat := 64 * ((65536 - 64) / (64 * ld.kvh))

/-- B of `n` positions. -/
def blocksFor (n : Nat) : Nat := ceilDiv n 64

/-- Bytes of a block of n positions of which `r` are refined (R237). -/
def blockLen (fm : Fmt) (ld : LayerDesc) (n r : Nat) : Nat := 8 + n * (keySubs fm ld + valSubs fm ld) + r * keySubs fm ld

/-- Positions of block b of n in all. -/
def blockPos (n b : Nat) : Nat := min 64 (n - 64 * b)

/-- W of R228. -/
def worstSection (fm : Fmt) (ld : LayerDesc) : Nat :=
  let n := fm.run * pagePos ld
  4 * blocksFor n + ((List.range (blocksFor n)).map fun b => blockLen fm ld (blockPos n b) (min fm.refMax (blockPos n b))).sum

/-- R227, R228: the format fits the layer. -/
def fitsLayer (fm : Fmt) (ld : LayerDesc) : Bool :=
  match ld.kind with
  | 2 => fm.kind == 1 && ld.vDim % fm.dv == 0
  | 1 => fm.kind == 0 && ld.latent % fm.dk == 0 && ld.rotDim % fm.dk == 0 && decide (worstSection fm ld ≤ secBytes ld)
  | _ => fm.kind == 0 && ld.headDim % fm.dk == 0 && ld.vDim % fm.dv == 0 && decide (worstSection fm ld ≤ secBytes ld)

/-! ## Formats and maps (R226, R227) -/

/-- A layer map names format n (R226). -/
def formatNamed (d : Dev) (n : Nat) : Bool := d.mdl.slots.any fun q => q.2.img.st == 2 && q.2.map.contains n

/-- SINTER_FORMAT_SET (R226). -/
def sinterFormatSet (d : Dev) (h : CmdHdr) (n : Nat) (fm : Fmt) : Dev :=
  let widths := [2, 4, 8, 16]
  onChannel d h 0x020B true fun d =>
    checked d h 0x020B
      [(n == 0 || decide (15 < n), stw stParam 6), (decide (1 < fm.kind), stw stParam 7),
       (fm.kind == 0 && !(decide (4 ≤ fm.run) && decide (fm.run ≤ 8)), stw stParam 8),
       (fm.kind == 0 && !widths.contains fm.dk, stw stParam 9), (!widths.contains fm.dv, stw stParam 10),
       (decide (64 < fm.refMax) || (fm.kind == 1 && fm.refMax != 0), stw stParam 11),
       (fm.rounds == 0 || decide (15 < fm.rounds), stw stParam 13), (formatNamed d n, stw stRetry 0)] fun d =>
      reply { d with snt.fmts := tset d.snt.fmts n fm } h 0x020B stOk

/-- Entry i of a MAP field (R564). -/
def mapEntry (map : List Byte) (i : Nat) : Nat :=
  let b := (((map[i / 2]?).getD 0).toNat)
  if i % 2 = 0 then b % 16 else b / 16

/-- R227: a map entry is not allowed for a layer. -/
def badEntry (d : Dev) (ld : Option LayerDesc) (v : Nat) : Bool :=
  v != 0 && match ld, tget d.snt.fmts v with
    | some ld, some fm => !fitsLayer fm ld
    | _, _ => true

/-- SINTER_MAP_SET (R227, R564). -/
def sinterMapSet (d : Dev) (h : CmdHdr) (model : Nat) (map : List Byte) : Dev :=
  onChannel d h 0x020C true fun d =>
    match modelDesc d model with
    | none => reply d h 0x020C (stw stParam 6)
    | some ds =>
      let es := (List.range 256).map (mapEntry map)
      checked d h 0x020C
        [(decide (32 ≤ model), stw stParam 6), (es.zipIdx.any fun (v, i) => badEntry d ds.layers[i]? v, stw stParam 8)]
        fun d => reply { d with mdl.slots := tmod d.mdl.slots model fun m => { m with map := es.take ds.layers.length } }
          h 0x020C stOk

/-- The format number that the map of a model gives a layer. -/
def mapFmt (d : Dev) (model l : Nat) : Nat := match tget d.mdl.slots model with
  | some m => (m.map[l]?).getD 0
  | none => 0

/-! ## Books (R230 to R234) -/

/-- A slot that no build filled. -/
def BookSlot.empty : BookSlot := { gen := 0, frames := [], base := [], refine := [], value := [] }

/-- The books of a layer that no build served. -/
def Book.empty : Book :=
  { s0 := BookSlot.empty, s1 := BookSlot.empty, cur := none, queued := false, firstErrs := [], lastErrs := [] }

def bookAt (d : Dev) (key : Nat) : Book := tgetD d.snt.books key Book.empty
def Book.slot (b : Book) (n : Nat) : BookSlot := if n = 0 then b.s0 else b.s1
def Book.setSlot (b : Book) (n : Nat) (x : BookSlot) : Book := if n = 0 then { b with s0 := x } else { b with s1 := x }

/-- R231: the book domain of partition p; partition 0's pages, public prefixes among them, use domain 0. -/
def bookDomain (d : Dev) (p : Nat) : Nat := if bit (part d p).cfg.pflags 2 then 0 else p

/-- The domain whose books code a page with this OWNER (R231). -/
def pageDomain (d : Dev) (own : Nat) : Nat := if own = 0 then 0 else bookDomain d own

/-- The book slot that the frame or the copy of a page is known to name. -/
def bookOf (d : Dev) (q : Pte) : Nat :=
  if q.tier = .tephra then ((desc d q.at').map (·.book)).getD 0 else ((frame d q.at').map (·.book)).getD 0

/-- The layer that a page of a session stands in. -/
def layerWith (e : SessEnt) (spn : Nat) : Option Nat := e.layers.findIdx? fun l => l.pages.any fun p => p.spn == spn

/-- R232: coded pages of a (domain, model, layer) that came from another controller and that nothing has read yet. They name one of its
two slots, and hold both (log 20). -/
def unreadUses (d : Dev) (key : Nat) : Nat :=
  (d.pg.ptes.filter fun q => q.2.cmp && bookOf d q.2 == 0 && match layerWith (sess d q.2.owner) q.1 with
    | some l => bookKey (pageDomain d (ownerOf d q.2.owner)) (sess d q.2.owner).model l == key
    | none => false).length

/-- R232: the HBM frames and Tephra copies that hold coded pages naming slot n of a key. -/
def slotUses (d : Dev) (key n : Nat) : Nat :=
  let no := bookNo key n
  (d.pg.frames.filter fun q => q.2.book == no).length + (d.pg.descs.filter fun q => q.2.book == no).length + unreadUses d key

/-- The layer's stored keys or values are multiplied by this to give real units (R170, R230). -/
def keyScale (ld : LayerDesc) (h : Nat) : F32 := scaleOf ld.elem ld.kScale (if ld.kind = 1 then 0 else h)
def valScale (ld : LayerDesc) (h : Nat) : F32 := scaleOf ld.elem ld.vScale h

/-- The positions of head h of a dense page that starts at `first` and covers n positions, in real units. -/
def realKeys (ld : LayerDesc) (page : List Byte) (h first n : Nat) : List KeyPos :=
  (List.range n).map fun r =>
    let k := denseKey ld page h r (first + r)
    { k with key := k.key.map (fMul (keyScale ld h)),
             val := if ld.kind = 1 then [] else k.val.map (fMul (valScale ld h)) }

/-- R251: the scale of a state row: its largest absolute component rounded up to a power of two, 1 for a zero row. -/
def rowScale (row : List F32) : F32 :=
  let a := row.foldl (fun m x => fMax m (fAbs x)) 0
  match un a with
  | .fin _ m e =>
    if m = 0 then f32One
    else f32 .near (Fv.pow2 (e + (m.log2 : Int) + (if 2 ^ m.log2 = m then 0 else 1)))
  | _ => f32One

/-- The bytes of a layer's state in HBM, page by page. -/
def stateStreamOf (d : Dev) (l : LayerSt) (ld : LayerDesc) : List Byte :=
  ((l.pages.map fun p => readPage d p.spn 0 65536).flatten).take (stateBytes ld)

/-- The sessions of a model whose pages a build may read (R253), as entries. -/
def modelSessions (d : Dev) (model : Nat) : List Nat :=
  (d.sess.filter fun q => q.2.st != .free && q.2.model == model && !confidential d (ownerOf d q.1)).map (·.1)

/-- A public prefix: some domain table names the session as holder (R259, R261). -/
def publicHolder (d : Dev) (i : Nat) : Bool := d.pfx.tables.any fun t => decide (256 ≤ t.1) && tableNames d t.1 (handleOf d i)

/-- R231: a page of entry i with OWNER own trains the books of a domain: those of domain 0 on pages of SHARED partitions and on
public-prefix pages only. -/
def trains (d : Dev) (dom i own : Nat) : Bool :=
  pageDomain d own == dom && (dom != 0 || bit (part d own).cfg.pflags 2 || ownerOf d i != own || publicHolder d i)

/-- A page that a build may sample: its session's entry, its place in the list, SPN, first position, positions, frame. -/
structure SamplePage where
  entry : Nat
  index : Nat
  spn : Nat
  first : Nat
  n : Nat
  frame : Nat

/-- R233: the resident dense non-tail pages of a key-value layer, or the state pages of a RECURRENT one, at most 256 in increasing SPN
order. -/
def samplePages (d : Dev) (dom model l : Nat) (ld : LayerDesc) : List SamplePage :=
  let ps := (modelSessions d model).map fun i =>
    match (sess d i).layers[l]? with
    | some x =>
      let pages := if ld.kind = 2 then x.pages else x.pages.dropLast
      pages.zipIdx.filterMap fun (p, k) =>
        match residentFrame d p.spn, pte d p.spn with
        | some f, some q => if q.cmp || badFrame d f || !trains d dom i (frameOwner d f) then none
                            else some (⟨i, k, p.spn, p.first, pageEnd x k - p.first, f⟩ : SamplePage)
        | _, _ => none
    | none => []
  (sortBy (fun a b : SamplePage => decide (a.spn ≤ b.spn)) ps.flatten).take 256

/-- R233: the key samples, or the value samples, of head h. -/
def headSamples (d : Dev) (ld : LayerDesc) (pages : List SamplePage) (h : Nat) (values : Bool) : List (List F32) :=
  ((pages.map fun p =>
    (realKeys ld (readFrame d p.frame 0 65536) h p.first p.n).map fun k =>
      if values then k.val else k.key).flatten).take 65536

/-- The state rows of head h that begin in a sampled page and lie whole in sampled pages. -/
def rowsIn (ld : LayerDesc) (bytes : Nat → Option (List Byte)) (h k : Nat) : List (List F32) :=
  let w := ld.vDim * elemBytes ld.elem
  let page := (bytes k).getD []
  (List.range ld.headDim).filterMap fun r =>
    let o := (h * ld.headDim + r) * w
    if o / 65536 ≠ k then none
    else
      let here := (page.drop (o % 65536)).take w
      if here.length = w then some (patVec ld.elem here)
      else (bytes (k + 1)).map fun b => patVec ld.elem (here ++ b.take (w - here.length))

/-- R233: the scaled state rows of head h of the sampled pages, in increasing SPN. -/
def stateSamples (d : Dev) (ld : LayerDesc) (pages : List SamplePage) (h : Nat) : List (List F32) :=
  let rows := pages.map fun p => rowsIn ld (fun k => (pages.find? fun q => q.entry == p.entry && q.index == k).map fun q =>
    readFrame d q.frame 0 65536) h p.index
  (rows.flatten.take 65536).map fun r => let sc := rowScale r; r.map fun x => fDiv x sc

/-- The residual of a vector after the base codebook. -/
def residual (book : List (BitVec 16)) (sub : Nat) (v : List F32) : List F32 :=
  List.zipWith fSub v (decodeVec book sub (encodeVec book sub v))

/-- Frames of a book of a layer (R230). -/
def bookFrames (fm : Fmt) (ld : LayerDesc) : Nat :=
  let comps := if ld.kind = 2 then ld.vDim
    else keyDim ld * (if fm.refMax = 0 then 1 else 2) + (if ld.kind = 1 then 0 else ld.vDim)
  ceilDiv (ld.kvh * 256 * comps * 2) 65536

/-- The codebooks of every head: base, refinement, value (or state). -/
def buildHeads (d : Dev) (fm : Fmt) (ld : LayerDesc) (pages : List SamplePage) :
    List (List (BitVec 16) × List (BitVec 16) × List (BitVec 16)) :=
  (List.range ld.kvh).map fun h =>
    if ld.kind = 2 then ([], [], buildBook fm.dv fm.rounds (stateSamples d ld pages h))
    else
      let ks := headSamples d ld pages h false
      let base := buildBook fm.dk fm.rounds ks
      let refine := if fm.refMax = 0 then [] else buildBook fm.dk fm.rounds (ks.map (residual base fm.dk))
      let value := if ld.kind = 1 then [] else buildBook fm.dv fm.rounds (headSamples d ld pages h true)
      (base, refine, value)

/-! ## Candidate runs (R111 row 28, R238) -/

/-- A page meets row 28 but for the tail condition. -/
def row28 (d : Dev) (spn : Nat) : Bool :=
  match pte d spn with
  | some p => p.tier == .hbm && !p.shr && !p.snap && !p.raw && !p.cmp && match frame d p.at' with
    | some f => f.refcnt == 1
    | none => false
  | none => false

/-- The page is coded. -/
def isCoded (d : Dev) (spn : Nat) : Bool := match pte d spn with
  | some p => p.cmp
  | none => false

/-- R238 but for row 28: RUN dense pages from index k, after a coded page or at the list's start, with DENSE_KEEP dense
non-tail pages after them. -/
def runShape (d : Dev) (fm : Fmt) (ld : LayerDesc) (x : LayerSt) (k : Nat) : Bool :=
  let body := x.pages.dropLast
  let run := slice body k fm.run
  run.length == fm.run && (run.all fun p => !isCoded d p.spn) &&
  (k == 0 || ((body[k - 1]?).map fun p => isCoded d p.spn) == some true) &&
  decide (fm.denseKeep ≤ ((body.drop (k + fm.run)).filter fun p => !isCoded d p.spn).length) &&
  pageEnd x (k + fm.run - 1) == ((x.pages[k]?).map (·.first)).getD 0 + fm.run * pagePos ld

/-- R238: the run from index k of layer l of entry i is a candidate. -/
def candidate (d : Dev) (i l k : Nat) : Bool :=
  let e := sess d i
  match layerOf d e l, e.layers[l]?, tget d.snt.fmts (mapFmt d e.model l) with
  | some ld, some x, some fm =>
    ld.kind != 2 && fm.kind == 0 && !confidential d (ownerOf d i) && runShape d fm ld x k &&
    (slice x.pages k fm.run).all fun p => row28 d p.spn
  | _, _, _ => false

/-- The first candidate run of a layer. -/
def firstCandidate (d : Dev) (i l : Nat) : Option Nat :=
  match (sess d i).layers[l]? with
  | some x => firstFrom (candidate d i l) 0 x.pages.length
  | none => none

/-- R238: where a run stands in the order in which candidates are taken: age bucket, entry, layer, first page. -/
def runOrder (d : Dev) (i l k : Nat) : Nat := ((((sess d i).lastTick / 1024) * 2 ^ 32 + i) * 256 + l) * 2 ^ 32 + k

/-- R238: a candidate run that may be encoded now stands before this one: its layer is not put off (R241) and has no admitted request
that is unanswered (R214). -/
def earlierRun (d : Dev) (i l k : Nat) : Bool :=
  d.sess.any fun q => q.2.st != .free && (List.range q.2.layers.length).any fun m =>
    !(d.snt.retry.any fun r => r.1 == q.1 && r.2.1 == m) &&
    !(d.reqs.any fun r => r.entry == q.1 && r.layer == m && r.phase != .waiting) && match firstCandidate d q.1 m with
      | some n => decide (runOrder d q.1 m n < runOrder d i l k)
      | none => false

/-- SNT_BACKLOG: qualifying runs not yet encoded, the runs of a layer counted one after the other. -/
def backlog (d : Dev) : Nat :=
  (d.sess.map fun q => ((List.range q.2.layers.length).filter fun l => (firstCandidate d q.1 l).isSome).length).sum

/-! ## BOOK_BUILD (R231 to R234, R253) -/

/-- R234: the layer's build is due: queued, or there is no current book and some page of the layer is a candidate (a
RECURRENT layer's pages are coded only on a park, so there the format alone asks for it). -/
def buildDue (d : Dev) (dom model l : Nat) (ld : LayerDesc) (b : Book) : Bool :=
  b.queued || (b.cur.isNone && (ld.kind == 2 ||
    (modelSessions d model).any fun i => bookDomain d (ownerOf d i) == dom && (firstCandidate d i l).isSome))

/-- The build itself into the target slot: frames, codebooks, the next generation, current (R233). -/
def finishBuild (d : Dev) (fm : Fmt) (ld : LayerDesc) (dom model l target : Nat) (pages : List SamplePage) : Dev :=
  let key := bookKey dom model l
  let b := bookAt d key
  let s := b.slot target
  let n := bookFrames fm ld
  let d0 := if s.frames.length = n then d else freeFrames d s.frames
  match (if s.frames.length = n then .ok (s.frames, d) else allocMany d0 dom n) with
  | .error _ => d
  | .ok (fs, d1) =>
    let hs := buildHeads d1 fm ld pages
    let s' : BookSlot := { gen := (s.gen + 1) % 2 ^ 32, frames := fs, base := hs.map (·.1), refine := hs.map (·.2.1),
                           value := hs.map (·.2.2) }
    let b' := { b.setSlot target s' with cur := some target, queued := false, firstErrs := [], lastErrs := [] }
    bump (fs.foldl (fun d f => noteObj d (2 ^ 32 + f)) { d1 with snt.books := tset d1.snt.books key b' })
      Addr.SNT_BOOK_BUILD_CNT

/-- BOOK_BUILD: one build for a domain, model and layer. -/
def bookBuild (d : Dev) (dom model l : Nat) : Dev :=
  match (modelDesc d model).bind (·.layers[l]?), tget d.snt.fmts (mapFmt d model l) with
  | some ld, some fm =>
    let key := bookKey dom model l
    let b := bookAt d key
    if confidential d dom || d.pwr.fumarole || !buildDue d dom model l ld b then d
    else
      let target := match b.cur with
        | some n => 1 - n
        | none => 0
      if 0 < slotUses d key target then bump d Addr.SNT_BOOK_WAIT_CNT
      else
        let pages := samplePages d dom model l ld
        let count := if ld.kind = 2 then (stateSamples d ld pages 0).length
          else (pages.map (·.n)).sum
        if decide (count < 256) || pages.any (fun q => inWindow d q.frame) then d else finishBuild d fm ld dom model l target pages
  | _, _ => d

def execBookBuild (domain model layer : Nat) (s : State) : Host.Outcome State Fault Refusal :=
  serve s (background 6 1 true fun d => bookBuild { d with pwr.busySimmer := true } domain model layer)

/-! ## Coded pages as bytes (R236, R237) -/

/-- One shift of CRC-32C's register. -/
def crcStep (c : Word) : Word := if c.getLsbD 0 then (c >>> 1) ^^^ 0x82F63B78 else c >>> 1

/-- CRC-32C (Castagnoli). -/
def crc32c (l : List Byte) : Nat :=
  ((l.foldl (fun (c : Word) b =>
    let c := c ^^^ BitVec.ofNat 32 b.toNat
    crcStep (crcStep (crcStep (crcStep (crcStep (crcStep (crcStep (crcStep c)))))))) 0xFFFFFFFF) ^^^ 0xFFFFFFFF).toNat

/-- The header of a coded page. -/
structure CodedHdr where
  fmt : Nat
  kind : Nat
  heads : Nat
  slot : Nat
  first : Nat
  count : Nat
  sec : Nat
  blocks : Nat
  gen : Nat
  domain : Nat
  model : Nat
  layer : Nat
  refs : Nat

/-- Bytes 0 to 59. -/
def CodedHdr.body (h : CodedHdr) : List Byte :=
  leBytes 4 0x52544E53 ++ leBytes 1 h.fmt ++ leBytes 1 h.kind ++ leBytes 1 h.heads ++ leBytes 1 h.slot ++
  leBytes 4 h.first ++ leBytes 4 h.count ++ leBytes 2 h.sec ++ leBytes 2 h.blocks ++ leBytes 4 h.gen ++
  leBytes 1 h.domain ++ leBytes 1 h.model ++ leBytes 1 h.layer ++ leBytes 1 0 ++ leBytes 4 h.refs ++ leBytes 28 0

/-- The 64 bytes of the header of a page whose block-offset indexes are `idx`. -/
def CodedHdr.bytes (h : CodedHdr) (idx : List Byte) : List Byte := h.body ++ leBytes 4 (crc32c (h.body ++ idx))

/-- The header of a page, when MAGIC and every reserved field are right. -/
def readHdr (b : List Byte) : Option CodedHdr :=
  let f := field b
  if f 0 4 = 0x52544E53 ∧ f 7 1 < 2 ∧ f 27 1 = 0 ∧ allZero ((b.drop 32).take 28) then
    some { fmt := f 4 1, kind := f 5 1, heads := f 6 1, slot := f 7 1, first := f 8 4, count := f 12 4, sec := f 16 2,
           blocks := f 18 2, gen := f 20 4, domain := f 24 1, model := f 25 1, layer := f 26 1, refs := f 28 4 }
  else none

/-- A position as it is encoded: its codes, and its refinement codes and error. -/
structure EncPos where
  keys : List Nat
  vals : List Nat
  refs : List Nat
  err : F32

/-- R239: one position of a head against the books. -/
def encodePos (fm : Fmt) (b : HeadBook) (k : KeyPos) : EncPos :=
  let keys := encodeVec b.base fm.dk k.key
  let rec' := decodeVec b.base fm.dk keys
  let norm := k.key.foldl (fun s x => fAdd s (fMul x x)) 0
  { keys := keys, vals := if k.val.isEmpty then [] else encodeVec b.value fm.dv k.val,
    refs := if fm.refMax = 0 then [] else encodeVec b.refine fm.dk (List.zipWith fSub k.key rec'),
    err := if (un norm).eqv (Fv.int 0) then 0 else fDiv (sqDist k.key rec') norm }

/-- R239: the positions of a block that are refined. -/
def refinedOf (fm : Fmt) (thresh : F32) (ps : List EncPos) : List Nat :=
  let above := ps.zipIdx.filter fun q => fLt thresh q.1.err
  ((sortBy (fun a b : EncPos × Nat => fLt b.1.err a.1.err || (!fLt a.1.err b.1.err && decide (a.2 ≤ b.2))) above).take
    fm.refMax).map (·.2)

/-- Codes as bytes. -/
def codeBytes (l : List Nat) : List Byte := l.map (BitVec.ofNat 8)

/-- One block (R237): its refined count and its bytes. -/
def blockBytes (fm : Fmt) (thresh : F32) (ps : List EncPos) : Nat × List Byte :=
  let r := refinedOf fm thresh ps
  (r.length, leBytes 8 ((r.map fun i => 2 ^ i).sum) ++ codeBytes ((ps.map (·.keys)).flatten) ++
    codeBytes ((ps.map (·.vals)).flatten) ++
    codeBytes ((ps.zipIdx.map fun (p, i) => if r.contains i then p.refs else []).flatten))

/-- The index and the blocks of a section, from block offset `o`. -/
def sectionFrom (o : Nat) : List (Nat × List Byte) → List Byte × List Byte
  | [] => ([], [])
  | (n, b) :: r =>
    let q := sectionFrom (o + b.length) r
    (leBytes 4 (n * 65536 + o) ++ q.1, b ++ q.2)

/-- A head's section: its index, its bytes padded to SEC_BYTES, its refined positions, its errors. -/
def sectionOf (fm : Fmt) (ld : LayerDesc) (thresh : F32) (b : HeadBook) (ks : List KeyPos) :
    List Byte × List Byte × Nat × List F32 :=
  let ps := ks.map (encodePos fm b)
  let bs := (blocksOf ps).map (blockBytes fm thresh)
  let q := sectionFrom (4 * bs.length) bs
  let l := q.1 ++ q.2
  (q.1, l ++ List.replicate (secBytes ld - l.length) 0, (bs.map (·.1)).sum, ps.map (·.err))

/-- The books of head h of a slot. -/
def headBook (fm : Fmt) (s : BookSlot) (h : Nat) : HeadBook :=
  ⟨fm.dk, fm.dv, (s.base[h]?).getD [], (s.refine[h]?).getD [], (s.value[h]?).getD []⟩

/-! ## Reading coded pages (R249) -/

/-- A block of a section (checks 7 and 8): its positions when it is well formed; `o` is its offset, `j` its first
position. -/
def readBlock (fm : Fmt) (ld : LayerDesc) (sec : List Byte) (ref o j n : Nat) : Option (List CodePos) :=
  let sk := keySubs fm ld
  let sv := valSubs fm ld
  let b := sec.drop o
  let map := field b 0 8
  let on := (List.range n).filter fun i => bit map i
  if on.length = ref ∧ ref ≤ fm.refMax ∧ map < 2 ^ n then
    some ((List.range n).map fun i =>
      { j := j + i, keys := (slice b (8 + i * sk) sk).map (·.toNat),
        vals := (slice b (8 + n * sk + i * sv) sv).map (·.toNat),
        refs := (on.findIdx? (· == i)).map fun r => (slice b (8 + n * (sk + sv) + r * sk) sk).map (·.toNat) })
  else none

/-- The blocks of a section from number b on, with the offset that block b must have. -/
def readBlocks (fm : Fmt) (ld : LayerDesc) (sec : List Byte) (first count : Nat) : Nat → Nat → Nat → Option (List CodePos)
  | 0, _, o => if o ≤ secBytes ld then some [] else none
  | k + 1, b, o =>
    let ent := field sec (4 * b) 4
    let ref := bits ent 23 16
    let n := blockPos count b
    if bits ent 31 24 = 0 ∧ bits ent 15 0 = o then
      match readBlock fm ld sec ref o (first + 64 * b) n, readBlocks fm ld sec first count k (b + 1) (o + blockLen fm ld n ref) with
      | some p, some r => some (p ++ r)
      | _, _ => none
    else none

/-- Every head's positions and the total of refined positions. -/
def readSections (fm : Fmt) (ld : LayerDesc) (page : List Byte) (first count : Nat) : Option (List (List CodePos)) :=
  (List.range ld.kvh).mapM fun h =>
    let sec := slice page (64 + h * secBytes ld) (secBytes ld)
    readBlocks fm ld sec first count (blocksFor count) 0 (4 * blocksFor count)

/-- Checks 1 to 4 of R249 on the header; `own` is the page's OWNER. -/
def hdrOk (d : Dev) (e : SessEnt) (l own fmtNo first count : Nat) (fm : Fmt) (h : CodedHdr) : Bool :=
  h.fmt == fmtNo && h.kind == fm.kind && h.first == first && h.count == count &&
  h.domain == pageDomain d own && h.model == e.model && h.layer == l &&
  ((bookAt d (bookKey h.domain h.model h.layer)).slot h.slot).gen == h.gen

/-- R249 on a key-value page: the book slot it names and its heads, or none where a check fails. -/
def readCoded (d : Dev) (e : SessEnt) (l : Nat) (ld : LayerDesc) (p : Pte) (first stop : Nat) :
    Option (Nat × List (HeadBook × List CodePos)) :=
  let page := readFrame d p.at' 0 65536
  match readHdr page, tget d.snt.fmts p.fmt with
  | some h, some fm =>
    let n := stop - first
    let idx := ((List.range ld.kvh).map fun k => slice page (64 + k * secBytes ld) (4 * blocksFor n)).flatten
    if hdrOk d e l (frameOwner d p.at') p.fmt first n fm h && fm.kind == 0 &&
       field page 60 4 == crc32c (page.take 60 ++ idx) && h.sec == secBytes ld && h.blocks == blocksFor n then
      match readSections fm ld page first n with
      | some hs =>
        let total := (hs.map fun l => (l.filter fun c => c.refs.isSome).length).sum
        let key := bookKey h.domain h.model h.layer
        if h.refs = total then
          some (bookNo key h.slot, hs.zipIdx.map fun (c, k) => (headBook fm ((bookAt d key).slot h.slot) k, c))
        else none
      | none => none
    else none
  | _, _ => none

/-- R250: the count and the Error event of a coded page that fails a check. -/
def noteDamage (d : Dev) (spn own : Nat) : Dev :=
  errEvent (bump d Addr.SNT_DAMAGE_CNT) 13 (stw stCodec 0) own 0 spn

/-! ## RUN_ENCODE (R238 to R241) -/

/-- A summary entry that is not valid. -/
def SumEnt.none' (spn : Nat) : SumEnt := { valid := false, spn := spn, posCount := 0, heads := [] }

/-- The mean of binary32 numbers in order. -/
def meanOf (l : List F32) : F32 := fDiv (l.foldl fAdd 0) (fNat l.length)

/-- R234: the run's error joins the books' record, and a rebuild is queued when the errors have grown. -/
def noteError (d : Dev) (key : Nat) (err : F32) : Dev :=
  let b := bookAt d key
  let fst := if b.firstErrs.length < 64 then b.firstErrs ++ [err] else b.firstErrs
  let last := (b.lastErrs ++ [err]).drop (b.lastErrs.length + 1 - 64)
  let due := fst.length == 64 && last.length == 64 &&
    fLt (fMul (BitVec.ofNat 32 (lim d Addr.SNT_REFRESH_RATIO)) (meanOf fst)) (meanOf last)
  { d with snt.books := tset d.snt.books key { b with firstErrs := fst, lastErrs := last, queued := b.queued || due } }

/-- The coded page of a run: its bytes and the mean error. -/
def encodeRun (d : Dev) (e : SessEnt) (l fmtNo dom slot : Nat) (fm : Fmt) (ld : LayerDesc) (run : List PageEnt) :
    List Byte × F32 :=
  let bs := (bookAt d (bookKey dom e.model l)).slot slot
  let first := (run.head?.map (·.first)).getD 0
  let thresh := BitVec.ofNat 32 (lim d Addr.SNT_REF_THRESH)
  let secs := (List.range ld.kvh).map fun h =>
    sectionOf fm ld thresh (headBook fm bs h)
      ((run.map fun p => realKeys ld (readPage d p.spn 0 65536) h p.first (pagePos ld)).flatten)
  let hdr : CodedHdr :=
    { fmt := fmtNo, kind := 0, heads := ld.kvh, slot := slot, first := first, count := fm.run * pagePos ld,
      sec := secBytes ld, blocks := blocksFor (fm.run * pagePos ld), gen := bs.gen, domain := dom, model := e.model,
      layer := l, refs := (secs.map (·.2.2.1)).sum }
  (hdr.bytes ((secs.map (·.1)).flatten) ++ (secs.map (·.2.1)).flatten, meanOf ((secs.map (·.2.2.2)).flatten))

/-- R240: row 2 for the coded page, the page-list change, row 11 for each page of the run, the summary change of R211. -/
def replaceRun (d : Dev) (i l k fmtNo dom slot spn f : Nat) (run : List PageEnt) (bytes : List Byte) : Dev :=
  let key := bookKey dom (sess d i).model l
  let d := modFrame (writeFrame d f 0 bytes) f fun x => { x with book := bookNo key slot }
  let loc := match frame d f with
    | some x => x.loc
    | none => false
  let d := modPte d spn fun q => { q with tier := .hbm, cmp := true, fmt := fmtNo, at' := f, loc := loc }
  let ent : PageEnt := ⟨spn, (run.head?.map (·.first)).getD 0, SumEnt.none' spn⟩
  let d := modLayer d i l fun x => { x with pages := x.pages.take k ++ ent :: x.pages.drop (k + run.length) }
  let d := dropPages d (run.map (·.spn))
  bump { d with vnt.sumQ := d.vnt.sumQ ++ [⟨i, l, spn, d.tick⟩] } Addr.SNT_ENC_RUN_CNT

/-- RUN_ENCODE on the run that begins at index k of the layer's page list. -/
def runEncode (d : Dev) (i l k : Nat) : Dev :=
  let e := sess d i
  let p := ownerOf d i
  match layerOf d e l, e.layers[l]?, tget d.snt.fmts (mapFmt d e.model l) with
  | some ld, some x, some fm =>
    let dom := bookDomain d p
    let run := slice x.pages k fm.run
    if e.st = .free ∨ d.pwr.fumarole ∨ ld.kind = 2 ∨ fm.kind ≠ 0 ∨ confidential d p ∨ runShape d fm ld x k = false ∨
       (d.snt.retry.any fun r => r.1 == i && r.2.1 == l) ∨ earlierRun d i l k then d
    else match (bookAt d (bookKey dom e.model l)).cur with
      | none => d
      | some slot =>
        if d.reqs.any fun r => r.entry == i && r.layer == l && r.phase != .waiting then d
        else if !(run.all fun q => row28 d q.spn) then bump d Addr.SNT_ENC_ABORT_CNT
        else match badAmong d (run.filterMap fun q => residentFrame d q.spn) with
          | some c => bump (noteUncorrectable d c) Addr.SNT_ENC_ABORT_CNT
          | none =>
            let late := { d with snt.retry := d.snt.retry ++ [(i, l, d.tick + 1024)] }
            match allocFrame d p true (homeStack i l) with
            | .error _ => late
            | .ok (f, d1) => match allocSpn d1 i with
              | .error _ => late
              | .ok (spn, d2) =>
                let r := encodeRun d2 e l (mapFmt d e.model l) dom slot fm ld run
                noteError (replaceRun d2 i l k (mapFmt d e.model l) dom slot spn f run r.1)
                  (bookKey dom e.model l) r.2
  | _, _, _ => d

def execRunEncode (entry layer first : Nat) (s : State) : Host.Outcome State Fault Refusal :=
  serve s (background 6 2 true fun d => runEncode d entry layer first)

/-- CODED_RUN_RETRY (R241): the 1,024 ticks are over and the layer's runs may be encoded again. -/
def codedRunRetry (d : Dev) (i l : Nat) : Dev :=
  { d with snt.retry := d.snt.retry.filter fun r => !(r.1 == i && r.2.1 == l && decide (r.2.2 ≤ d.tick)) }

def execCodedRunRetry (entry layer : Nat) (s : State) : Host.Outcome State Fault Refusal :=
  serve s fun d => codedRunRetry d entry layer

/-! ## Coded recurrent state (R251, R252) -/

/-- Rows of a coded state page. -/
def rowsPerPage (fm : Fmt) (ld : LayerDesc) : Nat := 65472 / (2 + ld.vDim / fm.dv)

/-- A row's bfloat16 scale and codes. -/
def rowBytes (fm : Fmt) (book : List (BitVec 16)) (row : List F32) : List Byte :=
  let sc := rowScale row
  leBytes 2 (narrow fmtB16 sc) ++ codeBytes (encodeVec book fm.dv (row.map fun x => fDiv x sc))

/-- The header of coded state page k. -/
def stateHdr (fm : Fmt) (ld : LayerDesc) (fmtNo slot gen dom model l k : Nat) : CodedHdr :=
  let per := rowsPerPage fm ld
  let total := ld.qh * ld.headDim
  let n := min per (total - k * per)
  { fmt := fmtNo, kind := 1, heads := (k * per + n - 1) / ld.headDim - k * per / ld.headDim + 1, slot := slot,
    first := k * per, count := n, sec := 0, blocks := 0, gen := gen, domain := dom, model := model, layer := l, refs := 0 }

/-- The bytes of every coded state page of a layer. -/
def encodeState (d : Dev) (e : SessEnt) (l fmtNo dom slot : Nat) (fm : Fmt) (ld : LayerDesc) (x : LayerSt) :
    List (List Byte) :=
  let bs := (bookAt d (bookKey dom e.model l)).slot slot
  let rows := (statesOf ld (stateStreamOf d x ld)).flatten
  let per := rowsPerPage fm ld
  (chunks per rows.length rows).zipIdx.map fun (rs, k) =>
    (stateHdr fm ld fmtNo slot bs.gen dom e.model l k).bytes [] ++
      (rs.zipIdx.map fun (r, j) => rowBytes fm ((bs.value[(k * per + j) / ld.headDim]?).getD []) r).flatten

/-- Row 2 for a list of coded pages of layer l of entry i; none where a frame or an SPN cannot be had. -/
def newCoded (d : Dev) (i p l fmtNo no : Nat) : List (List Byte) → Option (List Nat × Dev)
  | [] => some ([], d)
  | b :: r =>
    match allocFrame d p true (homeStack i l) with
    | .error _ => none
    | .ok (f, d1) => match allocSpn d1 i with
      | .error _ => none
      | .ok (spn, d2) =>
        let d3 := modFrame (writeFrame d2 f 0 b) f fun x => { x with book := no }
        let loc := match frame d3 f with
          | some x => x.loc
          | none => false
        let d4 := modPte d3 spn fun q => { q with tier := .hbm, cmp := true, fmt := fmtNo, at' := f, loc := loc }
        match newCoded d4 i p l fmtNo no r with
        | none => none
        | some (ns, d5) => some (spn :: ns, d5)

/-- R251: a park codes the state of layer l of entry i. -/
def codesState (d : Dev) (i l : Nat) : Bool :=
  let e := sess d i
  match layerOf d e l, e.layers[l]?, tget d.snt.fmts (mapFmt d e.model l) with
  | some ld, some x, some fm =>
    ld.kind == 2 && fm.kind == 1 && !confidential d (ownerOf d i) && !x.pages.isEmpty && (x.pages.all fun q => row28 d q.spn) &&
    (badAmong d (x.pages.filterMap fun q => residentFrame d q.spn)).isNone &&
    (bookAt d (bookKey (bookDomain d (ownerOf d i)) e.model l)).cur.isSome
  | _, _, _ => false

/-- R251: a park of entry i waits: it has state to code, and the codec units have no SVC slot for its partition. -/
def codecWaits (d : Dev) (i : Nat) : Bool :=
  ((List.range (sess d i).layers.length).any fun l => codesState d i l) && !svcSlot d .codec (ownerOf d i)

/-- R251: layer l of a session that is being parked: its state pages give way to coded pages, or stay as they are. -/
def stateEncode (d : Dev) (i l : Nat) : Dev :=
  let e := sess d i
  let p := ownerOf d i
  match layerOf d e l, e.layers[l]?, tget d.snt.fmts (mapFmt d e.model l) with
  | some ld, some x, some fm =>
    let dom := bookDomain d p
    if !codesState d i l then d
    else match (bookAt d (bookKey dom e.model l)).cur with
      | none => d
      | some slot =>
        let no := mapFmt d e.model l
        let bs := encodeState d e l no dom slot fm ld x
        match newCoded d i p l no (bookNo (bookKey dom e.model l) slot) bs with
        | none => d
        | some (ns, d1) =>
          let d2 := modLayer d1 i l fun x => { x with pages := ns.map fun n => ⟨n, 0, SumEnt.none' n⟩ }
          bumpBy (dropPages d2 (x.pages.map (·.spn))) Addr.SNT_STATE_ENC_CNT ns.length
  | _, _, _ => d

/-- R249 on coded state page k, and its rows reconstructed (R252). -/
def decodeStatePage (d : Dev) (e : SessEnt) (l : Nat) (ld : LayerDesc) (p : Pte) (k : Nat) : Option (List (List F32)) :=
  let page := readFrame d p.at' 0 65536
  match readHdr page, tget d.snt.fmts p.fmt with
  | some h, some fm =>
    let per := rowsPerPage fm ld
    let want := stateHdr fm ld p.fmt h.slot h.gen h.domain e.model l k
    if fm.kind = 1 ∧ hdrOk d e l (frameOwner d p.at') p.fmt want.first want.count fm h ∧
       h.sec = 0 ∧ h.blocks = 0 ∧ h.refs = 0 ∧ field page 60 4 = crc32c (page.take 60) then
      let bs := (bookAt d (bookKey h.domain h.model h.layer)).slot h.slot
      let w := 2 + ld.vDim / fm.dv
      some ((List.range h.count).map fun j =>
        let row := slice page (64 + j * w) w
        let book := (bs.value[(k * per + j) / ld.headDim]?).getD []
        (decodeVec book fm.dv ((row.drop 2).map (·.toNat))).map (fMul (ofBf16 (field row 0 2))))
    else none
  | _, _ => none

/-- Every coded page of a layer in its order. -/
def decodeStatePages (d : Dev) (e : SessEnt) (l : Nat) (ld : LayerDesc) (pages : List PageEnt) :
    Except Nat (List (List F32)) :=
  pages.zipIdx.foldl (fun acc (q, k) => match acc with
    | .error n => .error n
    | .ok rows => match pte d q.spn with
      | some p => match decodeStatePage d e l ld p k with
        | some rs => .ok (rows ++ rs)
        | none => .error q.spn
      | none => .error q.spn) (.ok [])

/-- New pages of layer l of entry i under rows 1 and 3, with their contents; the layer's list is theirs. -/
def writeStatePages (d : Dev) (i p l : Nat) : List (List Byte) → Res Dev
  | [] => .ok d
  | b :: r =>
    match allocSpn d i with
    | .error e => .error e
    | .ok (n, d1) =>
      let d2 := modLayer d1 i l fun x => { x with pages := x.pages ++ [⟨n, 0, SumEnt.none' n⟩] }
      match writeEvent d2 i p n false with
      | .error e => .error e
      | .ok d3 => writeStatePages (writePage d3 n 0 b) i p l r

/-- STATE_DECODE (R252), in an SVC slot of the codec units: once every coded page of the layer is resident its rows go into new state pages, the layer's
list is restored and each coded page takes row 11; a page that fails R249 ends the thaw (R250). -/
def stateDecode (d : Dev) (spn : Nat) : Dev :=
  match pte d spn with
  | none => d
  | some q =>
    let i := q.owner
    let e := sess d i
    match layerWith e spn with
    | none => d
    | some l => match layerOf d e l, e.layers[l]? with
      | some ld, some x =>
        if q.cmp = false ∨ ld.kind ≠ 2 ∨ !svcSlot d .codec (ownerOf d i) ∨ !(x.pages.all fun p => pageSt d p.spn == .hbm && isCoded d p.spn) then d
        else match badAmong d (x.pages.filterMap fun p => residentFrame d p.spn) with
          | some c =>
            let d := degrade (noteUncorrectable d c) i stUncorr
            (d.reqs.filter fun r => r.entry == i).foldl (fun d r => endReq d r stUncorr []) d
          | none => match decodeStatePages d e l ld x.pages with
            | .error n =>
              let d := degrade (noteDamage d n (ownerOf d i)) i stCodec
              (d.reqs.filter fun r => r.entry == i).foldl (fun d r => endReq d r stCodec []) d
            | .ok rows =>
              let bytes := patBytes ld.elem (rows.flatten.map fun v => narrow (elemFmt ld.elem) v)
              let d1 := modLayer d i l fun x => { x with pages := [] }
              match writeStatePages d1 i (ownerOf d i) l (chunks 65536 bytes.length bytes) with
              | .error _ => d
              | .ok d2 => activate (dropPages d2 (x.pages.map (·.spn))) i
      | _, _ => d

def execStateDecode (spn : Nat) (s : State) : Host.Outcome State Fault Refusal := serve s fun d => stateDecode d spn

def execSinterFormatSet (h : CmdHdr) (fmt kind run dk dv refMax denseKeep rounds : Nat) (s : State) :
    Host.Outcome State Fault Refusal :=
  serve s fun d => sinterFormatSet d h fmt ⟨kind, run, dk, dv, refMax, denseKeep, rounds⟩

def execSinterMapSet (h : CmdHdr) (model : Nat) (map : List Byte) (s : State) : Host.Outcome State Fault Refusal :=
  serve s fun d => sinterMapSet d h model map

end Sys2Proof.Machine
end

