-- ==== Sys2Proof/Machine/Retrieval.lean ====
section
/-!
DEFINITION. Sys2Proof/Machine/Retrieval.lean: vector stores, inserts, deletes, queries and merge rounds (R347 to R378).
-/

namespace Sys2Proof.Machine

/-! ## Stores and handles (R347 to R352) -/

/-- The key of a store: partition × 64 + local number. -/
def storeKey (p l : Nat) : Nat := p * 64 + l

/-- R348. -/
def storeHandle (key gen : Nat) : Nat := key / 64 * 2 ^ 24 + key % 64 * 2 ^ 16 + gen

/-- The generation of a local number; 65,536 stands for a quarantined one (R349). -/
def storeGen (d : Dev) (key : Nat) : Nat := tgetD d.rtv.gens key 0

/-- R349: the key of a live store handle for partition p. -/
def storeLive (d : Dev) (p handle : Nat) : Option (Nat × Store) :=
  let q := bits handle 31 24
  let l := bits handle 23 16
  if q = p ∧ l < (part d p).cfg.rtvStores ∧ handle < 2 ^ 32 then
    match tget d.rtv.stores (storeKey q l) with
    | some s => if s.st = 1 ∧ s.gen = bits handle 15 0 then some (storeKey q l, s) else none
    | none => none
  else none

/-- A store given a value; its frames are objects of the change map (R508). -/
def setStore (d : Dev) (key : Nat) (s : Store) : Dev :=
  s.frames.foldl (fun d f => noteObj d (2 ^ 32 + f)) { d with rtv.stores := tset d.rtv.stores key s }

/-- M of R351. -/
def storeM (p : StoreParams) : Nat := p.dim / p.dsub

/-- Bytes of a rerank vector (R352). -/
def storeVecBytes (p : StoreParams) : Nat := if p.rerankFmt = 0 then p.dim * 2 else p.dim + 4

/-- The regions of R352 in order, in bytes before rounding. -/
def storeRegions (p : StoreParams) : List Nat :=
  [p.capacity * 32, p.capacity * storeM p, p.capacity * storeVecBytes p, p.capacity * p.deg0 * 8,
   ceilDiv p.capacity 4 * (p.deg * 8 + 8), 2 * p.sideMax * 16, storeM p * 256 * p.dsub * 2]

/-- Frames of a store. -/
def storeFrames (p : StoreParams) : Nat := ((storeRegions p).map fun n => ceilDiv n 65536).sum

/-- Frame rows that hold a frame in SPREAD mode (R405, R420). -/
def spreadRows (d : Dev) : List Nat :=
  dedup ((d.pg.frames.filter fun q => q.2.st != .retired && !q.2.loc).map fun q => q.1 / 8)

/-- Free frames for LOC = 1 on stack k. -/
def freeOn (d : Dev) (k : Nat) : Nat :=
  let sp := spreadRows d
  let used := (d.pg.frames.filter fun q => q.1 % 8 == k && !sp.contains (q.1 / 8)).length
  (if d.pwr.fumarole then 49152 else frameRows) - sp.length - used

/-- R405: the stack with the most free frames, ties going to the lower. -/
def roomiest (d : Dev) : Nat :=
  (List.range 8).foldl (fun best k => if freeOn d best < freeOn d k then k else best) 0

/-- n LOC = 1 frames on stack `home` for partition p. -/
def allocHome (d : Dev) (p home : Nat) : Nat → Res (List Nat × Dev)
  | 0 => .ok ([], d)
  | n + 1 =>
    match allocFrame d p true home with
    | .error e => .error e
    | .ok (f, d1) => match allocHome d1 p home n with
      | .error e => .error e
      | .ok (fs, d2) => .ok (f :: fs, d2)

/-- R351: the ranges, each with its field index. -/
def storeParamChecks (p : StoreParams) : List (Bool × Nat) :=
  [(decide (2 < p.metric), stw stParam 7), (decide (1 < p.rerankFmt), stw stParam 8),
   (decide (p.rounds < 1) || decide (15 < p.rounds), stw stParam 9),
   (decide (p.dim < 8) || decide (4096 < p.dim) || p.dim % 8 != 0, stw stParam 10),
   (!([2, 4, 8, 16] : List Nat).contains p.dsub || decide (storeM p < 4) || decide (1024 < storeM p), stw stParam 11),
   (decide (p.deg0 < 16) || decide (128 < p.deg0) || p.deg0 % 8 != 0, stw stParam 12),
   (decide (p.deg < 8) || decide (64 < p.deg) || p.deg % 8 != 0 || decide (p.deg0 < p.deg), stw stParam 13),
   (decide (p.efBuild < 16) || decide (1024 < p.efBuild), stw stParam 15),
   (decide (p.capacity < 1024) || decide (0xFFFFFC00 < p.capacity) || p.capacity % 1024 != 0, stw stParam 16),
   (decide (p.mergeAt < 1024) || decide (p.sideMax < p.mergeAt), stw stParam 17),
   (decide (p.sideMax < 1024) || decide (16777216 < p.sideMax) || decide (p.capacity < p.sideMax), stw stParam 18)]

/-- STORE_CREATE (R347, R351, R352). A local number in use answers ST_RETRY_LATER (log 21). -/
def serveStoreCreate (h : CmdHdr) (l : Nat) (p : StoreParams) (d : Dev) : Dev :=
  let op := 0x0501
  onChannel d h op false fun d =>
    let key := storeKey h.part l
    let used := (d.rtv.stores.map fun s => s.2.p.capacity).sum
    checked d h op ((decide ((part d h.part).cfg.rtvStores ≤ l), stw stParam 6) :: storeParamChecks p) fun d =>
      if (tget d.rtv.stores key).isSome then reply d h op (stw stRetry 0)
      else if 2 ^ 16 ≤ storeGen d key ∨ 2 ^ 32 < used + p.capacity then reply d h op (stw stNoCap 0)
      else
        let home := roomiest d
        match allocHome d h.part home (storeFrames p) with
          | .error e => reply d h op (stw e 0)
          | .ok (fs, d1) =>
            let (salt, d2) := drawNext d1
            let s : Store := { gen := storeGen d key, st := 1, p := p, frames := fs, home := home,
                               levelSalt := salt % 2 ^ 256, nodes := [], side := [], sideVer := 0, other := [], verTick := d.tick, entry := none,
                               book := none, mergeCmd := none }
            replyBody (setStore d2 key s) h op stOk (leBytes 4 (storeHandle key s.gen) ++ leBytes 12 0)

def execStoreCreate (h : CmdHdr) (localNo : Nat) (p : StoreParams) (s : State) : Host.Outcome State Fault Refusal :=
  serve s (serveStoreCreate h localNo p)

/-- A store whose drop has taken effect is gone, with its frames, once its queries have ended (R352). -/
def releaseStore (d : Dev) (key : Nat) : Dev := match tget d.rtv.stores key with
  | some s =>
    if s.st = 2 ∧ ¬ (d.rtv.queries.any fun q => q.key == key) then
      freeFrames { d with rtv.stores := tdel d.rtv.stores key } s.frames
    else d
  | none => d

/-- The store leaves service: its generation moves on, or its local number is quarantined (R349). -/
def retireStore (d : Dev) (key : Nat) (s : Store) : Dev :=
  let d := match s.mergeCmd with
    | some c => reply d c 0x0503 (stw stStale 6)
    | none => d
  let g := if s.gen = 0xFFFF then 2 ^ 16 else s.gen + 1
  let d := { d with rtv.gens := tset d.rtv.gens key g,
                    rtv.stores := tset d.rtv.stores key { s with st := 2, mergeCmd := none } }
  releaseStore d key

/-- STORE_DROP (R349, R352). -/
def serveStoreDrop (h : CmdHdr) (store : Nat) (d : Dev) : Dev :=
  let op := 0x0502
  onChannel d h op false fun d => match storeLive d h.part store with
    | none => reply d h op (stw stStale 6)
    | some (key, s) => reply (retireStore d key s) h op stOk

def execStoreDrop (h : CmdHdr) (store : Nat) (s : State) : Host.Outcome State Fault Refusal :=
  serve s (serveStoreDrop h store)

/-- STORE_MERGE: the store is due, and the reply follows the round (R371, R550). -/
def serveStoreMerge (h : CmdHdr) (store : Nat) (d : Dev) : Dev :=
  let op := 0x0503
  onChannel d h op false fun d => match storeLive d h.part store with
    | none => reply d h op (stw stStale 6)
    | some (key, s) =>
      if s.mergeCmd.isSome then reply d h op (stw stRetry 0)
      else { d with rtv.stores := tset d.rtv.stores key { s with mergeCmd := some h } }

def execStoreMerge (h : CmdHdr) (store : Nat) (s : State) : Host.Outcome State Fault Refusal :=
  serve s (serveStoreMerge h store)

/-! ## Vectors (R355, R356) -/

/-- The binary32 Euclidean norm, formed as R195 forms one. -/
def norm2 (v : List F32) : F32 := fSqrt (v.foldl (fun s x => fFma x x s) 0)

/-- The vector divided by its norm. -/
def unitVec (v : List F32) : List F32 := let n := norm2 v; v.map fun x => fDiv x n

/-- Every component is zero. -/
def zeroVec (v : List F32) : Bool := v.all fun x => (un x).eqv (Fv.int 0)

/-- R356: the scale of a vector's E4M3 form, from its largest absolute component (R183). -/
def rerankScale (v : List F32) : F32 := pow2Scale (v.foldl (fun m x => fMax m (fAbs x)) 0)

/-- The vector as its rerank form with the given scale holds it (R351, R356). -/
def rerankVec (fmt : Nat) (s : F32) (v : List F32) : List F32 :=
  if fmt = 0 then v.map viaBf16 else v.map fun x => fMul s (viaE4m3 (fDiv x s))

/-- Higher is better: the score of R355 from exact vectors. -/
def exactScore (metric : Nat) (q x : List F32) : F32 :=
  if metric = 2 then fNeg (sqDist q x) else dotPlain (q.zip x)

/-- The value that a reply reports (R355). -/
def reported (metric : Nat) (score : F32) : F32 := if metric = 2 then fNeg score else score

/-- R358: one entry of the lookup tables. -/
def tableEntry (metric : Nat) (q cent : List F32) : F32 :=
  if metric = 2 then fNeg (sqDist q cent) else dotPlain (q.zip cent)

/-- R358: the approximate score of a coded vector, summed in increasing subspace. -/
def approxScore (metric dsub : Nat) (book : List (BitVec 16)) (q : List F32) (codes : List Nat) : F32 :=
  codes.zipIdx.foldl (fun a (c, s) =>
    fAdd a (tableEntry metric ((q.drop (s * dsub)).take dsub) (bookCent book dsub s c))) 0

/-- The components of a command as binary32 numbers. -/
def compsOf (l : List (BitVec 16)) : List F32 := l.map fun b => ofBf16 b.toNat

/-! ## Inserts and deletes (R359 to R362) -/

def Node.free (gen : Nat) : Node :=
  { used := false, tomb := false, linked := false, quar := false, pend := false, pendAt := 0, gen := gen, level := 0, insTick := 0,
    delTick := none, user := 0, vec := [], scale := 0, codes := [], edges := [], uppers := [] }

/-- R350. -/
def vidOf (slot gen : Nat) : Nat := slot * 256 + gen

/-- The epoch number in a reply, 5 bytes. -/
def epochBytes (d : Dev) : List Byte := leBytes 5 d.lah.epoch

/-- R360: the lowest slot that is not USED, QUAR or PEND. -/
def freeSlot (s : Store) : Option Nat :=
  let n := lowestFree ((s.nodes.filter fun q => q.2.used || q.2.quar || q.2.pend).map (·.1)) 0
  if n < s.p.capacity then some n else none

/-- R359: the store that an insert or delete that was stamped and is not answered names; 2^32, which no store has, for any other command. -/
def updateStore (op : Nat) (bytes : List Byte) : Nat :=
  if op = 0x0504 ∨ op = 0x0505 then field bytes 16 4 else 2 ^ 32

/-- R359: an insert or delete of the store stamped before `seq` is not answered. -/
def updateWaits (d : Dev) (store seq : Nat) : Bool :=
  (d.host.stamped.any fun t => before t.seq seq && updateStore (field t.bytes 0 2) t.bytes == store) ||
  d.host.taken.any fun t => before t.h.seq seq && match t.cmd with
    | some (.vecInsert _ x _ _ _) => x == store
    | some (.vecDelete _ x _) => x == store
    | _ => false

/-- R359: an insert or delete is served: later than its arrival's tick, in ledger order, in an SVC slot of the engine that admits the
partition. -/
def updateTurn (d : Dev) (h : CmdHdr) (store : Nat) : Bool :=
  decide (h.tick < d.tick) && svcSlot d .adc h.part && !updateWaits d store h.seq

/-- VEC_INSERT (R360, R362). -/
def serveVecInsert (h : CmdHdr) (store count user : Nat) (comps : List (BitVec 16)) (d : Dev) : Dev :=
  let op := 0x0504
  let v := compsOf comps
  if !updateTurn d h store then d
  else onChannel d h op false fun d =>
    checked d h op [(comps.length != count, stw stLen 7), (v.any (fun x => !finite32 x), stw stParam 10)] fun d =>
      match storeLive d h.part store with
      | none => reply d h op (stw stStale 6)
      | some (key, s) =>
        checked d h op
          [(count != s.p.dim, stw stVecDim 7), (s.p.metric == 1 && zeroVec v, stw stParam 10),
           (decide (s.p.sideMax ≤ s.side.length), stw stRetry 0)] fun d =>
          match freeSlot s with
          | none => reply d h op (stw stNoCap 0)
          | some slot =>
            let gen := (tgetD s.nodes slot (Node.free 0)).gen
            let v := if s.p.metric = 1 then unitVec v else v
            let sc := rerankScale v
            let v := rerankVec s.p.rerankFmt sc v
            let codes := match s.book with
              | some b => encodeVec b s.p.dsub v
              | none => []
            let n : Node := { Node.free gen with used := true, insTick := d.tick, user := user, vec := v, scale := sc, codes := codes }
            let d := setStore d key { s with nodes := tset s.nodes slot n, side := s.side ++ [⟨slot, gen, d.tick⟩] }
            bump (replyNextTick d h op stOk (leBytes 8 (vidOf slot gen) ++ epochBytes d ++ leBytes 3 0)) Addr.RTV_INSERT_CNT

def execVecInsert (h : CmdHdr) (store count user : Nat) (comps : List (BitVec 16)) (s : State) :
    Host.Outcome State Fault Refusal := serve s (serveVecInsert h store count user comps)

/-- R361: the slot that a VID names, when it can be deleted. -/
def vidFound (s : Store) (vid : Nat) : Option (Nat × Node) :=
  let slot := vid / 256
  match tget s.nodes slot with
  | some n => if vid < 2 ^ 40 ∧ n.used ∧ n.gen = vid % 256 ∧ n.delTick = none then some (slot, n) else none
  | none => none

/-- VEC_DELETE (R361). -/
def serveVecDelete (h : CmdHdr) (store vid : Nat) (d : Dev) : Dev :=
  let op := 0x0505
  if !updateTurn d h store then d
  else onChannel d h op false fun d => match storeLive d h.part store with
    | none => reply d h op (stw stStale 6)
    | some (key, s) => match vidFound s vid with
      | none => reply d h op (stw stVecNotFound 8)
      | some (slot, n) =>
        let d := setStore d key { s with nodes := tset s.nodes slot { n with delTick := some d.tick, tomb := true } }
        bump (replyNextTick d h op stOk (epochBytes d ++ leBytes 11 0)) Addr.RTV_DELETE_CNT

def execVecDelete (h : CmdHdr) (store vid : Nat) (s : State) : Host.Outcome State Fault Refusal :=
  serve s (serveVecDelete h store vid)

/-! ## Searching (R363 to R368) -/

/-- A scored slot. -/
abbrev Scored := Nat × F32

/-- Decreasing score, ties to the lower slot. -/
def betterEq (a b : Scored) : Bool := fLt b.2 a.2 || (!fLt a.2 b.2 && decide (a.1 ≤ b.1))

def rankScored (l : List Scored) : List Scored := sortBy betterEq l

/-- R363: visibility to a query that started in tick t. -/
def visible (n : Node) (t : Nat) : Bool :=
  n.used && decide (n.insTick < t) && match n.delTick with
    | some x => decide (t ≤ x)
    | none => true

/-- Whether a search may pass through a node, and its score. -/
structure Walk where
  ok : Node → Bool
  score : Node → F32

/-- R365: the followable targets of a node's edge list at a level, and how many edges are stale. -/
def followable (s : Store) (w : Walk) (slot level : Nat) : List (Nat × Node) × Nat :=
  let n := tgetD s.nodes slot (Node.free 0)
  let es := (n.edges[level]?).getD []
  let good := es.filterMap fun e => match tget s.nodes e.1 with
    | some t => if t.used ∧ t.gen = e.2 then some (e.1, t) else none
    | none => none
  (good.filter fun t => w.ok t.2, es.length - good.length)

/-- R368: the beam search: the visited slots, the best `ef` (best first), the expanded ones, the nodes scored, the stale
edges met. It ends with whether the cap stopped it. -/
def beam (s : Store) (w : Walk) (level ef : Nat) :
    Nat → List Nat → List Scored → List Nat → Nat → Nat → List Scored × Nat × Bool
  | 0, _, best, _, _, stale => (best, stale, false)
  | fuel + 1, seen, best, done, scored, stale =>
    if 16 * ef ≤ scored then (best, stale, true)
    else match best.find? fun b => !done.contains b.1 with
      | none => (best, stale, false)
      | some b =>
        let worst := best.getLast?.getD b
        if ef ≤ best.length ∧ ¬ fLt worst.2 b.2 then (best, stale, false)
        else
          let f := followable s w b.1 level
          let new := (f.1.filter fun t => !seen.contains t.1).map fun t => (t.1, w.score t.2)
          let best := (rankScored (best ++ new)).take ef
          beam s w level ef fuel (seen ++ new.map (·.1)) best (b.1 :: done) (scored + new.length) (stale + f.2)

/-- R368: search from a node at a level. -/
def searchFrom (s : Store) (w : Walk) (e level ef : Nat) : List Scored × Nat × Bool :=
  let n := tgetD s.nodes e (Node.free 0)
  beam s w level ef (s.nodes.length + 1) [e] [(e, w.score n)] [] 1 0

/-- R368: greedy moves at a level: the node reached and the stale edges met. -/
def greedy (s : Store) (w : Walk) (level : Nat) : Nat → Nat → Nat → Nat × Nat
  | 0, e, stale => (e, stale)
  | fuel + 1, e, stale =>
    let here := w.score (tgetD s.nodes e (Node.free 0))
    let f := followable s w e level
    match (rankScored (f.1.map fun t => (t.1, w.score t.2))).head? with
    | some b => if fLt here b.2 then greedy s w level fuel b.1 (stale + f.2) else (e, stale + f.2)
    | none => (e, stale + f.2)

/-- Greedy from level `top` down to level `bottom`, `fuel` levels at most. -/
def descend (s : Store) (w : Walk) (bottom : Nat) : Nat → Nat → Nat → Nat → Nat × Nat
  | 0, _, e, stale => (e, stale)
  | fuel + 1, level, e, stale =>
    if level < bottom then (e, stale)
    else
      let r := greedy s w level (s.nodes.length + 1) e stale
      if level = 0 then r else descend s w bottom fuel (level - 1) r.1 r.2

/-- The score of a node for a query vector: approximate where it has codes, exact otherwise. -/
def nodeScore (s : Store) (q : List F32) (n : Node) : F32 := match s.book with
  | some b => approxScore s.p.metric s.p.dsub b q n.codes
  | none => exactScore s.p.metric q n.vec

/-- R367: the results of a query, best first with their exact scores, the stale edges met, and whether the visit cap
stopped a search. -/
def runQuery (s : Store) (side : List SideEnt) (q : QueryParams) (vec : List F32) (t : Nat) :
    List (Nat × Node × F32) × Nat × Bool :=
  let v := if s.p.metric = 1 then unitVec vec else vec
  let w : Walk := { ok := fun n => n.linked, score := nodeScore s v }
  let graph := match s.entry with
    | some e =>
      let top := (tgetD s.nodes e (Node.free 0)).level
      let dn := descend s w 1 16 top e 0
      let r := searchFrom s w dn.1 0 q.ef
      (r.1, dn.2 + r.2.1, r.2.2)
    | none => ([], 0, false)
  let fromSide := (side.filter fun x => decide (x.pubTick < t)).filterMap fun x => match tget s.nodes x.slot with
    | some n => if n.used ∧ n.gen = x.gen then some (x.slot, nodeScore s v n) else none
    | none => none
  let cand := fromSide.foldl (fun acc x => if acc.any fun y => y.1 == x.1 then acc else acc ++ [x]) graph.1
  let keep := cand.filter fun c => match tget s.nodes c.1 with
    | some n => visible n t && n.user &&& q.filtMask == q.filtValue
    | none => false
  let top := (rankScored keep).take q.rerank
  let exact := top.map fun c => (c.1, exactScore s.p.metric v (tgetD s.nodes c.1 (Node.free 0)).vec)
  (((rankScored exact).take q.k).map fun c => (c.1, tgetD s.nodes c.1 (Node.free 0), c.2), graph.2.1, graph.2.2)

/-! ## VEC_QUERY (R366, R367, R369) -/

/-- R367: the clusters of the plan's retrieval Vent pool. -/
def rtvClusters (d : Dev) : List Nat := match d.plan.active with
  | some p => poolClusters d p.rtvPool
  | none => []

/-- R63, R367: the ADC units with an SVC slot in this tick that admits partition p, and that no query holds. -/
def freeAdcs (d : Dev) (p : Nat) : List Nat :=
  let us := ((slotsNow d).filter fun x => x.cls == .svc && x.kind == .adc && slotAdmits x p).map (·.unit)
  (sortBy (fun a b => decide (a ≤ b)) (dedup us)).filter fun u => !(d.rtv.queries.any fun q => match q.place with
    | some (_, v) => v == u
    | none => false)

/-- R72, R367: the query's thread takes the first free context of its pool, in the pool's KERNEL slots, and an ADC unit; with none free
it is offered again. -/
def placeQuery (d : Dev) (seq : Nat) : Dev :=
  match d.rtv.queries.find? fun q => q.cmd.seq == seq with
  | none => d
  | some q =>
    if q.place.isSome || !kernelSlot d (rtvClusters d) q.cmd.part then d
    else match (freeContexts d (rtvClusters d)).head?, (freeAdcs d q.cmd.part).head? with
      | some c, some u => { d with rtv.queries := d.rtv.queries.map fun x =>
          if x.cmd.seq = seq then { x with place := some (ctxKey c, u) } else x }
      | _, _ => d

/-- R375: the side-list version that was current in tick t: its number and its entries. -/
def sideAt (s : Store) (t : Nat) : Nat × List SideEnt :=
  if s.verTick ≤ t then (s.sideVer, s.side) else (s.sideVer - 1, s.other)

/-- VEC_QUERY: the query's thread is launched. -/
def serveVecQuery (h : CmdHdr) (store : Nat) (q : QueryParams) (comps : List (BitVec 16)) (d : Dev) : Dev :=
  let op := 0x0506
  if d.rtv.queries.any fun x => x.cmd == h then placeQuery d h.seq
  else onChannel d h op false fun d =>
    checked d h op
      [(comps.length != q.count, stw stLen 8), (decide (q.k < 1) || decide (1024 < q.k), stw stParam 7),
       (decide (q.ef < q.k) || decide (4096 < q.ef), stw stParam 9),
       (decide (q.rerank < q.k) || decide (4096 < q.rerank), stw stParam 10),
       (decide (4096 < q.deadline), stw stParam 11)] fun d =>
      match storeLive d h.part store with
      | none => reply d h op (stw stStale 6)
      | some (key, s) =>
        checked d h op [(q.count != s.p.dim, stw stVecDim 8)] fun d =>
          let due := h.tick + (if q.deadline = 0 then 64 else q.deadline)
          let v := sideAt s h.tick
          let d := { d with rtv.queries := d.rtv.queries ++
            [{ cmd := h, key := key, gen := s.gen, sideVer := v.1, side := v.2, q := q, vec := compsOf comps, expiry := none,
               place := none }] }
          placeQuery (addTimer d .query due h.seq h.tag) h.seq

def execVecQuery (h : CmdHdr) (store : Nat) (q : QueryParams) (comps : List (BitVec 16)) (s : State) :
    Host.Outcome State Fault Refusal := serve s (serveVecQuery h store q comps)

/-- A query leaves the engine; a dropped store may go with it (R352). -/
def endQuery (d : Dev) (q : Query) : Dev :=
  let d := { d with rtv.queries := d.rtv.queries.filter fun x => x.cmd.seq != q.cmd.seq }
  releaseStore (dropTimer d .query q.cmd.seq) q.key

/-- R369: a query whose expiry was stamped first. -/
def lateQuery (d : Dev) (q : Query) : Dev :=
  bump (reply (endQuery d q) q.cmd 0x0506 (stw stRetry 0)) Addr.RTV_QUERY_LATE_CNT

/-- R369: one result. -/
def resultBytes (metric : Nat) (r : Nat × Node × F32) : List Byte :=
  leBytes 8 (vidOf r.1 r.2.1.gen) ++ leBytes 8 r.2.1.user ++ leBytes 4 (reported metric r.2.2).toNat ++ leBytes 4 0

/-- The completion record of a query is stamped (R369, R77), when its thread runs in the pool's slots. -/
def completeQuery (seq cycle : Nat) (d : Dev) : Dev :=
  let d := placeQuery d seq
  match d.rtv.queries.find? fun q => q.cmd.seq == seq with
  | none => d
  | some q =>
    let p := q.cmd.part
    if q.place.isNone || !kernelSlot d (rtvClusters d) p || !svcSlot d .adc p then d
    else
      let d := stampAt d 17 0x10 0 p q.cmd.tag cycle
      if (expiredAt d .query seq).isSome then lateQuery d q
      else match tget d.rtv.stores q.key with
        | none => reply (endQuery d q) q.cmd 0x0506 (stw stStale 6)
        | some s => match badAmong d s.frames with
          | some c => reply (endQuery (noteUncorrectable d c) q) q.cmd 0x0506 (stw stUncorr 0)
          | none =>
            let r := runQuery s q.side q.q q.vec q.cmd.tick
            let d := bumpBy d Addr.RTV_STALE_EDGES r.2.1
            let d := if r.2.2 then bump d Addr.RTV_VISIT_CAP_CNT else d
            let d := meter (countEvent (bump (endQuery d q) Addr.RTV_QUERY_CNT) p 8 1) p 7 1
            replyBody d q.cmd 0x0506 stOk
              (leBytes 2 r.1.length ++ leBytes 14 0 ++ (r.1.map (resultBytes s.p.metric)).flatten)

def execQueryComplete (seq cycle : Nat) (s : State) : Host.Outcome State Fault Refusal :=
  serve s (completeQuery seq cycle)

/-- The expiry of a query has been stamped and it still runs. -/
def expireQuery (seq : Nat) (d : Dev) : Dev :=
  match d.rtv.queries.find? fun q => q.cmd.seq == seq with
  | some q => if (expiredAt d .query seq).isSome then lateQuery d q else d
  | none => d

def execQueryExpiry (seq : Nat) (s : State) : Host.Outcome State Fault Refusal := serve s (expireQuery seq)

/-! ## Merge rounds (R371 to R375) -/

/-- Published entries of the current side list. -/
def sideFill (s : Store) : Nat := s.side.length

/-- A tombstone older than 65,536 ticks. -/
def oldTomb (d : Dev) (s : Store) : Bool := s.nodes.any fun q => match q.2.delTick with
  | some t => q.2.used && decide (t + 65536 < d.tick)
  | none => false

def storeForced (s : Store) : Bool := s.st == 1 && decide (s.p.sideMax ≤ sideFill s)

def storeDue (d : Dev) (s : Store) : Bool :=
  s.st == 1 && (decide (s.p.mergeAt ≤ sideFill s) || s.mergeCmd.isSome || oldTomb d s || storeForced s)

/-- The store that the next round takes: a forced one first, then the lowest that is due. -/
def nextDue (d : Dev) : Option Nat :=
  match d.rtv.stores.find? fun q => storeForced q.2 with
  | some q => some q.1
  | none => (d.rtv.stores.find? fun q => storeDue d q.2).map (·.1)

/-- R363, R371: the start ticks of the store's queries that run or whose command is not served yet. -/
def openQueries (d : Dev) (key : Nat) (s : Store) : List Nat :=
  let hd := storeHandle key s.gen
  ((d.rtv.queries.filter fun q => q.key == key).map (·.cmd.tick)) ++
  ((d.host.stamped.filter fun t => field t.bytes 0 2 == 0x0506 && field t.bytes 16 4 == hd).map (·.tick)) ++
  (d.host.taken.filterMap fun t => match t.cmd with
    | some (.vecQuery _ x _ _) => if x = hd ∧ !(d.rtv.queries.any fun q => q.cmd == t.h) then some t.h.tick else none
    | _ => none)

/-- R375: some query still reads the side-list version that is not current. -/
def otherRead (d : Dev) (key : Nat) (s : Store) : Bool :=
  (d.rtv.queries.any fun q => q.key == key && q.sideVer != s.sideVer) ||
  (openQueries d key s).any fun t => decide (t < s.verTick)

/-- R371: the horizon. -/
def horizon (d : Dev) (key : Nat) (s : Store) : Nat := (openQueries d key s).foldl min d.tick

/-- R372: trailing zero bits of a 32-bit number. -/
def trailing : Nat → Nat → Nat
  | 0, _ => 0
  | fuel + 1, x => if x % 2 = 1 then 0 else 1 + trailing fuel (x / 2)

/-- R372: the LEVEL of a new node. -/
def levelOf (s : Store) (slot gen : Nat) : Nat :=
  let x := field (sha256 (leBytes 4 slot ++ leBytes 1 gen ++ leBytes 32 s.levelSalt)) 0 4
  min 15 (trailing 32 x / 3)

/-- R352: the upper lists that no node has, of the ⌈CAPACITY ÷ 4⌉ there are: the first k in increasing index (log 21). -/
def freeUppers (s : Store) (k : Nat) : List Nat :=
  let used := (s.nodes.map fun q => q.2.uppers).flatten
  ((List.range (min (used.length + k) (ceilDiv s.p.capacity 4))).filter fun u => !used.contains u).take k

/-- A score between two nodes, from the first one's vector (log 21). -/
def pairScore (s : Store) (a b : Node) : F32 := nodeScore s a.vec b

/-- R372: the pruning rule over candidates in decreasing score to the node. -/
def prune (s : Store) (limit : Nat) (cands : List (Scored × Node)) : List (Nat × Node) :=
  cands.foldl (fun kept c =>
    if limit ≤ kept.length then kept
    else if kept.any fun k => fLt c.1.2 (pairScore s k.2 c.2) then kept else kept ++ [(c.1.1, c.2)]) []

/-- Candidates of node n ranked by their score to it. -/
def rankFor (s : Store) (n : Node) (l : List (Nat × Node)) : List (Scored × Node) :=
  (rankScored (l.map fun c => (c.1, pairScore s n c.2))).filterMap fun c =>
    (tget s.nodes c.1).map fun t => (c, t)

/-- The edge limit of a level. -/
def degree (s : Store) (level : Nat) : Nat := if level = 0 then s.p.deg0 else s.p.deg

/-- A node's edge list at a level replaced. -/
def setEdges (s : Store) (slot level : Nat) (l : List (Nat × Nat)) : Store := match tget s.nodes slot with
  | some n =>
    let es := n.edges ++ List.replicate (level + 1 - n.edges.length) []
    { s with nodes := tset s.nodes slot { n with edges := es.set level l } }
  | none => s

/-- The nodes that a list of edges names now. -/
def edgeNodes (s : Store) (l : List (Nat × Nat)) : List (Nat × Node) :=
  l.filterMap fun e => match tget s.nodes e.1 with
    | some t => if t.used ∧ t.gen = e.2 then some (e.1, t) else none
    | none => none

/-- R372: the reverse edge from `tgt` to the new node; a full list is pruned again. -/
def addReverse (s : Store) (slot level : Nat) (tgt : Nat) : Store :=
  match tget s.nodes tgt, tget s.nodes slot with
  | some t, some n =>
    let old := (t.edges[level]?).getD []
    if old.length < degree s level then setEdges s tgt level (old ++ [(slot, n.gen)])
    else
      let kept := prune s (degree s level) (rankFor s t (edgeNodes s old ++ [(slot, n)]))
      setEdges s tgt level (kept.map fun k => (k.1, k.2.gen))
  | _, _ => s

/-- Linking at the levels from `level` down to 0, from node e: the store, and the searches that the visit cap stopped (R368). -/
def linkLevels (w : Walk) (slot : Nat) : Nat → Store → Nat → Nat → Store × Nat
  | 0, s, _, caps => (s, caps)
  | level + 1, s, e, caps =>
    let r := searchFrom s w e level s.p.efBuild
    let found := r.1
    let cands := found.filterMap fun c => match tget s.nodes c.1 with
      | some t => if w.ok t ∧ c.1 ≠ slot then some (c, t) else none
      | none => none
    let kept := prune s (degree s level) cands
    let s := setEdges s slot level (kept.map fun k => (k.1, k.2.gen))
    let s := kept.foldl (fun s k => addReverse s slot level k.1) s
    let e := (found.head?.map (·.1)).getD e
    linkLevels w slot level s e (caps + b01 r.2.2)

/-- R372: one node linked: the store, and the searches that the visit cap stopped. -/
def linkNode (t : Nat) (acc : Store × Nat) (slot : Nat) : Store × Nat :=
  let s := acc.1
  match tget s.nodes slot with
  | none => acc
  | some n =>
    let ups := freeUppers s (levelOf s slot n.gen)
    let level := ups.length
    let w : Walk := { ok := fun x => x.linked && match x.delTick with
                        | some y => decide (t ≤ y)
                        | none => true
                      score := nodeScore s n.vec }
    let s := { s with nodes := tset s.nodes slot { n with level := level, uppers := ups, edges := List.replicate (level + 1) [] } }
    let r := match s.entry with
      | some e =>
        let top := (tgetD s.nodes e (Node.free 0)).level
        let dn := descend s w (level + 1) 16 top e 0
        linkLevels w slot (min level top + 1) s dn.1 acc.2
      | none => (s, acc.2)
    let s := { r.1 with nodes := tmod r.1.nodes slot fun x => { x with linked := true } }
    match s.entry with
    | none => ({ s with entry := some slot }, r.2)
    | some e => (if (tgetD s.nodes e (Node.free 0)).level < level then { s with entry := some slot } else s, r.2)

/-- R373: one edge list of the node in `slot` with its edges to stripped nodes replaced. -/
def stripList (s : Store) (gone : Nat → Bool) (slot : Nat) (n : Node) (level : Nat) (l : List (Nat × Nat)) : List (Nat × Nat) :=
  if l.any fun e => gone e.1 then
    let own := (edgeNodes s l).filter fun e => !gone e.1
    let theirs := ((edgeNodes s l).filter fun e => gone e.1).map fun x =>
      (edgeNodes s ((x.2.edges[level]?).getD [])).filter fun e => !gone e.1 && e.1 != slot
    let cands := (own ++ theirs.flatten).foldl (fun acc c => if acc.any fun a => a.1 == c.1 then acc else acc ++ [c]) []
    (prune s (degree s level) (rankFor s n cands)).map fun k => (k.1, k.2.gen)
  else l

/-- R373: every edge list read once, and the entry node chosen again when it is stripped. -/
def stripNodes (s : Store) (gone : Nat → Bool) : Store :=
  let nodes := s.nodes.map fun q => (q.1, if q.2.linked && !gone q.1 then
    { q.2 with edges := q.2.edges.zipIdx.map fun (l, k) => stripList s gone q.1 q.2 k l }
    else q.2)
  let s' := { s with nodes := nodes }
  match s.entry with
  | some e =>
    if gone e then
      let best := (nodes.filter fun q => q.2.linked && !gone q.1).foldl (fun (b : Option (Nat × Node)) q => match b with
        | some x => if x.2.level < q.2.level then some q else b
        | none => some q) none
      { s' with entry := best.map (·.1) }
    else s'
  | none => s'

/-- R374: a slot freed by a round that started in tick t: its next generation with PEND, or quarantined. -/
def freeNode (t : Nat) (n : Node) : Node :=
  if n.gen = 0xFF then { Node.free 0xFF with quar := true } else { Node.free (n.gen + 1) with pend := true, pendAt := t }

/-- The codebook, when there is none: built over the published side-list vectors (R357), with every USED slot coded. -/
def buildStoreBook (s : Store) : Store :=
  let vecs := (s.side.take 65536).filterMap fun x => (tget s.nodes x.slot).map (·.vec)
  let b := buildBook s.p.dsub s.p.rounds vecs
  { s with book := some b,
           nodes := tmap (fun n => if n.used then { n with codes := encodeVec b s.p.dsub n.vec } else n) s.nodes }

/-- Steps 2 to 4 of R371 with start tick t and horizon hz: the store, the slots quarantined, and the searches that the visit cap
stopped. -/
def mergeStore (s : Store) (t hz : Nat) : Store × Nat × Nat :=
  let batch := s.side.filter fun x => decide (x.pubTick < t) && match tget s.nodes x.slot with
    | some n => !n.tomb
    | none => false
  let lk := batch.foldl (fun acc x => linkNode t acc x.slot) (s, 0)
  let s := lk.1
  let dead := fun n : Node => match n.delTick with
    | some x => decide (x < hz)
    | none => false
  let gone := fun slot => match tget s.nodes slot with
    | some n => n.linked && dead n
    | none => false
  let s := stripNodes s gone
  let freed := fun slot => gone slot || (s.side.any fun x => x.slot == slot && match tget s.nodes slot with
    | some n => n.tomb && dead n
    | none => false)
  let q := (s.nodes.filter fun n => freed n.1 && n.2.gen == 0xFF).length
  let rest := s.side.filter fun x => !freed x.slot && match tget s.nodes x.slot with
    | some n => !n.linked
    | none => false
  ({ s with nodes := s.nodes.map fun n => (n.1, if freed n.1 then freeNode t n.2 else n.2), side := rest,
            sideVer := s.sideVer + 1, other := s.side, verTick := t }, q, lk.2)

/-- A round of the store at `key` (R371); one that meets an uncorrectable codeword of the store ends there (R427). -/
def mergeRound (key : Nat) (d : Dev) : Dev :=
  if nextDue d ≠ some key ∨ d.pwr.fumarole then d
  else match tget d.rtv.stores key with
    | none => d
    | some s =>
      -- R375: the other side-list version still has a reader; R660: the job waits for the migration
      if otherRead d key s || s.frames.any (inWindow d) then d
      else match badAmong d s.frames with
      | some c =>
        let d := setStore (noteUncorrectable d c) key { s with mergeCmd := none }
        match s.mergeCmd with
        | some h => reply d h 0x0503 (stw stUncorr 0)
        | none => d
      | none =>
      if s.book.isNone ∧ sideFill s < 256 then
        match s.mergeCmd with
        | some c => reply { d with rtv.stores := tset d.rtv.stores key { s with mergeCmd := none } } c 0x0503
                      (stw stRetry 0)
        | none => d
      else
        let hz := horizon d key s
        let r := mergeStore (if s.book.isNone then buildStoreBook s else s) d.tick hz
        let d := setStore d key { r.1 with mergeCmd := none }
        let d := bumpBy (bumpBy (bump d Addr.RTV_MERGE_ROUND_CNT) Addr.RTV_SLOT_QUAR_CNT r.2.1) Addr.RTV_VISIT_CAP_CNT r.2.2
        match s.mergeCmd with
        | some c => reply d c 0x0503 stOk
        | none => d

def execMergeRound (store : Nat) (s : State) : Host.Outcome State Fault Refusal :=
  serve s (background 5 2 true (mergeRound store))

/-- R374: a query of the store that started before tick t is running. -/
def olderQuery (d : Dev) (key : Nat) (s : Store) (t : Nat) : Bool := (openQueries d key s).any fun x => decide (x < t)

/-- R374: PEND of each slot is cleared once no query that started before the round that freed it is running. -/
def clearPend (key : Nat) (d : Dev) : Dev := match tget d.rtv.stores key with
  | none => d
  | some s => setStore d key { s with nodes := tmap (fun n => { n with pend := n.pend && olderQuery d key s n.pendAt }) s.nodes }

def execPendClear (store : Nat) (s : State) : Host.Outcome State Fault Refusal := serve s (clearPend store)

/-! ## A store's bytes (R352 to R354), as the object view of R387 reads them -/

/-- A node header (R353). -/
def headerBytes (n : Node) : List Byte :=
  leBytes 1 (b01 n.used + 2 * b01 n.tomb + 4 * b01 n.linked + 8 * b01 n.quar + 16 * b01 n.pend) ++ leBytes 1 n.gen ++
  leBytes 1 n.level ++ leBytes 1 0 ++ leBytes 4 (n.uppers.headD 0xFFFFFFFF) ++ leBytes 8 n.insTick ++
  leBytes 8 (n.delTick.getD 0xFFFFFFFFFFFFFFFF) ++ leBytes 8 n.user

/-- R350: an edge word. -/
def edgeWord (e : Nat × Nat) : List Byte := leBytes 8 (2 ^ 63 + vidOf e.1 e.2)

/-- The bytes of a slot's rerank vector; those of E4M3 follow its scale (log 21). -/
def rerankBytes (p : StoreParams) (n : Node) : List Byte :=
  if p.rerankFmt = 0 then (n.vec.map fun x => leBytes 2 (narrow fmtB16 x)).flatten
  else leBytes 4 n.scale.toNat ++ (n.vec.map fun x => leBytes 1 (narrow fmtE4 (fDiv x n.scale))).flatten

/-- An upper list (R352, R353): DEG edge words of the node and level that have it, and NEXT. -/
def upperList (s : Store) (u : Nat) : List Byte :=
  match s.nodes.find? fun q => q.2.uppers.contains u with
  | some q =>
    let j := q.2.uppers.idxOf u
    fitTo (s.p.deg * 8) (((q.2.edges[j + 1]?).getD []).map edgeWord).flatten ++ leBytes 8 ((q.2.uppers[j + 1]?).getD 0xFFFFFFFFFFFFFFFF)
  | none => []

/-- A side-list entry (R354). -/
def sideBytes (x : Option SideEnt) : List Byte := match x with
  | some x => leBytes 4 x.slot ++ leBytes 1 x.gen ++ leBytes 1 1 ++ leBytes 2 0 ++ leBytes 8 x.pubTick
  | none => []

/-- `n` bytes from offset o of a run of cells of `size` bytes each. -/
def cellBytes (size : Nat) (f : Nat → List Byte) (o n : Nat) : List Byte :=
  let k := o / size
  ((((List.range (n / size + 2)).map fun i => fitTo size (f (k + i))).flatten).drop (o % size)).take n

/-- `n` bytes of a store's region r at offset o within it (R352). -/
def regionBytes (s : Store) (r o n : Nat) : List Byte :=
  let node := fun k => tgetD s.nodes k (Node.free 0)
  match r with
  | 0 => cellBytes 32 (fun k => headerBytes (node k)) o n
  | 1 => cellBytes (storeM s.p) (fun k => (node k).codes.map (BitVec.ofNat 8)) o n
  | 2 => cellBytes (storeVecBytes s.p) (fun k => rerankBytes s.p (node k)) o n
  | 3 => cellBytes (s.p.deg0 * 8) (fun k => (((node k).edges[0]?).getD [] |>.map edgeWord).flatten) o n
  | 4 => cellBytes (s.p.deg * 8 + 8) (upperList s) o n
  | 5 => cellBytes 16 (fun k => sideBytes ((if k / s.p.sideMax % 2 = s.sideVer % 2 then s.side else s.other)[k % s.p.sideMax]?)) o n
  | _ => ((s.book.getD []).map fun b => leBytes 2 b.toNat).flatten.drop o |>.take n

/-- The region of a store's frame and the offset in it of the frame's byte o. -/
def regionOf : List Nat → Nat → Nat → Nat → Nat × Nat
  | [], r, f, o => (r, f * 65536 + o)
  | n :: rest, r, f, o => if f < ceilDiv n 65536 then (r, f * 65536 + o) else regionOf rest (r + 1) (f - ceilDiv n 65536) o

/-- n bytes of frame `f` of a store, padded with the zeros that an unwritten place holds. -/
def storeBytes (s : Store) (f o n : Nat) : List Byte :=
  let r := regionOf (storeRegions s.p) 0 f o
  let l := regionBytes s r.1 r.2 n
  l ++ List.replicate (n - l.length) 0

end Sys2Proof.Machine
end

