-- ==== Sys2Proof/Machine/Views.lean ====
section
/-!
DEFINITION. Sys2Proof/Machine/Views.lean: the bytes of the frames that hold the session space's own structures: page table
entries (R99, R100), page frame table entries (R104), Tephra descriptors (R105), directories and page lists (R101), control
pages (R88), page summaries (R207, R208) and prefix tables (R260, R264). The structures stand in State as data; their frames
read as these bytes (log 23).
-/

namespace Sys2Proof.Machine

/-! ## Entries -/

/-- TIER (R100). -/
def Tier.code : Tier → Nat
  | .hbm => 0
  | .tephra => 1
  | .inFlight => 2
  | .never => 3

/-- STATE of a frame (R104). -/
def FrameSt.code : FrameSt → Nat
  | .free => 0
  | .valid => 1
  | .incoming => 2
  | .outgoing => 3
  | .reserve => 4
  | .retired => 5

/-- STATE of a Tephra descriptor (R105). -/
def DescSt.code : DescSt → Nat
  | .free => 0
  | .valid => 1
  | .incoming => 2
  | .lost => 3

/-- R100: the 64 bits of a page table entry; an SPN that is not allocated has V clear. -/
def pteWord : Option Pte → Nat
  | none => 0
  | some q => 2 ^ 63 + q.tier.code * 2 ^ 61 + b01 q.cmp * 2 ^ 60 + b01 q.snap * 2 ^ 59 + b01 q.shr * 2 ^ 58 +
      b01 q.raw * 2 ^ 57 + b01 q.loc * 2 ^ 56 + q.fmt % 16 * 2 ^ 52 + q.at' % 2 ^ 48

/-- R104: the 128 bits of a page frame table entry. -/
def frameWord : Option Frame → Nat
  | none => 0
  | some x => x.refcnt % 2 ^ 24 * 2 ^ 104 + x.st.code * 2 ^ 101 + b01 x.tv * 2 ^ 100 + b01 x.void * 2 ^ 99 +
      x.own % 256 * 2 ^ 88 + x.twin % 2 ^ 40 * 2 ^ 48 + x.move % 2 ^ 20 * 2 ^ 28

/-- R105: the 64 bits of a Tephra descriptor. -/
def descWord : Option Desc → Nat
  | none => 0
  | some x => x.refcnt % 2 ^ 24 * 2 ^ 40 + x.st.code * 2 ^ 37 + b01 x.tv * 2 ^ 36 + x.twin % 2 ^ 23 * 2 ^ 13 +
      x.own % 256 * 2 ^ 5

/-- R101: the HBM address of the byte of entry e's packed metadata pages at this place (log 23). -/
def metaAddress (d : Dev) (e : SessEnt) (place : Nat) : Nat := match nth (e.dirSpn :: e.metaSpns) (place / 65536) with
  | some spn => match pageFrame d spn with
    | some f => frameBase f + place % 65536
    | none => 0
  | none => 0

/-- R101: a directory entry: the address of the layer's page list, its count and the SPN of the tail page, in that order and
8, 4 and 4 bytes long (log 23). -/
def dirEntry (d : Dev) (e : SessEnt) (l : Nat) : List Byte := match nth e.layers l with
  | some x => leBytes 8 (metaAddress d e (listPlace e l)) ++ leBytes 4 x.pages.length ++
      leBytes 4 ((x.pages.getLast?.map (·.spn)).getD 0)
  | none => leBytes 16 0

/-- R101: a page list entry. -/
def listEntry (p : PageEnt) : List Byte := leBytes 4 p.spn ++ leBytes 4 p.first

/-- R208: a summary entry that names page `spn`. -/
def sumEntry (spn : Nat) (se : SumEnt) : List Byte :=
  padTo 64 (leBytes 1 (b01 se.valid) ++ leBytes 3 0 ++ leBytes 4 spn ++ leBytes 4 se.posCount ++ leBytes 4 0 ++
    (se.heads.map fun h => leBytes 4 h.scale.toNat ++ h.lo ++ h.hi).flatten)

/-- An empty way of a prefix table. -/
def PfxEnt.free : PfxEnt := { valid := false, key := [], blocks := 0, hlen := 0, holder := 0, lastUse := 0, uses := 0 }

/-- The eight ways of a bucket. -/
def waysOf (t : PfxTable) (b : Nat) : List PfxEnt := tgetD t.ways b (List.replicate 8 PfxEnt.free)

/-- R264: a prefix table entry. -/
def pfxEntry (e : PfxEnt) : List Byte :=
  fillTo 16 e.key ++ leBytes 2 e.blocks ++ leBytes 1 (b01 e.valid) ++ leBytes 1 0 ++ leBytes 4 e.hlen ++ leBytes 8 e.holder ++
  leBytes 8 e.lastUse ++ leBytes 4 e.uses ++ leBytes 20 0

/-! ## Frames -/

/-- R101: the packed directory and page lists of entry e, byte by byte of 8 bytes each: a directory entry is two of them. -/
def metaEntry (d : Dev) (e : SessEnt) (k : Nat) : List Byte :=
  let n := e.layers.length
  if k < 2 * n then slice (dirEntry d e (k / 2)) (8 * (k % 2)) 8
  else match nth (e.layers.map (·.pages)).flatten (k - 2 * n) with
    | some p => listEntry p
    | none => leBytes 8 0

/-- R207, R208: entry k of a layer's summary array. -/
def sumAt (x : LayerSt) (k : Nat) : List Byte := match nth x.pages k with
  | some p => sumEntry p.sum.spn p.sum
  | none => []

/-- What the bytes of a metadata, control or summary page are; none for a key-value or state page. -/
def pageView (d : Dev) (e : SessEnt) (spn o n : Nat) : Option (List Byte) :=
  match (e.dirSpn :: e.metaSpns).idxOf? spn with
  | some k => some (cellBytes 8 (metaEntry d e) (65536 * k + o) n)
  | none =>
    if spn = e.ctrlSpn then some (slice (fillTo 65536 (Config.ctrlBytes e.ctrl)) o n)
    else e.layers.zipIdx.findSome? fun (x, l) => match x.sumSpns.idxOf? spn, layerOf d e l with
      | some k, some ld =>
        let z := sumStride ld
        some (cellBytes z (fun j => if j < sumPerPage ld then sumAt x (k * sumPerPage ld + j) else []) o n)
      | _, _ => none

/-- The bytes [o, o + n) of frame f where it holds a structure of the session space. -/
def structBytes (d : Dev) (f o n : Nat) : Option (List Byte) :=
  match d.pg.blocks.findSome? fun q => (q.2.idxOf? f).map fun k => q.1 * 65536 + k * 8192 with
  | some base => some (cellBytes 8 (fun j => leBytes 8 (pteWord (pte d (base + j)))) o n)
  | none => match d.pfx.tables.findSome? fun q => (q.2.frames.idxOf? f).map fun k => (q.2, k * 1024) with
    | some (t, base) => some (cellBytes 64 (fun j =>
        pfxEntry ((nth (waysOf t ((base + j) / 8)) ((base + j) % 8)).getD PfxEnt.free)) o n)
    | none => match d.pg.ptes.find? fun q => q.2.tier == .hbm && q.2.at' == f with
      | some q => pageView d (sess d q.2.owner) q.1 o n
      | none => none

/-- The bytes [o, o + n) of frame f as a memory view reads them. -/
def viewFrame (d : Dev) (f o n : Nat) : List Byte := (structBytes d f o n).getD (readFrame d f o n)

end Sys2Proof.Machine
end

