-- ==== Sys2Proof/Machine/Vent.lean ====
section
/-!
DEFINITION. Sys2Proof/Machine/Vent.lean: the Vent instruction set on Vent and Mudpot contexts, write grants, packages and
launches (R379 to R413). A row names the context and the decoded instruction: the spec gives the instruction formats and
no func numbers (log 9).
-/

namespace Sys2Proof.Machine

/-! ## Contexts and registers (R379, R382) -/

def setCtx (d : Dev) (c : CtxId) (x : VCtx) : Dev := { d with vnt.ctxs := tset d.vnt.ctxs (ctxKey c) x }

/-- R382: g0 reads as zero. -/
def gget (x : VCtx) (r : Nat) : VReg := if r = 0 then 0 else (x.regs[r]?).getD 0

/-- R382: writes to g0 are discarded. -/
def gset (x : VCtx) (r : Nat) (v : VReg) : VCtx := if r = 0 then x else { x with regs := x.regs.set r v }

/-- Vector register vk is the pair g2k (low half), g2k+1. -/
def vget (x : VCtx) (k : Nat) : BitVec 128 := gget x (2 * k + 1) ++ gget x (2 * k)
def vset (x : VCtx) (k : Nat) (v : BitVec 128) : VCtx :=
  gset (gset x (2 * k) (v.extractLsb' 0 64)) (2 * k + 1) (v.extractLsb' 64 64)

def launchOf (d : Dev) (seq : Nat) : Option Launch := d.vnt.launches.find? fun l => l.cmd.seq == seq
def modLaunch (d : Dev) (seq : Nat) (f : Launch → Launch) : Dev :=
  { d with vnt.launches := d.vnt.launches.map fun l => if l.cmd.seq = seq then f l else l }

/-- Package p; one that nothing loaded is EMPTY. -/
def Pkg.empty : Pkg :=
  { img := Image.empty, target := 0, objects := false, device := false, codeLen := 0, entry := 0, arenaBytes := 0,
    pages := 0, maxCtx := 0, budget := 0, kpages := [] }
def pkg (d : Dev) (p : Nat) : Pkg := tgetD d.vnt.pkgs p Pkg.empty
def setPkg (d : Dev) (p : Nat) (x : Pkg) : Dev := { d with vnt.pkgs := tset d.vnt.pkgs p x }

/-- The package that a context's thread runs. -/
def pkgOf (d : Dev) (x : VCtx) : Nat × Pkg := match launchOf d x.launch with
  | some l => (l.d.package, pkg d l.d.package)
  | none => (0, Pkg.empty)

/-! ## The end of a thread (R396, R397, R408) -/

/-- The status of a launch with a fault (R397). -/
def faultStatus (f : Nat) : Nat := match f with
  | 0 => stOk
  | 1 => stw stOpcode 0
  | 2 => stw stPrivilege 0
  | 3 => stw stParam 0
  | 4 => stw stStale 0
  | 6 => stw stUncorr 0
  | n => stw stInternal n

/-- The thread of context c ends with a fault, or normally with 0: its completion is stamped, its context is free and its
grants end. An expiry stamped before the end makes it BUDGET (R396). -/
def endThread (d : Dev) (c : CtxId) (fault : Nat) : Dev := match ctxOf d c with
  | none => d
  | some x =>
    let fault := if (expiredAt d .budget x.launch).isSome then 7 else fault
    let tag := match launchOf d x.launch with
      | some l => l.d.tag
      | none => 0
    let d := workDone d (if c.mudpot then 20 else 19) (faultStatus fault) 0 tag
    let d := { d with vnt.ctxs := tdel d.vnt.ctxs (ctxKey c), vnt.grants := d.vnt.grants.filter fun g => g.ctx != c }
    let d := modLaunch d x.launch fun l =>
      let l := { l with live := l.live - 1 }
      if fault = 0 then l
      else if l.fault = 0 then { l with faulted := l.faulted + 1, fault := fault, firstThread := x.thread, pc := x.pc }
      else { l with faulted := l.faulted + 1 }
    if fault = 0 then d
    else if fault = 7 then bump (bump d Addr.VNT_FAULT_CNT) Addr.VNT_BUDGET_CNT
    else bump d Addr.VNT_FAULT_CNT

/-! ## Issue (R379, R380, R383 to R386) -/

/-- Contexts of a core (R379, R399), and the number of its core among all. -/
def ctxCount (c : CtxId) : Nat := if c.mudpot then 4 else 16
def coreNo (c : CtxId) : Nat := if c.mudpot then 4096 + c.core else c.core


/-- R73, R411, R412: the context's core issues in this tick: a Vent core in a KERNEL slot of its thread's pool, an operator core in
its share of page-summary upkeep. -/
def coreSlot (d : Dev) (c : CtxId) (x : VCtx) : Bool :=
  if c.mudpot then operatorSlot d (c.core / 32)
  else match launchOf d x.launch with
    | some l => kernelSlot d ((poolClusters d l.d.pool).filter fun k => k == c.core / 64) l.d.partition
    | none => false

/-- R380: the context is ready, in a slot of its core. -/
def ctxIssues (d : Dev) (c : CtxId) : Bool := match ctxOf d c with
  | some x => x.wait.isNone && coreSlot d c x
  | none => false

/-- R380: context c is the one from which its core issues: the one that issued last, while it is ready, and after a wait the first
ready one behind it, wrapping. -/
def ctxTurn (d : Dev) (c : CtxId) : Bool :=
  ((List.range (ctxCount c)).map fun i => (tgetD d.vnt.turn (coreNo c) 0 + i) % (ctxCount c)).find? (fun j => ctxIssues d { c with ctx := j }) ==
    some c.ctx

/-- The core looks next at this context, or, when the instruction waits, at the one behind it. -/
def turnTo (d : Dev) (c : CtxId) (waits : Bool) : Dev :=
  { d with vnt.turn := tset d.vnt.turn (coreNo c) (if waits then (c.ctx + 1) % (ctxCount c) else c.ctx) }

/-- R385, R386, R400: the word at a thread's program counter, in the package's image, or in the core's scratch. -/
def codeWord (d : Dev) (c : CtxId) (x : VCtx) : Nat :=
  if c.mudpot then leNat (Memory.readBytes d.vnt.arena (2 ^ 32 + c.core * 65536 + x.pc) 4)
  else leNat (imageBytes d (pkgOf d x).2.img (64 + x.pc) 4)

/-- R383, R384: an instruction that a row gives: whether it waits (R380), and whether a word can be it. -/
structure VRow where
  waits : Bool
  fits : Nat → Bool

/-- R384: the word's major opcode lies in the class. -/
def inClass (lo hi w : Nat) : Bool := decide (lo ≤ w / 2 ^ 26) && decide (w / 2 ^ 26 ≤ hi)

/-- R384: the major opcodes of no class. -/
def noClass (w : Nat) : Bool := inClass 0x24 0x27 w || inClass 0x34 0x3B w || decide (2 ^ 32 ≤ w)

/-- R383: the fields of the formats RR, RI and MEM. -/
def fitsRR (rd rs1 rs2 w : Nat) : Bool := bits w 25 21 == rd && bits w 20 16 == rs1 && bits w 15 11 == rs2
def fitsRI (rd rs1 : Nat) (imm : BitVec 16) (w : Nat) : Bool := bits w 25 21 == rd && bits w 20 16 == rs1 && bits w 15 0 == imm.toNat

/-- A word of the class, or for the illegal instruction also one of no class. -/
def fitsClass (lo hi : Nat) (illegal : Bool) (f : Nat → Bool) (w : Nat) : Bool :=
  if illegal then inClass lo hi w || noClass w else inClass lo hi w && f w

/-- An instruction of context c: nothing while the context has no thread or waits, its core has no slot, or it is another context's
turn; a fetch outside the code view faults with VIEW, one off a multiple of 4 with ALIGN; nothing when the word there cannot be the
row's instruction (log 9). -/
def issue (d : Dev) (c : CtxId) (r : VRow) (k : Dev → VCtx → Dev) : Dev := match ctxOf d c with
  | none => d
  | some x =>
    if x.wait.isSome ∨ !coreSlot d c x ∨ !ctxTurn d c then d
    else if (pkgOf d x).2.codeLen ≤ x.pc then endThread d c 2
    else if x.pc % 4 ≠ 0 then endThread d c 3
    else if !r.fits (codeWord d c x) then d
    else k (turnTo d c r.waits) x

/-- The context after an instruction that falls through. -/
def fallThrough (x : VCtx) : VCtx := { x with pc := x.pc + 4 }

/-- The result register written and the next instruction reached. -/
def retire (d : Dev) (c : CtxId) (x : VCtx) (r : Nat) (v : VReg) : Dev := setCtx d c (fallThrough (gset x r v))

/-- The context waits (R380). -/
def hold (d : Dev) (c : CtxId) (x : VCtx) (w : VWait) : Dev := setCtx d c { fallThrough x with wait := some w }

/-! ## Integer class -/

/-- The second operand: a register, or the signed 16-bit immediate (R383). -/
def src2 (x : VCtx) : Src2 → VReg
  | .reg r => gget x r
  | .imm i => i.signExtend 64

/-- The result of an integer operation other than division. -/
def intResult (op : IntOp) (a b : VReg) (imm : BitVec 16) : VReg := match op with
  | .add => a + b
  | .sub => a - b
  | .mul => a * b
  | .and => a &&& b
  | .or => a ||| b
  | .xor => a ^^^ b
  | .shl => if b.toNat < 64 then a <<< b.toNat else Config.bigShift 0 a b
  | .shr => if b.toNat < 64 then a >>> b.toNat else Config.bigShift 1 a b
  | .sar => if b.toNat < 64 then a.sshiftRight b.toNat else Config.bigShift 2 a b
  | .setLt => if a.slt b then 1 else 0
  | .setLtu => if a.ult b then 1 else 0
  | .setEq => if a = b then 1 else 0
  | .setNe => if a = b then 0 else 1
  | .loadUpper => Config.loadUpper imm a
  | .div | .rem | .illegal => 0

/-- R18: division truncates toward zero, and the remainder goes with it. -/
def divResult (op : IntOp) (a b : VReg) : VReg := match op with
  | .div => a.sdiv b
  | _ => a.srem b

/-- R383, R384: the words of an integer instruction. A division waits (R380). -/
def rowInteger (op : IntOp) (rd rs1 : Nat) (b : Src2) : VRow :=
  ⟨op == .div || op == .rem, fitsClass 0 0x0F (op == .illegal) fun w => match b with
    | .reg r => fitsRR rd rs1 r w
    | .imm i => fitsRI rd rs1 i w⟩

def ventInteger (c : CtxId) (op : IntOp) (rd rs1 : Nat) (b : Src2) (d : Dev) : Dev :=
  issue d c (rowInteger op rd rs1 b) fun d x =>
    let v := src2 x b
    let imm := match b with
      | .imm i => i
      | .reg _ => 0
    match op with
    | .illegal => endThread d c 1
    | .div | .rem => if v = 0 then endThread d c 8 else hold d c x (.result rd (divResult op (gget x rs1) v))
    | _ => retire d c x rd (intResult op (gget x rs1) v imm)

def execVentInteger (c : CtxId) (op : IntOp) (rd rs1 : Nat) (b : Src2) (s : State) : Host.Outcome State Fault Refusal :=
  serve s (ventInteger c op rd rs1 b)

/-! ## Control class -/

/-- Where a displacement of `disp` instructions leads. An address below the view stands beyond it. -/
def branchTo (pc : Nat) (disp : Int) : Nat :=
  let t := (pc : Int) + 4 * disp + (if Config.dispNext then 4 else 0)
  if t < 0 then 2 ^ 60 else t.toNat

/-- A register jump's target: an address of the code view, or one beyond it. -/
def jumpTo (v : VReg) : Nat := if v.toNat / 2 ^ 60 = 1 then v.toNat % 2 ^ 60 else 2 ^ 60

/-- Whether a conditional branch is taken. -/
def taken (op : CtlOp) (a b : VReg) : Bool := match op with
  | .beq => a == b
  | .bne => a != b
  | .blt => a.slt b
  | .bge => !a.slt b
  | .bltu => a.ult b
  | .bgeu => !a.ult b
  | _ => true

/-- R383, R384: the words of a control instruction: BR, or J, or a register jump with its register in the first field (log 9). -/
def rowControl (op : CtlOp) (rs1 rs2 : Nat) (disp : Int) : VRow :=
  ⟨false, fitsClass 0x10 0x17 (op == .illegal) fun w => match op with
    | .jump | .jumpLink => bits w 25 0 == (disp % 2 ^ 26).toNat
    | .jumpReg => bits w 25 21 == rs1
    | _ => bits w 25 21 == rs1 && bits w 20 16 == rs2 && bits w 15 0 == (disp % 2 ^ 16).toNat⟩

def ventControl (c : CtxId) (op : CtlOp) (rs1 rs2 : Nat) (disp : Int) (d : Dev) : Dev :=
  issue d c (rowControl op rs1 rs2 disp) fun d x => match op with
    | .illegal => endThread d c 1
    | .jumpReg => setCtx d c { x with pc := jumpTo (gget x rs1) }
    | .jumpLink =>
      let x' := gset x (Config.linkReg % 32) (BitVec.ofNat 64 (2 ^ 60 + x.pc + 4))
      setCtx d c { x' with pc := branchTo x.pc disp }
    | .jump => setCtx d c { x with pc := branchTo x.pc disp }
    | _ => setCtx d c { x with pc := if taken op (gget x rs1) (gget x rs2) then branchTo x.pc disp else x.pc + 4 }

def execVentControl (c : CtxId) (op : CtlOp) (rs1 rs2 : Nat) (disp : Int) (s : State) :
    Host.Outcome State Fault Refusal := serve s (ventControl c op rs1 rs2 disp)

/-! ## Memory views (R385 to R388, R402, R406) -/

/-- What an access finds: bytes, or a fault with the codeword that could not be corrected. -/
inductive Access where
  | data (l : List Byte)
  | fault (f : Nat) (bad : Option CwAddr)

/-- The arena of package p, or the data part of the scratch of a Mudpot core, in the Caldera's model address space. -/
def arenaBase (c : CtxId) (p : Nat) (k : Pkg) : Nat :=
  if c.mudpot then 2 ^ 32 + c.core * 65536 + k.codeLen else p * 2 ^ 24

/-- n bytes of a resident frame, unless a codeword of them is uncorrectable. -/
def readChecked (d : Dev) (f o n : Nat) : Access := match badIn d f o n with
  | some w => .fault 6 (some w)
  | none => .data (viewFrame d f o n)

/-- R387: a read of object j at offset o. -/
def readObject (d : Dev) (l : Launch) (j o n : Nat) : Access := match nth l.objs j with
  | none => .fault 2 none
  | some e =>
    if e.type = 1 then
      match live d e.handle with
      | none => .fault 4 none
      | some i => match pte d e.index with
        | none => .fault 4 none
        | some q =>
          if q.owner ≠ i then .fault 4 none
          else if 65536 < o + n then .fault 2 none
          else match residentFrame d e.index with
            | none => .fault 5 none
            | some f => readChecked d f o n
    else if e.type = 2 then
      match storeLive d (bits e.handle 31 24) (e.handle % 2 ^ 32) with
      | none => .fault 4 none
      | some (_, s) => match nth s.frames e.index with
        | none => .fault 2 none
        | some f =>
          if 65536 < o + n then .fault 2 none
          else match badIn d f o n with
            | some w => .fault 6 (some w)
            | none => .data (storeBytes s e.index o n)
    else
      match tget d.tok.grams (l.d.partition * 65536 + e.index) with
      | none => .fault 4 none
      | some g =>
        if g.img.st ≠ 2 then .fault 4 none
        else if g.img.length < o + n then .fault 2 none
        else match badAmong d g.img.frames with
          | some w => .fault 6 (some w)
          | none => .data (imageBytes d g.img o n)

/-- R406: the frame and offset of a stack-view address within the view of stack k. -/
def stackPlace (d : Dev) (k a : Nat) : Option (Nat × Nat) :=
  let f := bits a 59 32
  let o := bits a 15 0
  match frame d f with
  | some x => if (x.loc ∧ f % 8 = k) ∨ (x.loc = false ∧ (o / 512 + f) % 8 = k) then some (f, o) else none
  | none => none

/-- R407: every byte of [o, o + n) of frame f lies in stack k. -/
def stackHolds (d : Dev) (k f o n : Nat) : Bool :=
  (List.range (max 1 (ceilDiv (o % 512 + n) 512))).all fun i => (stackPlace d k (f * 2 ^ 32 + min 65535 ((o / 512 + i) * 512))).isSome

/-- R411: an operator program reaches the frames of its own kernel pages and no others; another is beyond its view (log 9). -/
def ownKernel (d : Dev) (x : VCtx) (f : Nat) : Bool := (pkgOf d x).2.kpages.any fun n => residentFrame d n == some f

/-- An access of n bytes at an address: R385's view first, then R386's alignment (log 9). -/
def readAt (d : Dev) (c : CtxId) (x : VCtx) (a n : Nat) : Access :=
  let sel := a / 2 ^ 60
  let o := a % 2 ^ 60
  let (p, k) := pkgOf d x
  let al := a % n ≠ 0
  if sel = 0 then
    if k.arenaBytes < o + n then .fault 2 none
    else if al then .fault 3 none
    else .data (Memory.readBytes d.vnt.arena (arenaBase c p k + o) n)
  else if c.mudpot then
    if sel = Config.stackSel ∧ sel ≠ 1 then
      match stackPlace d (c.core / 32) o with
      | none => .fault 2 none
      | some (f, o) =>
        if !ownKernel d x f then .fault 2 none
        else if al then .fault 3 none
        else readChecked d f o n
    else .fault 2 none
  else if sel = 2 then
    match nth k.kpages (o / 65536) with
    | none => .fault 2 none
    | some spn =>
      if al then .fault 3 none
      else match residentFrame d spn with
        | some f => readChecked d f (o % 65536) n
        | none => .data (List.replicate n 0)
  else if sel = 3 ∧ k.objects then
    match launchOf d x.launch with
    | some l => if al then .fault 3 none else readObject d l (bits a 59 40) (bits a 39 0) n
    | none => .fault 2 none
  else .fault 2 none

/-- A thread stops with a fault; an uncorrectable read is recorded (R428). -/
def faultAccess (d : Dev) (c : CtxId) (f : Nat) (bad : Option CwAddr) : Dev :=
  endThread (match bad with
    | some w => noteUncorrectable d w
    | none => d) c f

/-- The effective address of a MEM format (R383). -/
def memAddr (x : VCtx) (base : Nat) (off : BitVec 16) : Nat := (gget x base + off.signExtend 64).toNat

/-- What a load of 1, 2, 4 or 8 bytes gives. -/
def extendTo (signed : Bool) (n : Nat) (l : List Byte) : VReg :=
  let v := leNat l
  if signed ∧ 2 ^ (8 * n - 1) ≤ v then BitVec.ofNat 64 (v + 2 ^ 64 - 2 ^ (8 * n)) else BitVec.ofNat 64 v

/-- R383, R384: the words of a load or store. -/
def rowMemory (waits : Bool) (r base : Nat) (off : BitVec 16) : VRow := ⟨waits, fitsClass 0x18 0x1F false (fitsRI r base off)⟩

/-- VENT_LOAD: `bytes` is 1, 2, 4, 8, or 16 for a vector register. The thread waits (R380). -/
def ventLoad (c : CtxId) (bytes : Nat) (signed : Bool) (rd base : Nat) (off : BitVec 16) (d : Dev) : Dev :=
  issue d c (rowMemory true rd base off) fun d x => match readAt d c x (memAddr x base off) bytes with
    | .fault f bad => faultAccess d c f bad
    | .data l =>
      let d := freeNext d
      if bytes = 16 then hold d c x (.result2 rd (BitVec.ofNat 64 (leNat (l.take 8))) (BitVec.ofNat 64 (leNat (l.drop 8))))
      else hold d c x (.result rd (extendTo signed bytes l))

def execVentLoad (c : CtxId) (bytes : Nat) (signed : Bool) (rd base : Nat) (off : BitVec 16) (s : State) :
    Host.Outcome State Fault Refusal := serve s (ventLoad c bytes signed rd base off)

/-! ## Write grants (R407 to R410) -/

/-- The grant that a context holds on a page. -/
def grantOf (d : Dev) (c : CtxId) (spn : Nat) : Option Grant := d.vnt.grants.find? fun g => g.ctx == c && g.spn == spn

/-- The codewords of frame f that a write of [o, o + n) covers wholly hold good data again; those that it covers in `part` do where
they are read, merged and encoded anew (R409). -/
def mendBad (d : Dev) (f o n : Nat) (part : Bool) : Dev :=
  { d with hbm.errs := d.hbm.errs.filter fun b =>
      let at' := b.cw.granule * 512 + b.cw.word * 64
      !(b.cw.frame == f && (if part then decide (at' < o + n) && decide (o < at' + 64)
        else decide (o ≤ at') && decide (at' + 64 ≤ o + n))) }

/-- A write under a grant. A SEALED write of part of a codeword that cannot be corrected is refused with UNCORRECTABLE. -/
def grantedWrite (d : Dev) (c : CtxId) (g : Grant) (o : Nat) (l : List Byte) : Dev :=
  let n := l.length
  match (if g.raw then none else badIn (mendBad d g.frame o n false) g.frame o n) with
  | some w => faultAccess d c 6 (some w)
  | none => notePage (writeFrame (mendBad d g.frame o n (!g.raw)) g.frame o l) g.spn

/-- MUDPOT_WRITE: the grant table is checked before every write; a revoked grant, or none, refuses it (R408). -/
def mudpotWrite (c : CtxId) (spn off : Nat) (data : List Byte) (d : Dev) : Dev :=
  if !c.mudpot || decide (65536 < off + data.length) || !stackBg d (c.core / 32) then d
  else match grantOf d c spn with
    | none => d
    | some g =>
      if g.revoked then d
      else if !stackHolds d (c.core / 32) g.frame off data.length then endThread d c 2
      else grantedWrite d c g off data

def execMudpotWrite (c : CtxId) (spn off : Nat) (data : List Byte) (s : State) : Host.Outcome State Fault Refusal :=
  serve s (mudpotWrite c spn off data)

/-- Row 32's condition on the page. An uncaptured page would be marked first (R509), so it is refused. -/
def grantable (d : Dev) (spn f : Nat) : Bool := match pte d spn, frame d f with
  | some q, some x => q.tier == .hbm && q.at' == f && !q.snap && !q.cmp && x.refcnt == 1 && x.st == .valid &&
      !uncaptured d spn
  | _, _ => false

/-- R411: an operator program may be granted only the kernel pages of its own package. -/
def grantOwn (d : Dev) (c : CtxId) (spn : Nat) : Bool := match ctxOf d c with
  | some x => (pkgOf d x).2.kpages.contains spn
  | none => true

/-- WRITE_GRANT_REQUEST: stamped on input 20 and decided (R407, rows 32 and 33); a SEALED grant reseals a RAW page
(R409). A job on a frame that waits for the migration makes none (R657, R660). -/
def writeGrantRequest (c : CtxId) (spn f : Nat) (raw : Bool) (cycle : Nat) (d : Dev) : Dev :=
  if !c.mudpot || inWindow d f || !stackBg d (c.core / 32) then d
  else
    let d := stampAt d 20 0x09 0 (frameOwner d f) spn cycle
    let mine := (d.vnt.grants.filter fun g => g.ctx == c).length
    let stack := (d.vnt.grants.filter fun g => g.stack == c.core / 32).length
    if grantable d spn f && grantOwn d c spn && decide (mine < 4) && decide (stack < 512) then
      let wasRaw := match pte d spn with
        | some q => q.raw
        | none => false
      let d := if wasRaw && !raw then bump (resealFrame d f) Addr.MUD_RESEAL_CNT else d
      let d := modPte d spn fun q => { q with raw := raw }
      bump { d with vnt.grants := d.vnt.grants ++ [⟨c, spn, f, raw, c.core / 32, false⟩] } Addr.MUD_GRANT_CNT
    else bump d Addr.MUD_REFUSE_CNT

def execWriteGrantRequest (c : CtxId) (spn frame : Nat) (raw : Bool) (cycle : Nat) (s : State) :
    Host.Outcome State Fault Refusal := serve s (writeGrantRequest c spn frame raw cycle)

/-- GRANT_RELEASE (R408). -/
def grantRelease (c : CtxId) (spn : Nat) (d : Dev) : Dev :=
  { d with vnt.grants := d.vnt.grants.filter fun g => !(g.ctx == c && g.spn == spn) }

def execGrantRelease (c : CtxId) (spn : Nat) (s : State) : Host.Outcome State Fault Refusal := serve s (grantRelease c spn)

/-! ## Stores and atomics -/

/-- The bytes of a source: a general register, or a vector register for 16 bytes. -/
def storeSource (x : VCtx) (n rs : Nat) : List Byte := if n = 16 then leBytes 16 (vget x rs).toNat else leBytes n (gget x rs).toNat

/-- VENT_STORE: arena, kernel pages (a main-die Write event, R388), or the stack view under a grant. Stores do not wait. -/
def ventStore (c : CtxId) (bytes rs base : Nat) (off : BitVec 16) (d : Dev) : Dev :=
  issue d c (rowMemory false rs base off) fun d x =>
    let a := memAddr x base off
    let sel := a / 2 ^ 60
    let o := a % 2 ^ 60
    let (p, k) := pkgOf d x
    let l := storeSource x bytes rs
    let al := a % bytes ≠ 0
    if sel = 0 then
      if k.arenaBytes < o + bytes then endThread d c 2
      else if al then endThread d c 3
      else setCtx { d with vnt.arena := Memory.writeBytes d.vnt.arena (arenaBase c p k + o) l } c (fallThrough x)
    else if c.mudpot then
      if sel = Config.stackSel ∧ sel ≠ 1 then
        match stackPlace d (c.core / 32) o with
        | none => endThread d c 2
        | some (f, o) =>
          if al then endThread d c 3
          else match d.vnt.grants.find? fun g => g.ctx == c && g.frame == f && !g.revoked with
            | some g => grantedWrite (setCtx d c (fallThrough x)) c g o l
            | none => setCtx d c (fallThrough x)
      else endThread d c 2
    else if sel = 2 then
      match nth k.kpages (o / 65536) with
      | none => endThread d c 2
      | some spn =>
        if al then endThread d c 3
        else match writeEvent d (2 ^ 24 + p) 0 spn false with
          | .ok d1 => setCtx (writePage d1 spn (o % 65536) l) c (fallThrough x)
          | .error _ => d
    else endThread d c 2

def execVentStore (c : CtxId) (bytes rs base : Nat) (off : BitVec 16) (s : State) : Host.Outcome State Fault Refusal :=
  serve s (ventStore c bytes rs base off)

/-- The new value of an atomic's word: rs2 added or stored; compare-and-swap compares with rd (log 9). -/
def atomicNew (op : AtomicOp) (old operand expect : VReg) : VReg := match op with
  | .fetchAdd => old + operand
  | .swap => operand
  | .cas => if old = expect then operand else old
  | .illegal => old

/-- R383, R384: the words of an atomic. -/
def rowAtomic (op : AtomicOp) (rd rs1 rs2 : Nat) : VRow := ⟨true, fitsClass 0x20 0x23 (op == .illegal) (fitsRR rd rs1 rs2)⟩

/-- VENT_ATOMIC on the 8-byte arena word that rs1 addresses; the old value is the result (R390). -/
def ventAtomic (c : CtxId) (op : AtomicOp) (rd rs1 rs2 : Nat) (d : Dev) : Dev :=
  issue d c (rowAtomic op rd rs1 rs2) fun d x =>
    let a := (gget x rs1).toNat
    let (p, k) := pkgOf d x
    if op = .illegal ∨ c.mudpot then endThread d c 1
    else if a / 2 ^ 60 ≠ 0 ∨ k.arenaBytes < a + 8 then endThread d c 2
    else if a % 8 ≠ 0 then endThread d c 3
    else
      let w := arenaBase c p k + a
      let old := BitVec.ofNat 64 (leNat (Memory.readBytes d.vnt.arena w 8))
      let d := { d with vnt.arena := Memory.writeBytes d.vnt.arena w
                          (leBytes 8 (atomicNew op old (gget x rs2) (gget x rd)).toNat) }
      hold d c x (.result rd old)

def execVentAtomic (c : CtxId) (op : AtomicOp) (rd rs1 rs2 : Nat) (s : State) : Host.Outcome State Fault Refusal :=
  serve s (ventAtomic c op rd rs1 rs2)

/-! ## Vector class (R384) -/

/-- Bits of an element. -/
def elemBits (t : ElemType) : Nat := match t with
  | .int8 | .e4m3 | .e5m2 => 8
  | .int16 | .bf16 | .f16 => 16
  | .int32 | .f32 => 32
  | .int64 => 64

/-- The format of a floating element. -/
def elemFp (t : ElemType) : Option FpFmt := match t with
  | .bf16 => some fmtB16
  | .f16 => some fmt16
  | .f32 => some fmt32
  | .e4m3 => some fmtE4
  | .e5m2 => some fmtE5
  | _ => none

/-- The lanes of a vector, lowest first, and a vector from lanes. -/
def lanes (w : Nat) (v : BitVec 128) : List Nat := (List.range (128 / w)).map fun i => v.toNat / 2 ^ (w * i) % 2 ^ w
def unlanes (w : Nat) (l : List Nat) : BitVec 128 := BitVec.ofNat 128 ((l.zipIdx.map fun (x, i) => x % 2 ^ w * 2 ^ (w * i)).sum)

/-- A lane read as a signed integer of w bits, and back. -/
def sgn (w v : Nat) : Int := if 2 ^ (w - 1) ≤ v then (v : Int) - 2 ^ w else v
def wrap (w : Nat) (i : Int) : Nat := (i % 2 ^ w).toNat

/-- One lane of an arithmetic operation: old destination, first source, second source. -/
def laneOp (op : VecOp) (t : ElemType) (o a b : Nat) : Nat :=
  let w := elemBits t
  match op with
  | .and => a &&& b
  | .or => a ||| b
  | .xor => a ^^^ b
  | _ => match elemFp t with
    | some f =>
      let x := f.decode a
      let y := f.decode b
      match op with
      | .add => f.encode .near (x.add y)
      | .sub => f.encode .near (x.add y.neg)
      | .mul => f.encode .near (x.mul y)
      | .fma => f.encode .near ((x.mul y).add (f.decode o))
      | .min => if y.lt x then b else a
      | .max => if x.lt y then b else a
      | .cmpEq => Config.laneTruth w (x.eqv y)
      | .cmpLt => Config.laneTruth w (x.lt y)
      | _ => o
    | none =>
      let x := sgn w a
      let y := sgn w b
      match op with
      | .add => wrap w (x + y)
      | .sub => wrap w (x - y)
      | .mul => wrap w (x * y)
      | .fma => wrap w (x * y + sgn w o)
      | .min => if y < x then b else a
      | .max => if x < y then b else a
      | .cmpEq => Config.laneTruth w (a == b)
      | .cmpLt => Config.laneTruth w (decide (x < y))
      | _ => o

/-- The sum of lanes in increasing order. -/
def hsum (t : ElemType) (l : List Nat) : Nat := match l with
  | [] => 0
  | a :: r => r.foldl (fun s x => laneOp .add t 0 s x) a

/-- FP8 arithmetic is not among the contents of the class (R384). -/
def vecAssigned (op : VecOp) (t : ElemType) : Bool := match op, t with
  | .illegal, _ => false
  | .add, .e4m3 | .sub, .e4m3 | .mul, .e4m3 | .fma, .e4m3 | .hsum, .e4m3 => false
  | .add, .e5m2 | .sub, .e5m2 | .mul, .e5m2 | .fma, .e5m2 | .hsum, .e5m2 => false
  | _, _ => true

/-- The result of a vector operation. -/
def vecResult (op : VecOp) (t : ElemType) (o a b : BitVec 128) : BitVec 128 :=
  let w := elemBits t
  match op with
  | .select => Config.vecSelect w o a b
  | .shuffle => Config.vecShuffle w o a b
  | .hsum => Config.vecSumPlace w o (hsum t (lanes w a))
  | _ => unlanes w ((List.range (128 / w)).map fun i =>
      laneOp op t (((lanes w o)[i]?).getD 0) (((lanes w a)[i]?).getD 0) (((lanes w b)[i]?).getD 0))

/-- R384: the code of an element type. -/
def elemCode (t : ElemType) : Nat := match t with
  | .int8 => 0
  | .int16 => 1
  | .int32 => 2
  | .int64 => 3
  | .bf16 => 4
  | .f16 => 5
  | .f32 => 6
  | .e4m3 | .e5m2 => 7

/-- R383: the register fields of the format VEC. -/
def fitsVec (vd vs1 vs2 w : Nat) : Bool :=
  bits w 25 22 == vd && !bit w 21 && bits w 20 17 == vs1 && !bit w 16 && bits w 15 12 == vs2 && !bit w 11

/-- R383, R384: the words of a vector instruction. -/
def rowVector (op : VecOp) (ty : ElemType) (vd vs1 vs2 : Nat) : VRow :=
  ⟨false, fitsClass 0x28 0x2F (op == .illegal) fun w => fitsVec vd vs1 vs2 w && bits w 10 8 == elemCode ty⟩

def ventVector (c : CtxId) (op : VecOp) (ty : ElemType) (vd vs1 vs2 : Nat) (d : Dev) : Dev :=
  issue d c (rowVector op ty vd vs1 vs2) fun d x =>
    if c.mudpot ∨ vecAssigned op ty = false then endThread d c 1
    else setCtx d c (fallThrough (vset x vd (vecResult op ty (vget x vd) (vget x vs1) (vget x vs2))))

def execVentVector (c : CtxId) (op : VecOp) (ty : ElemType) (vd vs1 vs2 : Nat) (s : State) :
    Host.Outcome State Fault Refusal := serve s (ventVector c op ty vd vs1 vs2)

/-! ## Conversion class (R12, R384) -/

/-- A number rounded to the nearest integer, ties to even. -/
def toInt (neg : Bool) (m : Nat) (e : Int) : Int :=
  let v := if 0 ≤ e then m * 2 ^ e.toNat else roundShift .near neg m (-e).toNat
  if neg then -(v : Int) else v

/-- One element converted. -/
def convert (src dst : ElemType) (v : Nat) : Nat :=
  let w := elemBits dst
  let x : Fv := match elemFp src with
    | some f => f.decode v
    | none => Fv.int (sgn (elemBits src) v)
  match elemFp dst with
  | some f => f.encode .near x
  | none => match x with
    | .fin neg m e =>
      let i := toInt neg m e
      if elemFp src = none then wrap w i
      else if -(2 ^ (w - 1) : Int) ≤ i ∧ i < 2 ^ (w - 1) then wrap w i else Config.badInt w v % 2 ^ w
    | _ => Config.badInt w v % 2 ^ w

/-- A scalar result in a general register: integers sign-extended, patterns zero-extended (log 9). -/
def scalarReg (t : ElemType) (v : Nat) : VReg := match elemFp t with
  | some _ => BitVec.ofNat 64 v
  | none => BitVec.ofInt 64 (sgn (elemBits t) v)

/-- R383, R384: the words of a conversion: RR for a scalar one, VEC for a lanewise one (log 9). -/
def rowConversion (vector : Bool) (rd rs1 : Nat) : VRow :=
  ⟨false, fitsClass 0x30 0x33 false fun w =>
    if vector then bits w 25 22 == rd && bits w 20 17 == rs1 else bits w 25 21 == rd && bits w 20 16 == rs1⟩

/-- VENT_CONVERSION, scalar or lanewise over the low lanes that both widths have (log 9). -/
def ventConversion (c : CtxId) (vector : Bool) (src dst : ElemType) (rd rs1 : Nat) (d : Dev) : Dev :=
  issue d c (rowConversion vector rd rs1) fun d x =>
    if vector then
      let n := 128 / max (elemBits src) (elemBits dst)
      let r := unlanes (elemBits dst) (((lanes (elemBits src) (vget x rs1)).take n).map (convert src dst))
      setCtx d c (fallThrough (vset x rd r))
    else retire d c x rd (scalarReg dst (convert src dst ((gget x rs1).toNat % 2 ^ elemBits src)))

def execVentConversion (c : CtxId) (vector : Bool) (src dst : ElemType) (rd rs1 : Nat) (s : State) :
    Host.Outcome State Fault Refusal := serve s (ventConversion c vector src dst rd rs1)

/-! ## System class -/

/-- R384: the words of a system instruction. -/
def rowSystem (waits : Bool) : VRow := ⟨waits, inClass 0x3C 0x3F⟩

def ventYield (c : CtxId) (d : Dev) : Dev := issue d c (rowSystem true) fun d x => hold d c x .plain
def execYield (c : CtxId) (s : State) : Host.Outcome State Fault Refusal := serve s (ventYield c)

/-- FENCE: stores of this model are visible at once, so none is outstanding (R380, R389). -/
def ventFence (c : CtxId) (d : Dev) : Dev := issue d c (rowSystem false) fun d x => setCtx d c (fallThrough x)
def execFence (c : CtxId) (s : State) : Host.Outcome State Fault Refusal := serve s (ventFence c)

def ventExit (c : CtxId) (d : Dev) : Dev := issue d c (rowSystem false) fun d _ => endThread d c 0
def execExit (c : CtxId) (s : State) : Host.Outcome State Fault Refusal := serve s (ventExit c)

/-- DEVICE_VIEW_REQUEST: the thread waits for its unit's result, a free value (log 9). A package that does not use the
device view has no unit bound and faults with VIEW; a Mudpot core has no such request (R402). -/
def deviceViewRequest (c : CtxId) (rd _rs1 : Nat) (d : Dev) : Dev :=
  issue d c (rowSystem true) fun d x =>
    if c.mudpot then endThread d c 1
    else if (pkgOf d x).2.device then hold d c x (.device rd) else endThread d c 2
def execDeviceViewRequest (c : CtxId) (rd rs1 : Nat) (s : State) : Host.Outcome State Fault Refusal :=
  serve s (deviceViewRequest c rd rs1)

/-- WAIT_SATISFIED: the result reaches its register and the context is ready. -/
def waitSatisfied (c : CtxId) (d : Dev) : Dev := match ctxOf d c with
  | none => d
  | some x =>
    let done := { x with wait := none }
    match x.wait with
    | none => d
    | some .plain => setCtx d c done
    | some (.result rd v) => setCtx d c (gset done rd v)
    | some (.result2 rd lo hi) => setCtx d c (vset done rd (hi ++ lo))
    | some (.device rd) => freeNext (setCtx d c (gset done rd (BitVec.ofNat 64 (Config.freeNat d.freeCnt))))
def execWaitSatisfied (c : CtxId) (s : State) : Host.Outcome State Fault Refusal := serve s (waitSatisfied c)

/-! ## Packages (R391 to R393) -/

/-- The signature block of a signed image (R635, R636): the image before it, when the block stands and verifies. `vendor`
and `operator` say which signatures R637 requires. -/
def signedImage (d : Dev) (kind : Nat) (vendor operator : Bool) (bytes : List Byte) : Option (List Byte × List Byte) :=
  let n := bytes.length - 32496
  let img := bytes.take n
  let blk := bytes.drop n
  let msg := blk.take 48
  let opOk := match d.obs.opKey with
    | some key => bit (field blk 5 1) 1 && Config.slhVerify 0 key msg (blk.drop 16272)
    | none => false
  if bytes.length < 32496 ∨ field blk 0 4 ≠ 0x4E474953 ∨ field blk 4 1 ≠ kind ∨ 3 < field blk 5 1 ∨ field blk 8 4 ≠ n ∨
      field blk 12 4 ≠ 0 ∨ (blk.drop 16).take 32 ≠ sha256 img then none
  else if (vendor && !(bit (field blk 5 1) 0 && Config.slhVerify 0 Config.vendorKey msg ((blk.drop 48).take 16224))) ||
      (operator && !opOk) then none
  else some (img, blk)

/-- KERNEL_LOAD (R391, R284). -/
def serveKernelLoad (h : CmdHdr) (object length : Nat) (d : Dev) : Dev :=
  let op := 0x0803
  onChannel d h op true fun d =>
    checked d h op
      [(decide (object < 32) || decide (255 < object), stw stParam 6),
       (decide (length < 128) || decide (0xFFFFFFC0 < length) || length % 64 != 0, stw stParam 7)] fun d =>
      if (pkg d object).img.st ≠ 0 then reply d h op (stw stRetry 0)
      else match allocOwnMany d false 0 (ceilDiv length 65536) with
        | .error _ => reply d h op (stw stNoCap 0)
        | .ok (fs, d1) =>
          reply (setPkg d1 object { Pkg.empty with img := { st := 1, length := length, frames := fs, digest := [] } }) h op stOk

def execKernelLoad (h : CmdHdr) (object length : Nat) (s : State) : Host.Outcome State Fault Refusal :=
  serve s (serveKernelLoad h object length)

def serveKernelData (h : CmdHdr) (object offset : Nat) (data : List Byte) (d : Dev) : Dev :=
  onChannel d h 0x0804 true fun d => serveData d h 0x0804 (pkg d object).img offset data

def execKernelData (h : CmdHdr) (object offset : Nat) (data : List Byte) (s : State) :
    Host.Outcome State Fault Refusal := serve s (serveKernelData h object offset data)

/-- R392: the header of an image, with the checks of R393: byte offset of the first failing item. -/
def pkgChecks (img : List Byte) : List (Bool × Nat) :=
  let f := field img
  let target := f 6 1
  let code := f 8 4
  let mud := target == 1
  let words := (List.range (code / 4)).map fun i => (64 + 4 * i, BitVec.ofNat 32 (f (64 + 4 * i) 4))
  let major := fun w : Word => w.toNat / 2 ^ 26
  let known := fun m : Nat => decide (m ≤ 0x23) || (decide (0x28 ≤ m) && decide (m ≤ 0x33)) || decide (0x3C ≤ m)
  let vent := fun m : Nat => decide (0x20 ≤ m) && decide (m ≤ 0x2F)
  let badWord := words.find? fun w => !known (major w.2) || (mud && vent (major w.2)) || !Config.instrLegal target w.2
  [(f 0 4 != 0x544E4556, 0), (f 4 2 != 1, 4), (decide (1 < target), 6), (decide (3 < f 7 1) || (mud && f 7 1 != 0), 7),
   (code % 4 != 0 || decide (code < 4) || decide ((if mud then 32768 else 1048576) < code) ||
     decide (img.length < 64 + code), 8),
   (f 12 4 % 4 != 0 || decide (code ≤ f 12 4), 12),
   ((if mud then decide (65536 - code < f 16 4)
     else f 16 4 % 4096 != 0 || decide (f 16 4 < 4096) || decide (16777216 < f 16 4)), 16),
   (decide (f 16 4 < f 20 4) || decide (img.length < 64 + code + f 20 4), 20), (decide (65536 < f 24 4), 24),
   (decide (f 28 4 < 1) || decide ((if mud then 4 else 65536) < f 28 4), 28),
   (decide (f 32 4 < 1) || decide (65536 < f 32 4), 32), (!allZero ((img.drop 36).take 28), 36),
   (badWord.isSome, (badWord.map (·.1)).getD 0)]

/-- R400: c. -/
def opCores (d : Dev) : Nat := rd d Addr.MUD_OP_CORES

/-- The operator cores of every stack. -/
def operatorCores (d : Dev) : List Nat :=
  ((List.range 8).map fun k => (List.range (opCores d)).map fun i => 32 * k + (32 - opCores d) + i).flatten

/-- Bytes of committed operator arenas. -/
def arenasUsed (d : Dev) : Nat :=
  (d.vnt.pkgs.map fun q => if q.2.img.st = 2 ∧ q.2.target = 0 then q.2.arenaBytes else 0).sum

/-- R391: n kernel pages of package p through rows 1 and 3, filled with zeros (R404, R405, R695). -/
def allocKernelPages (d : Dev) (p : Nat) (mud : Bool) : Nat → Res (List Nat × Dev)
  | 0 => .ok ([], d)
  | n + 1 =>
    match allocKernelPages d p mud n with
    | .error e => .error e
    | .ok (l, d1) => match allocSpn d1 (2 ^ 24 + p) with
      | .error e => .error e
      | .ok (spn, d2) => match allocOwn d2 mud (n % 8) with
        | .error e => .error e
        | .ok (f, d3) =>
          .ok (l ++ [spn], modPte d3 spn fun q => { q with tier := .hbm, at' := f, loc := mud })

/-- KERNEL_COMMIT (R391, R393, R411). -/
def serveKernelCommit (h : CmdHdr) (object : Nat) (digest : List Byte) (d : Dev) : Dev :=
  let op := 0x0805
  onChannel d h op true fun d =>
    let k := pkg d object
    commitChecks d h op k.img digest fun d bytes =>
      match signedImage d 2 false true bytes with
      | none => reply d h op (stw stSignature 0)
      | some (img, _) => match firstFail (pkgChecks img) with
        | some off => commitFail d h op (stw stParam 0) off
        | none =>
          let f := field img
          let mud := f 6 1 == 1
          let region := match d.plan.active with
            | some pl => pl.arenaBytes
            | none => 0
          if mud = false ∧ region < arenasUsed d + f 16 4 then reply d h op (stw stNoCap 0)
          else match allocKernelPages d object mud (f 24 4) with
            | .error _ => reply d h op (stw stNoCap 0)
            | .ok (spns, d1) =>
              let init := (img.drop (64 + f 8 4)).take (f 20 4)
              let code := (img.drop 64).take (f 8 4)
              let arena := if mud then
                  (operatorCores d1).foldl (fun a c =>
                    Memory.writeBytes (Memory.clear a (2 ^ 32 + c * 65536) 65536) (2 ^ 32 + c * 65536) (code ++ init))
                    d1.vnt.arena
                else Memory.writeBytes (Memory.clear d1.vnt.arena (object * 2 ^ 24) (2 ^ 24)) (object * 2 ^ 24) init
              let k' : Pkg := { img := { k.img with st := 2, digest := digest }, target := f 6 1,
                                objects := bit (f 7 1) 0, device := bit (f 7 1) 1, codeLen := f 8 4, entry := f 12 4,
                                arenaBytes := f 16 4, pages := f 24 4, maxCtx := f 28 4, budget := f 32 4, kpages := spns }
              reply (setPkg { d1 with vnt.arena := arena } object k') h op stOk

def execKernelCommit (h : CmdHdr) (object : Nat) (digest : List Byte) (s : State) : Host.Outcome State Fault Refusal :=
  serve s (serveKernelCommit h object digest)

/-- A thread of the package exists (R393). -/
def pkgBusy (d : Dev) (p : Nat) : Bool := d.vnt.ctxs.any fun q => (pkgOf d q.2).1 == p

/-- KERNEL_DROP (R393, R560). -/
def serveKernelDrop (h : CmdHdr) (object : Nat) (d : Dev) : Dev :=
  let op := 0x0806
  onChannel d h op true fun d =>
    let k := pkg d object
    if object < 32 ∨ 255 < object then reply d h op (stw stParam 6)
    else if k.img.st = 0 then reply d h op stOk
    else if pkgBusy d object then reply d h op (stw stRetry 0)
    else
      let d := freeFrames (dropPages d k.kpages) k.img.frames
      let d := { d with vnt.pkgs := tdel d.vnt.pkgs object, vnt.arena := Memory.clear d.vnt.arena (object * 2 ^ 24) (2 ^ 24) }
      reply d h op stOk

def execKernelDrop (h : CmdHdr) (object : Nat) (s : State) : Host.Outcome State Fault Refusal :=
  serve s (serveKernelDrop h object)

/-! ## Launches (R394 to R398, R411, R413) -/

/-- The reply to KERNEL_LAUNCH, which always has its body (R558, R572). -/
def launchReply (d : Dev) (h : CmdHdr) (status faulted first fault pc : Nat) : Dev :=
  replyBody d h 0x0807 status (leBytes 4 faulted ++ leBytes 4 first ++ leBytes 1 fault ++ leBytes 3 0 ++ leBytes 4 pc)

/-- The partition whose object an entry names. -/
def objPart (dp : Nat) (e : ObjEntry) : Nat :=
  if e.type = 1 then hPart e.handle else if e.type = 2 then bits e.handle 31 24 else dp

/-- R411, R413: KERNEL_READ of partition p. -/
def kernelRead (d : Dev) (p : Nat) : Bool := bit (part d p).cfg.pflags 3

/-- A pool that the plan opens to operator packages (R411); a Mudpot package runs on the operator cores. -/
def poolOpen (d : Dev) (k : Pkg) (pool : Nat) : Bool :=
  k.target == 1 || match d.plan.active with
    | some p => p.openPools.contains pool && decide (pool < p.pools.length)
    | none => false

/-- KERNEL_LAUNCH: the launch awaits its placement. -/
def serveKernelLaunch (h : CmdHdr) (q : LaunchDesc) (objs : List ObjEntry) (d : Dev) : Dev :=
  let k := pkg d q.package
  match firstFail
    [(decide (q.objCount ≠ objs.length), stw stLen 6), (h.part != 0, stw stPrivilege 1),
     (objs.any (fun e => decide (1 ≤ e.type) && decide (e.type ≤ 3) && !kernelRead d (objPart q.partition e)), stw stPrivilege 7),
     (fencedFor d h, stw stFenced 0),
     (decide (255 < q.package) || k.img.st != 2, stw stParam 6), (!poolOpen d k q.pool, stw stParam 6),
     (decide (q.contexts < 1) || decide (k.maxCtx < q.contexts), stw stParam 6), (q.argStride % 8 != 0, stw stParam 6),
     (decide (1024 < q.objCount) || (!k.objects && q.objCount != 0), stw stParam 6), (q.objList != 0, stw stParam 6),
     (decide (k.budget < q.budget), stw stParam 6),
     (objs.any (fun e => decide (e.type < 1) || decide (3 < e.type)), stw stParam 7),
     (d.pwr.fumarole, stw stRetry 0)] with
  | some st => launchReply d h st 0 0 0 0
  | none => { d with vnt.launches := d.vnt.launches ++
      [{ cmd := h, d := q, objs := objs, placed := none, live := 0, faulted := 0, firstThread := 0, fault := 0, pc := 0 }] }

def execKernelLaunch (h : CmdHdr) (d : LaunchDesc) (objs : List ObjEntry) (s : State) :
    Host.Outcome State Fault Refusal := serve s (serveKernelLaunch h d objs)

/-- R72: the contexts that a launch may take, in increasing core and then context number. -/
def poolContexts (d : Dev) (k : Pkg) (pool : Nat) : List CtxId :=
  if k.target = 1 then
    ((operatorCores d).map fun c => (List.range k.maxCtx).map fun x => (⟨true, c, x⟩ : CtxId)).flatten.filter (ctxFree d)
  else freeContexts d (poolClusters d pool)

/-- R395: thread `k` of a launch at its start. -/
def newThread (l : Launch) (p : Pkg) (k : Nat) : VCtx :=
  let x : VCtx := { launch := l.cmd.seq, thread := k, regs := List.replicate 32 0, pc := p.entry, wait := none }
  gset (gset (gset x 1 (BitVec.ofNat 64 k)) 2 (BitVec.ofNat 64 l.d.contexts)) 3
    (BitVec.ofNat 64 (l.d.argBase + k * l.d.argStride))

/-- LAUNCH_PLACE: a launch that this tick's manifest holds takes its contexts, or, when its pool has fewer free, is offered to the next
tick (R72, R395, R396). While THROTTLE is 1 no KERNEL work is admitted in ticks of odd frame index (R653), and a
DORMANT device runs no core (R648). -/
def launchPlace (seq : Nat) (d : Dev) : Dev := match launchOf d seq with
  | none => d
  | some l =>
    if l.placed.isSome ∨ !listed d 3 seq ∨ (d.pwr.throttle ∧ d.tick % 2 = 1) ∨ d.pwr.st = 2 then d
    else
      let d := unlist d 3 seq
      let p := pkg d l.d.package
      if p.img.st ≠ 2 then
        launchReply { d with vnt.launches := d.vnt.launches.filter fun x => x.cmd.seq != seq } l.cmd (stw stParam 6) 0 0 0 0
      else
        let free := poolContexts d p l.d.pool
        if free.length < l.d.contexts then bump d Addr.VNT_DEFER_CNT
        else
          let d := (free.take l.d.contexts).zipIdx.foldl (fun d (c, k) => setCtx d c (newThread l p k)) d
          let d := modLaunch d seq fun l => { l with placed := some d.tick, live := l.d.contexts }
          let b := if l.d.budget = 0 then p.budget else l.d.budget
          bump (addTimer { d with pwr.busyDormant := true, pwr.busySimmer := true } .budget (d.tick + b) seq l.d.tag)
            Addr.VNT_LAUNCH_CNT

def execLaunchPlace (seq : Nat) (s : State) : Host.Outcome State Fault Refusal := serve s (launchPlace seq)

/-- LAUNCH_COMPLETE: the last thread has ended (R397). -/
def launchComplete (seq : Nat) (d : Dev) : Dev := match launchOf d seq with
  | none => d
  | some l =>
    if l.placed.isNone ∨ l.live ≠ 0 then d
    else
      let d := workDone d 19 (faultStatus l.fault) 0 l.d.tag
      let d := dropTimer { d with vnt.launches := d.vnt.launches.filter fun x => x.cmd.seq != seq } .budget seq
      launchReply d l.cmd (faultStatus l.fault) l.faulted l.firstThread l.fault l.pc

def execLaunchComplete (seq : Nat) (s : State) : Host.Outcome State Fault Refusal := serve s (launchComplete seq)

/-- The context of a key. -/
def ctxIdOf (k : Nat) : CtxId :=
  if k < 65536 then ⟨false, k / 16, k % 16⟩ else ⟨true, (k - 65536) / 4, (k - 65536) % 4⟩

/-- LAUNCH_BUDGET_EXPIRY: the expiry has been stamped; every thread still running stops with BUDGET (R396). -/
def launchBudgetExpiry (seq : Nat) (d : Dev) : Dev :=
  if (expiredAt d .budget seq).isSome then
    (d.vnt.ctxs.filter fun q => q.2.launch == seq).foldl (fun d q => endThread d (ctxIdOf q.1) 7) d
  else d

def execLaunchBudgetExpiry (seq : Nat) (s : State) : Host.Outcome State Fault Refusal := serve s (launchBudgetExpiry seq)

end Sys2Proof.Machine
end

