-- ==== Sys2Proof/Machine/Attn.lean ====
section
/-!
DEFINITION. Sys2Proof/Machine/Attn.lean: attention requests from their arrival to their answer: R697, R92, admission into
the manifest (R59 to R64, R510), layer batches (R29 to R34, R190, R206), merge slots (R70, R193), the expiries of R71,
control-page thaws (R141) and page summaries (R207 to R213, R244, R698).
-/

namespace Sys2Proof.Machine

/-! ## Arrival (R697) -/

/-- Binary32 numbers that one token carries (R174, R464). -/
def carriedWidth (ld : LayerDesc) (append : Bool) : Nat :=
  let q := if ld.kind = 1 then ld.qh * (ld.headDim + ld.rotDim) else ld.qh * ld.headDim
  if append then tokenWidth ld - q else tokenWidth ld

/-- The carried vectors, an APPEND_ONLY's with zero queries before each token's own part. -/
def fullVecs (ld : LayerDesc) (append : Bool) (v : List F32) : List F32 :=
  if append then
    let w := carriedWidth ld true
    ((chunks w v.length v).map fun t => List.replicate (tokenWidth ld - w) 0 ++ t).flatten
  else v

/-- R175: the gate and strength of a RECURRENT token lie in [0, 1]. -/
def gatesOk (ld : LayerDesc) (v : List F32) : Bool :=
  ld.kind != 2 ||
    (chunks (tokenWidth ld) v.length v).all fun t =>
      (t.drop (2 * ld.qh * ld.headDim + ld.qh * ld.vDim)).all fun x => fLe 0 x && fLe x f32One

/-- What an ATTN_REQ or APPEND_ONLY asks, with its parts. -/
structure Ask where
  append : Bool
  layer : Nat
  count : Nat
  first : Nat
  deadline : Nat
  rflags : Nat
  res : Nat
  maskLen : Nat
  mask : List Byte
  vecs : List Byte

def askOf (append : Bool) (m : FabMsg) : Ask :=
  let ml := bodyAt m 12 4
  { append := append, layer := bodyAt m 0 2, count := bodyAt m 2 2, first := bodyAt m 4 4, deadline := bodyAt m 8 2,
    rflags := bodyAt m 10 1, res := bodyAt m 11 1, maskLen := ml, mask := (m.body.drop 16).take ml,
    vecs := m.body.drop (16 + roundUp ml 16) }

/-- Steps 1 to 5 of R697. -/
def headChecks (d : Dev) (m : FabMsg) : List (Bool × Nat) :=
  let p := hPart m.handle
  [(m.length % 16 != 0 || decide (m.length < 48), stw stLen 4), (m.part != p, stw stStale 5),
   (fenced d p, stw stFenced 0), ((live d m.handle).isNone, stw stStale 5)]

/-- R90: the status that the session's state gives an ATTN_REQ or APPEND_ONLY. -/
def stateStatus (e : SessEnt) : Option Nat := match e.st with
  | .awaitHost => some (stw stRetry 0)
  | .fenced => some (stw stFenced 0)
  | .degraded => some (stw e.degReason 0)
  | _ => none

/-- Steps 7 to 10 of R697 and the checks of R175 and R181. -/
def askChecks (x : LayerSt) (ld : LayerDesc) (maxQ length : Nat) (a : Ask) : List (Bool × Nat) :=
  let vbytes := roundUp (a.count * carriedWidth ld a.append * 2) 16
  let rows := field a.mask 4 2
  let cols := field a.mask 6 2
  let v := bf16Vec (a.vecs.take (a.count * carriedWidth ld a.append * 2))
  let full := fullVecs ld a.append v
  let masked := a.maskLen != 0
  [(length != 48 + roundUp a.maskLen 16 + vbytes, stw stLen 7),
   (masked && (a.append || a.maskLen != 16 + rows * cols / 8), stw stLen 12),
   (decide (1 < a.rflags), stw stReserved 10), (a.res != 0, stw stReserved 11),
   (masked && !allZero ((a.mask.drop 8).take 8), stw stReserved 13),
   (a.count == 0 || decide (maxQ < a.count), stw stParam 7), (a.first != x.len, stw stParam 8),
   (masked && (decide (a.count ≤ 1) || decide (a.first < field a.mask 0 4) || rows != a.count || cols % 64 != 0 ||
     decide (cols < 64) || decide (8192 < cols) || decide (262144 < a.maskLen - 16)), stw stParam 13),
   (!(v.all finite32) || !gatesOk ld full, stw stParam 14),
   (decide (2097152 < a.first + a.count), stw stContext 0)]

/-- R175, R199: the failures that GEY_INPUT_REJ_CNT counts. A LENGTH that step 1 of R697 refuses (DETAIL 4) is not among them: DESIGN
CHOICE (log 45). -/
def isInputReject (st : Nat) : Bool := [stw stLen 7, stw stLen 12, stw stParam 7, stw stParam 14].contains st

/-- An ATTN_RSP with a failing status, for a request that changed nothing (R25). -/
def rejectAsk (d : Dev) (m : FabMsg) (a : Ask) (st seq : Nat) : Dev :=
  let out := match live d m.handle with
    | some i => outFmtOf d i
    | none => 0
  countEvent (sendRsp d m.src m.tag (hPart m.handle) m.handle a.layer a.count a.first st out seq []) (hPart m.handle) 3 1

/-- R92: the session becomes THAWING and its parks of control pages in flight are cancelled. -/
def beginThaw (d : Dev) (i : Nat) : Dev :=
  let e := sess d i
  if e.st = .parked then
    let d := modSess d i fun e => { e with st := .thawing }
    activate ((controlSpns d (sess d i)).foldl cancelPark d) i
  else d

/-- The request joins the waiting ones, with the timers of R71. -/
def admitAsk (d : Dev) (m : FabMsg) (a : Ask) (i seq cycle : Nat) (ld : LayerDesc) : Dev :=
  let dl := if a.deadline = 0 then 2 else a.deadline
  let masked := a.maskLen != 0
  let cols := field a.mask 6 2
  let r : Req :=
    { seq := seq, tick := d.tick, cycle := cycle, append := a.append, src := m.src, tag := m.tag, part := hPart m.handle,
      handle := m.handle, entry := i, layer := a.layer, count := a.count, first := a.first, deadline := dl,
      prefill := a.rflags == 1, maskCols := if masked then some (field a.mask 0 4, cols) else none,
      maskRows := if masked then (chunks (cols / 8) a.count (a.mask.drop 16)).map leNat else [],
      vecs := fullVecs ld a.append (bf16Vec (a.vecs.take (a.count * carriedWidth ld a.append * 2))),
      phase := .waiting, group := 0, promised := 0, chargeP := 0, thawStamp := none, respStamp := none, rows := [],
      kept := [], appended := 0, newTails := [], failed := 0, fenced := false, books := [] }
  let d := addTimer (addTimer d .thaw (d.tick + dl - 1) seq m.handle) .response (d.tick + dl) seq m.handle
  beginThaw { d with reqs := d.reqs ++ [r] } i

/-- The stamp of a request's arrival (TYPE 0x02), and what R650 and R651 make of it. -/
def stampAsk (d : Dev) (p cycle : Nat) (m : FabMsg) : Dev :=
  let d := stampAt d (portInput p) 0x02 0 (hPart m.handle) m.handle cycle
  { (if d.pwr.st = 1 then wake d else d) with pwr.busySimmer := true }

/-- R666: pipeline n is regrouped by the standby plan. -/
def regrouped (d : Dev) (n : Nat) : Bool := match d.plan.active, d.plan.standby with
  | some p, some q => p.groupSize != q.groupSize || q.retiredPipes.contains n
  | _, _ => false

/-- Some pipeline of group g of plan p is regrouped. -/
def groupRegrouped (d : Dev) (p : Plan) (g : Nat) : Bool :=
  (List.range p.groupSize).any fun k => regrouped d (g * p.groupSize + k)

/-- Ledger numbers of the requests that a manifest for the next tick places under the standby plan. -/
def underStandby (d : Dev) : List Nat := match d.plan.standby with
  | some q => manifestReqs d (d.plan.prepared.filter fun m => m.planId == q.planId) 1
  | none => []

/-- R666: no request admitted on a regrouped pipeline is unanswered. -/
def swapReady (d : Dev) : Bool := match d.plan.active with
  | some p => d.reqs.all fun r => r.phase == .waiting || (underStandby d).contains r.seq || !groupRegrouped d p r.group
  | none => true

/-- R58, R666: the plan of tick t. -/
def planFor (d : Dev) (t : Nat) : Option Plan := match d.plan.swapTick with
  | some k =>
    if t % 64 = 0 ∧ k ≤ t ∧ swapReady d then d.plan.standby.orElse fun _ => d.plan.active else d.plan.active
  | none => d.plan.active

/-- R666: from the tick that PLAN_SWAP names, regrouped pipelines take no request under the old plan. -/
def regroupBars (d : Dev) (p : Plan) (t g : Nat) : Bool := match d.plan.swapTick with
  | some k => decide (k ≤ t) && d.plan.active == some p && groupRegrouped d p g
  | none => false

/-- R292: a switch that began more than a tick before t covers pipeline n. -/
def inSwitch (d : Dev) (t n : Nat) : Bool :=
  d.mdl.switches.any fun w => decide (w.first ≤ n) && decide (n < w.first + w.size) && decide (w.start + 1 < t)

/-- The model that group g of plan p serves in tick t: all its pipelines SERVING and bound to it, and no switch on them
(R59, R200, R290, R292). -/
def groupModel (d : Dev) (p : Plan) (t g : Nat) : Option Nat :=
  let ns := (List.range p.groupSize).map fun k => g * p.groupSize + k
  match (ns.head?.bind (tget d.mdl.pipes)).bind (·.bound) with
  | some m =>
    if ns.all fun n => !inSwitch d t n && match tget d.mdl.pipes n with
      | some y => y.st == 1 && y.bound == some m
      | none => false then some m else none
  | none => none

/-- R294: some group of the active plan serves the model, or a switch from or to it runs. -/
def modelServed (d : Dev) (m : Nat) : Bool :=
  match d.plan.active with
  | none => false
  | some p => p.groupSize != 0 &&
    ((List.range (64 / p.groupSize)).any fun g => groupModel d p 0 g == some m) ||
    d.mdl.switches.any fun w => w.model == m ||
      ((tget d.mdl.pipes w.first).bind (·.bound)) == some m

/-- ATTN_REQ and APPEND_ONLY. -/
def askArrives (d : Dev) (p cycle : Nat) (m : FabMsg) (append : Bool) : Dev :=
  let a := askOf append m
  let type := if append then 0x03 else 0x01
  let over' := fun d => rejectAsk d m a (stw stLen 4) 0
  accept d p m type 1 over' fun d =>
    let seq := d.led.next
    let d := stampAsk d p cycle m
    match firstFail (headChecks d m) with
    | some st => rejectAsk d m a st seq
    | none => match live d m.handle with
      | none => rejectAsk d m a (stw stStale 5) seq
      | some i =>
        let d := modSess d i fun e => { e with lastTick := d.tick }
        let e := sess d i
        match stateStatus e with
        | some st => rejectAsk d m a st seq
        | none =>
          if !modelServed d e.model then rejectAsk (degrade d i stDegraded) m a (stw stDegraded 0) seq
          else match layerOf d e a.layer, e.layers[a.layer]?, modelDesc d e.model with
          | some ld, some x, some ds => match firstFail (askChecks x ld ds.maxQtok m.length a) with
            | some st => rejectAsk (if isInputReject st then bump d Addr.GEY_INPUT_REJ_CNT else d) m a st seq
            | none => admitAsk d m a i seq cycle ld
          | _, _, _ => rejectAsk d m a (stw stParam 6) seq

def execAttnReq (port cycle : Nat) (m : FabMsg) (s : State) : Host.Outcome State Fault Refusal :=
  serve s fun d => askArrives d port cycle m false

def execAppendOnly (port cycle : Nat) (m : FabMsg) (s : State) : Host.Outcome State Fault Refusal :=
  serve s fun d => askArrives d port cycle m true

/-! ## CONTROL_PAGE_THAW (R92, R141) -/

/-- The requests of a session that are not admitted and wait for page spn end with the code: those of its layer, or all for the control
page. -/
def endWaits (d : Dev) (i spn code : Nat) : Dev :=
  let e := sess d i
  let waits := fun (r : Req) => r.entry == i && r.phase == .waiting && (spn == e.ctrlSpn || match e.layers[r.layer]? with
    | some l => (layerControl d e r.layer l).contains spn
    | none => false)
  (d.reqs.filter waits).foldl (fun d r => endWaiting d r code) d

/-- R115: a fork of the session waits to begin or runs; no park or thaw of it is issued meanwhile. -/
def forking (d : Dev) (i : Nat) : Bool := d.pg.forks.any fun f => f.parent == i

/-- One control page's thaw. A lost page degrades the session (row 36, R159); a frame that cannot be had ends the requests that need it
with the status of its allocation (R148, R150). -/
def thawControl (i : Nat) (d : Dev) (n : Nat) : Dev :=
  if (sess d i).st = .thawing ∧ needsThaw d n then
    match thawPage d i (ownerOf d i) n with
    | .ok d1 => d1
    | .error c => endWaits (if c = stTierLost then degrade d i c else d) i n c
  else d

/-- The thaws of a THAWING session's control pages, the control page first, then in increasing layer order, in a data mover's SVC
slot of a tick after the arrival of a request (R128, R141). -/
def controlThaw (d : Dev) (i : Nat) : Dev :=
  let e := sess d i
  let early := (d.reqs.any fun r => r.entry == i) && d.reqs.all fun r => r.entry != i || r.tick == d.tick
  if e.st ≠ .thawing ∨ forking d i ∨ attachHolder d i ∨ early ∨ !svcSlot d .mover (ownerOf d i) then d
  else activate ((controlSpns d e).foldl (thawControl i) d) i

def execControlPageThaw (handle : Nat) (s : State) : Host.Outcome State Fault Refusal :=
  serve s fun d => match live d handle with
    | some i => controlThaw d i
    | none => d

/-! ## Admission (R58 to R66, R93, R510, R653) -/

/-- The FG slots of tick t in order of start cycle, with their indices in the plan. -/
def fgSlots (p : Plan) (t : Nat) : List (Nat × Slot) :=
  sortBy (fun a b : Nat × Slot => decide (a.2.start ≤ b.2.start))
    ((p.slots.zipIdx.filter fun q => q.1.cls == .fg && q.1.index == t % 64).map fun q => (q.2, q.1))

/-- R61: the stacks of a layer's resident pages. -/
def layerStacks (d : Dev) (x : LayerSt) : List Nat :=
  dedup ((x.pages.filterMap fun p => residentFrame d p.spn).map fun f =>
    match frame d f with
    | some y => if y.loc then [f % 8] else List.range 8
    | none => []).flatten

/-- R60: the page-visit charge. -/
def chargeOf (e : SessEnt) (r : Req) (resident : Nat) : Nat :=
  if r.append then 0
  else if e.select = 2 ∧ r.prefill = false then
    min resident (e.ctrl.topkK + e.ctrl.sinkPages + e.ctrl.recentPages)
  else resident

/-- R93: the tail page, or the state pages, of the layer are resident and decoded. -/
def tailReady (d : Dev) (kind : Nat) (x : LayerSt) : Bool :=
  let ns := if kind = 2 then x.pages else x.pages.getLast?.toList
  ns.all fun p => pageSt d p.spn == .new || ((residentFrame d p.spn).isSome && !isCoded d p.spn)

/-- R510: the uncaptured pages with SNAP clear that the request may write. -/
def promiseOf (d : Dev) (kind : Nat) (x : LayerSt) : Nat :=
  let ns := if kind = 2 then x.pages else x.pages.getLast?.toList
  (ns.filter fun p => uncaptured d p.spn && match pte d p.spn with
    | some q => !q.snap && q.tier != .never
    | none => false).length

/-- FSQ_MANIFEST_BASE: where firmware writes the manifest (R67). -/
def manBase (d : Dev) : Nat := rd d Addr.FSQ_MANIFEST_BASE_HI * 2 ^ 32 + rd d Addr.FSQ_MANIFEST_BASE_LO

/-- Where firmware puts the descriptor of entry k of the manifest for tick t: behind the room of 65,536 entries, by turns in one of
two areas (log 50). -/
def descAt (d : Dev) (t k : Nat) : Nat := manBase d + 2 ^ 21 + t % 2 * 2 ^ 25 + 512 * k

/-- The entry of kind 1 for slot idx as firmware has it so far. -/
def batchAt (d : Dev) (idx : Nat) : Option ManEnt := d.plan.prepared.find? fun m => m.slot == idx && m.kind == 1

/-- The requests of the slot's batch have this model and layer, and its charges leave room (R59, R60). -/
def entryTakes (d : Dev) (sl : Slot) (idx : Nat) (r : Req) (model cp : Nat) : Bool :=
  match batchAt d idx with
  | some m =>
    let rs := (descReqs d m).filterMap fun q => d.reqs.find? fun x => x.seq == q
    (rs.all fun x => x.layer == r.layer && (sess d x.entry).model == model) && decide (m.count < min 256 sl.limQ) &&
    decide (m.chargeP + cp ≤ sl.limP) && decide (m.chargeN + r.count ≤ sl.limN)
  | none => decide (0 < sl.limQ) && decide (cp ≤ sl.limP) && decide (r.count ≤ sl.limN)

/-- An entry and its descriptor join what firmware has for tick t. -/
def addEntry (d : Dev) (t : Nat) (m : ManEnt) (seqs : List Nat) : Dev :=
  let a := descAt d t d.plan.prepared.length
  { d with plan.prepared := d.plan.prepared ++ [{ m with desc := a }], plan.descs := tset d.plan.descs a seqs }

/-- The request joins the batch of slot idx. -/
def joinBatch (d : Dev) (t idx planId : Nat) (r : Req) (cp : Nat) : Dev :=
  match batchAt d idx with
  | some m =>
    let m1 := { m with count := m.count + 1, chargeP := m.chargeP + cp, chargeN := m.chargeN + r.count }
    { d with plan.prepared := d.plan.prepared.map fun q => if q = m then m1 else q,
             plan.descs := tset d.plan.descs m.desc (descReqs d m ++ [r.seq]) }
  | none => addEntry d t ⟨idx, SlotClass.fg.code, 1, 1, 0, cp, r.count, planId⟩ [r.seq]

/-- R56, R64: MANIFEST_CUTOFF of this tick's plan. -/
def cutoffNow (d : Dev) : Nat := match d.plan.active with
  | some p => p.cutoff
  | none => 27648

/-- One request offered to tick t (R64). -/
def admitOne (p : Plan) (t : Nat) (d : Dev) (seq : Nat) : Dev :=
  match d.reqs.find? fun r => r.seq == seq with
  | none => d
  | some r =>
    let e := sess d r.entry
    match layerOf d e r.layer, e.layers[r.layer]? with
    | some ld, some x =>
      if r.phase ≠ .waiting ∨ ¬ (r.tick < d.tick ∨ r.cycle < cutoffNow d) ∨ !tailReady d ld.kind x ∨ attaching d r.entry then d
      else
        let cp := chargeOf e r ((x.pages.filter fun q => (residentFrame d q.spn).isSome).length)
        let lst := layerStacks d x
        match (fgSlots p t).find? fun q => !regroupBars d p t q.2.unit && groupModel d p t q.2.unit == some e.model && q.2.models.contains e.model &&
            slotAdmits q.2 r.part && (lst.all fun k => q.2.stackSet.contains k) && entryTakes d q.2 q.1 r e.model cp with
        | none => d
        | some (idx, sl) =>
          let n := promiseOf d ld.kind x
          if unpromised d < n then bump d Addr.LAH_MARK_WAIT_CNT
          else
            let d := joinBatch d t idx p.planId r cp
            { d with lah.promised := d.lah.promised + n,
                     reqs := d.reqs.map fun q => if q.seq = r.seq then
                       { q with phase := .admitted, group := sl.unit, promised := n, chargeP := cp } else q }
    | _, _ => d

/-- The slots of a class in tick t, with their indices in the plan. -/
def slotsOfClass (p : Plan) (t : Nat) (c : SlotClass) : List (Slot × Nat) :=
  p.slots.zipIdx.filter fun q => q.1.cls == c && q.1.index == t % 64

/-- A launch or service item is offered to the first slot of tick t that takes it. -/
def offer (p : Plan) (t : Nat) (c : SlotClass) (kind count seq : Nat) (ok : Slot → Nat → Bool) (d : Dev) : Dev :=
  if (manifestReqs d d.plan.prepared kind).contains seq then d
  else match (slotsOfClass p t c).find? fun q => ok q.1 q.2 with
    | some (_, idx) => addEntry d t ⟨idx, c.code, kind, count, 0, 0, 0, p.planId⟩ [seq]
    | none => d

/-- R72: the launches that wait to be placed are offered, in ledger order, to the KERNEL slots of their pools; those of Mudpot
packages to the BG slots of page-summary upkeep, where the operator cores have a share (R411, R412). -/
def offerLaunches (p : Plan) (t : Nat) (d : Dev) : Dev :=
  (d.vnt.launches.filter fun l => l.placed.isNone).foldl (fun d l =>
    if (pkg d l.d.package).target = 1 then
      offer p t .bg 3 l.d.contexts l.cmd.seq (fun x _ => decide (0 < rd d Addr.MUD_OP_SHARE) && x.activity == 4 &&
        bit (p.bgAssign.getD 4 0) x.index) d
    else offer p t .kernel 3 l.d.contexts l.cmd.seq (fun x _ => x.kind == .ventCluster && slotAdmits x l.d.partition &&
      ((p.pools[l.d.pool]?).getD []).contains x.unit) d) d

/-- R331: cycles that a LOGITS takes of a sampler unit: its logits, the penalty entries, and the kept candidates of class D. -/
def samplerCycles (d : Dev) (l : LogitsReq) : Nat :=
  let c := (sess d l.entry).ctrl
  ceilDiv l.logits.length 64 + if c.sampling.cls = 0 then 0 else ceilDiv c.pen.length 8 + 4 * c.sampling.topK

/-- R331: the LOGITS that await a sampler unit are offered to the sampler units' SVC slots, one to a slot that is long enough. -/
def offerItems (p : Plan) (t : Nat) (d : Dev) : Dev :=
  (d.tok.logits.filter fun l => !l.sent && l.held.isNone).foldl (fun d l =>
    offer p t .svc 4 1 l.seq (fun x idx => x.kind == .sampler && slotAdmits x (hPart l.handle) &&
      decide (samplerCycles d l ≤ x.length) && !d.plan.prepared.any fun m => m.slot == idx) d) d

/-- R70: the merge batches of tick t: one for each MERGE slot whose group has requests that may have pages to merge then. -/
def mergeEnts (d : Dev) (p : Plan) (t : Nat) : List (ManEnt × List Nat) :=
  let placed := manifestReqs d d.plan.prepared 1
  (slotsOfClass p t .merge).filterMap fun (x, idx) =>
    let rs := (d.reqs.filter fun r => r.group == x.unit && r.phase != .waiting && !placed.contains r.seq).map (·.seq)
    if rs.isEmpty then none else some (⟨idx, SlotClass.merge.code, 2, min 256 rs.length, 0, 0, 0, p.planId⟩, rs)

/-- R67: the manifest for tick t is written into the Caldera from FSQ_MANIFEST_BASE up. -/
def writeManifest (d : Dev) (p : Plan) (t : Nat) : Dev :=
  let n := d.plan.prepared.length
  let ms := (mergeEnts d p t).zipIdx.map fun q => ({ q.1.1 with desc := descAt d t (n + q.2) }, q.1.2)
  let es := d.plan.prepared ++ ms.map (·.1)
  { d with plan.descs := ms.foldl (fun t q => tset t q.1.desc q.2) d.plan.descs,
           plan.caldera := Memory.writeBytes d.plan.caldera (manBase d) (es.map manBytes).flatten }

/-- MANIFEST_PREPARE: the waiting requests in ledger order are offered to the next tick, and the launches and service items that
wait. No FG work is admitted while the device is not ACTIVE (R651), and no FG or KERNEL work into a tick of odd frame index while
THROTTLE is 1 (R653). -/
def manifestPrepare (d : Dev) : Dev :=
  let t := d.tick + 1
  let d := if d.reqs.isEmpty then d else { d with pwr.busySimmer := true }
  match planFor d t with
  | none => d
  | some p =>
    if !mgmtSlot d then d
    else
      let hot := d.pwr.throttle && t % 2 == 1
      let d := if d.pwr.st ≠ 0 ∨ hot then d else (d.reqs.map (·.seq)).foldl (admitOne p t) d
      let d := if hot then d else offerLaunches p t d
      writeManifest (offerItems p t d) p t

def execManifestPrepare (s : State) : Host.Outcome State Fault Refusal := serve s manifestPrepare

/-- Requests admitted for work that did not run keep their ledger order and are offered again (R68). -/
def unadmit (d : Dev) (seqs : List Nat) : Dev :=
  let back := (d.reqs.filter fun r => seqs.contains r.seq && r.phase == .admitted)
  { d with lah.promised := d.lah.promised - (back.map (·.promised)).sum,
           reqs := d.reqs.map fun r => if seqs.contains r.seq && r.phase == .admitted then
             { r with phase := .waiting, promised := 0 } else r }

/-! ## Appends (R29, R30, R101, R120, R172, R207, R211) -/

/-- A request's record replaced. -/
def setReq (d : Dev) (r : Req) : Dev := { d with reqs := d.reqs.map fun q => if q.seq = r.seq then r else q }

/-- A new page of entry i that a first Write has given its frame. -/
def newPage (d : Dev) (i p : Nat) (place : Dev → Nat → Dev) : Res Dev :=
  match allocSpn d i with
  | .error e => .error e
  | .ok (n, d1) => writeEvent (place d1 n) i p n false

/-- R101, R111: the Write events of a change of layer l's page list: on the page of the directory, and on the pages of the lists from
layer l's own on. -/
def writeMeta (d : Dev) (i p l : Nat) : Res Dev :=
  let e := sess d i
  let ns := ((e.dirSpn :: e.metaSpns).zipIdx.filter fun q => q.2 == 0 || decide (listPlace e l / 65536 ≤ q.2)).map (·.1)
  ns.foldl (fun acc n => match acc with
    | .error c => .error c
    | .ok d => writeEvent d i p n false) (.ok d)

/-- The metadata and summary pages that one more page of layer l needs. -/
def growLists (d : Dev) (i p l : Nat) (ld : LayerDesc) : Res Dev :=
  let e := sess d i
  match e.layers[l]? with
  | none => .ok d
  | some x =>
    let d1 := if ld.kind ≠ 2 ∧ x.sumSpns.length * sumPerPage ld ≤ x.pages.length then
        newPage d i p fun d n => modLayer d i l fun x => { x with sumSpns := x.sumSpns ++ [n] }
      else .ok d
    match d1 with
    | .error e => .error e
    | .ok d1 =>
      if (sess d1 i).metaSpns.length < metaNeeded (sess d1 i) then
        newPage d1 i p fun d n => modSess d i fun e => { e with metaSpns := e.metaSpns ++ [n] }
      else .ok d1

/-- R120, R211: a new tail page at the end of layer l that starts at position `first`. -/
def newTail (d : Dev) (i p l first : Nat) (ld : LayerDesc) : Res (Nat × Dev) :=
  let prev := ((sess d i).layers[l]?).bind fun x => x.pages.getLast?
  match (growLists d i p l ld).bind fun d1 => writeMeta d1 i p l with
  | .error e => .error e
  | .ok d1 => match allocSpn d1 i with
    | .error e => .error e
    | .ok (n, d2) =>
      let d3 := modLayer d2 i l fun x => { x with pages := x.pages ++ [⟨n, first, SumEnt.none' n⟩] }
      .ok (n, match prev with
        | some q => if ld.kind = 2 then d3 else { d3 with vnt.sumQ := d3.vnt.sumQ ++ [⟨i, l, q.spn, d3.tick⟩] }
        | none => d3)

/-- One token's entry written as row `row` of a page. -/
def writeRow (d : Dev) (ld : LayerDesc) (spn row p : Nat) (tok : List F32) : Dev :=
  (storedEntry ld p tok).zipIdx.foldl (fun d (kv, h) =>
    let d := writePage d spn (keyOff ld h row) (patBytes ld.elem kv.1)
    if ld.kind = 1 then d else writePage d spn (valOff ld h row) (patBytes ld.elem kv.2)) d

/-- The Write event on a page of the request, its promised frames counted down with the marks that take them. -/
def reqWrite (d : Dev) (r : Req) (spn : Nat) : Res (Dev × Req) :=
  match writeEvent d r.entry r.part spn (decide (0 < r.promised)) with
  | .error e => .error e
  | .ok d1 => .ok (d1, { r with promised := r.promised - (d.lah.promised - d1.lah.promised) })

/-- The append, page by page: the device, the request and the code it ends with. -/
def appendLoop (ld : LayerDesc) : Nat → Dev → Req → Dev × Req × Nat
  | 0, d, r => (d, r, stOk)
  | fuel + 1, d, r =>
    if r.count ≤ r.appended then (d, r, stOk)
    else
      let pos := r.first + r.appended
      let tail := ((sess d r.entry).layers[r.layer]?).bind fun x => x.pages.getLast?
      let room := match tail with
        | some q => if isCoded d q.spn then 0 else pagePos ld - (pos - q.first)
        | none => 0
      match tail with
      | some q =>
        if 0 < room then
          match reqWrite d r q.spn with
          | .error c => (d, r, c)
          | .ok (d1, r1) =>
            let n := min room (r.count - r.appended)
            let d2 := (List.range n).foldl (fun d k =>
              writeRow d ld q.spn (pos + k - q.first) (pos + k) (tokenVecs ld r.vecs (r.appended + k))) d1
            appendLoop ld fuel d2 { r1 with appended := r.appended + n }
        else match newTail d r.entry r.part r.layer pos ld with
          | .error c => (d, r, c)
          | .ok (n, d1) => appendLoop ld fuel d1 { r with newTails := r.newTails ++ [n] }
      | none => match newTail d r.entry r.part r.layer pos ld with
        | .error c => (d, r, c)
        | .ok (n, d1) => appendLoop ld fuel d1 { r with newTails := r.newTails ++ [n] }

/-- The request ends with a code that its work produced: unreadable data degrades the session too (R96). -/
def failReq (d : Dev) (r : Req) (code : Nat) : Dev :=
  let d := if [stUncorr, stTierLost, stCodec].contains code then degrade d r.entry code else d
  endReq (setReq d r) r code []

/-- A copy or append that could not go on. Code 0 (R700): no reserve frame for a mark; the request waits again. -/
def appendFailed (d : Dev) (r : Req) (code : Nat) : Dev :=
  if code = 0 then
    let d := unadmit (bump (discardAppend d r) Addr.LAH_MARK_WAIT_CNT) [r.seq]
    setReq d { r with phase := .waiting, promised := 0, appended := 0, newTails := [] }
  else
    let bad := ((sess d r.entry).layers[r.layer]?).bind fun x =>
      badAmong d (x.pages.filterMap fun q => residentFrame d q.spn)
    failReq (match code == stUncorr, bad with
      | true, some c => noteUncorrectable d c
      | _, _ => d) r code

/-! ## Pages as the pipelines read them -/

/-- A page from `first` to `stop`: its contents, or the code that its reading gives. -/
def pageData (d : Dev) (e : SessEnt) (l : Nat) (ld : LayerDesc) (spn first stop : Nat) : Except Nat (Nat × PageData) :=
  match residentFrame d spn, pte d spn with
  | some f, some q =>
    if badFrame d f then .error stUncorr
    else if q.cmp then match readCoded d e l ld q first stop with
      | some (no, hs) => .ok (no, .coded hs)
      | none => .error stCodec
    else
      let page := readFrame d f 0 65536
      .ok (0, .dense ((List.range ld.kvh).map fun h =>
        (List.range (stop - first)).map fun k => denseKey ld page h k (first + k)))
  | _, _ => .error stTierLost

/-- The error that a failing read leaves behind (R250, R428). -/
def noteReadError (d : Dev) (spn own code : Nat) : Dev :=
  if code = stCodec then noteDamage d spn own
  else match (residentFrame d spn).bind fun f => (badCws d).find? fun c => c.frame == f with
    | some c => noteUncorrectable d c
    | none => d

/-- The group's size under the active plan. -/
def groupSizeOf (d : Dev) : Nat := match d.plan.active with
  | some p => p.groupSize
  | none => 1

/-- The mask bitmap of a request. -/
def maskOf (r : Req) : Option MaskMap := r.maskCols.map fun (b, c) => ⟨b, c, r.maskRows⟩

/-- UK_h and UV_h of a layer from the model image (R170). -/
def modelMat (d : Dev) (e : SessEnt) (ld : LayerDesc) (off rows h : Nat) : Fp8Mat :=
  let n := rows * ld.latent
  match tget d.mdl.slots e.model with
  | some m => ⟨ld.latent, imageBytes d m.img (off + h * n) n⟩
  | none => ⟨ld.latent, []⟩

/-- R289, R427: the first uncorrectable codeword of what a LATENT layer batch reads of the model. -/
def modelFault (d : Dev) (r : Req) (ld : LayerDesc) : Option CwAddr :=
  if ld.kind ≠ 1 then none
  else match tget d.mdl.slots (sess d r.entry).model with
    | some m =>
      let n := fun rows => ld.qh * (4 + rows * ld.latent)
      (imageBad d m.img (ld.ukOff - 4 * ld.qh) (n ld.headDim)).or (imageBad d m.img (ld.uvOff - 4 * ld.qh) (n ld.vDim))
    | none => none

/-- The query rows of a request. -/
def rowsOfReq (d : Dev) (r : Req) (ld : LayerDesc) : List QRow :=
  queryRows ld (modelMat d (sess d r.entry) ld ld.ukOff ld.headDim) r.first r.count r.vecs

/-- The request's own entries as a last page (log 24). -/
def ownPage (ld : LayerDesc) (r : Req) : PageData :=
  let es := (List.range r.count).map fun t =>
    entryKeys ld (r.first + t) (storedEntry ld (r.first + t) (tokenVecs ld r.vecs t))
  .dense ((List.range ld.kvh).map fun h => es.filterMap fun e => e[h]?)

/-! ## Selection (R201 to R206, R224) -/

/-- R204, R205, R209: the candidates of a request: the pages of its layer's list as its append leaves it. -/
def candidates (d : Dev) (r : Req) (x : LayerSt) : List Cand :=
  let x := { x with len := r.first + r.appended }
  x.pages.zipIdx.map fun (q, k) =>
    let stop := pageEnd x k
    { index := k, spn := q.spn, first := q.first, stop := stop, coded := isCoded d q.spn, tail := k + 1 == x.pages.length,
      sum := if q.sum.valid && q.sum.spn == q.spn && q.sum.posCount == stop - q.first then some q.sum else none }

/-- The mode that selection runs in (R201). -/
def selectMode (d : Dev) (r : Req) : Nat := if r.prefill then 0 else (sess d r.entry).select

/-- R427: the first summary page that selection reads and that holds an uncorrectable codeword. -/
def sumFault (d : Dev) (r : Req) (ld : LayerDesc) (x : LayerSt) (rows : List QRow) : Option CwAddr :=
  let ks := summaryRead ld rows (maskOf r) (selectMode d r) (sess d r.entry).ctrl (candidates d r x)
  badAmong d (ks.filterMap fun c => (x.sumSpns[c.index / sumPerPage ld]?).bind (pageFrame d))

/-- The choice for every page and the counters of R224. -/
def selectFor (d : Dev) (r : Req) (ld : LayerDesc) (x : LayerSt) (rows : List QRow) : List (Cand × Choice) × Dev :=
  let c := (sess d r.entry).ctrl
  let mode := selectMode d r
  let cs := candidates d r x
  let out := selectPages ld rows (maskOf r) mode c cs
  let n := fun c => (out.filter fun q => q.2 == c).length
  let nosum := ((summaryRead ld rows (maskOf r) mode c cs).filter fun q => q.sum.isNone).length
  let d := bumpBy (bumpBy (bumpBy (bumpBy d Addr.GEY_SEL_KEPT_CNT (n .kept)) Addr.GEY_SEL_DROP_CNT
    (n .dropped)) Addr.GEY_SEL_SKIP_CNT (n .skipped)) Addr.GEY_SEL_NOSUM_CNT nosum
  (out, d)

/-- The thaws of the kept pages that are not resident (R142 to R144): the pages left to wait for, or a code. A fork of the session
puts them off (R115). -/
def thawKept (d : Dev) (r : Req) : List Cand → Dev × List KeptPage × Option Nat
  | [] => (d, [], none)
  | c :: rest =>
    if (residentFrame d c.spn).isSome then thawKept d r rest
    else if forking d r.entry ∧ needsThaw d c.spn then
      let q := thawKept d r rest
      (q.1, ⟨c.spn, c.first, none, 0, none⟩ :: q.2.1, q.2.2)
    else match thawPage d r.entry r.part c.spn with
      | .error e => (d, [], some e)
      | .ok d1 =>
        let d2 := if pageSt d c.spn = .tephra then bump d1 Addr.GEY_SEL_THAW_CNT else d1
        let q := thawKept d2 r rest
        if (residentFrame d1 c.spn).isSome then q
        else (q.1, ⟨c.spn, c.first, none, 0, none⟩ :: q.2.1, q.2.2)

/-- R115: the thaws that a fork of entry i put off, once it has ended. A page that its twin brings in at once has arrived. -/
def thawPutOff (d : Dev) (i : Nat) : Dev :=
  if forking d i then d
  else
    let ns := dedup ((d.reqs.filter fun r => r.entry == i && r.phase == .merging).map fun r =>
      (r.kept.filter fun k => k.arrSeq.isNone && needsThaw d k.spn).map (·.spn)).flatten
    ns.foldl (fun d n => match thawPage d i (ownerOf d i) n with
      | .ok d1 => if (residentFrame d1 n).isSome then noteArrival d1 n d1.led.next else d1
      | .error c => failKept d n c) d

/-! ## The code store (R247) -/

/-- Changes of book along the coded pages that a pipeline visits. -/
def bookChanges : List Nat → Nat
  | a :: b :: r => (if a = b then 0 else 1) + bookChanges (b :: r)
  | _ => 0

/-- Sweeps of a pipeline that has `rows` rows in the request, under format fm. -/
def sweepsOf (fm : Fmt) (ld : LayerDesc) (rows : Nat) : Nat :=
  let stages := if fm.refMax = 0 then 1 else 2
  let buckets := if ld.kind = 1 then ld.latent / fm.dk * stages else valSubs fm ld
  let pass := 8 * keySubs fm ld * stages
  ceilDiv (ceilDiv rows 8) (max 1 ((1024 - 8 * buckets) / pass))

/-- The sweeps where pages of several formats are kept: as many as the widest of them takes. -/
def sweepsFor (d : Dev) (ld : LayerDesc) (rows : Nat) (fmts : List Nat) : Nat :=
  (fmts.filterMap fun f => (tget d.snt.fmts f).map fun fm => sweepsOf fm ld rows).foldl max 1

/-- What a pipeline of a group of g sees of a request: its rows, and of a list of pages those that it attends (R166). -/
def pipeShare {α : Type} (ld : LayerDesc) (g count i : Nat) (pages : List α) : Nat × List α :=
  if g ≤ ld.kvh then (count * (ld.qh / ld.kvh) * ((List.range ld.kvh).filter fun h => h % g == i).length, pages)
  else (count * ld.qh, every pages i g)

/-- The extra sweeps and the rebuilds of a request whose resident kept pages have these formats and name these books (0 for a dense
page), and the book that each pipeline's store holds then. -/
def countCodes (d : Dev) (ld : LayerDesc) (g count : Nat) (fmts books : List Nat) : Dev × List Nat :=
  let pipes := (List.range g).map fun i =>
    let (rows, bs) := pipeShare ld g count i books
    let s := sweepsFor d ld rows fmts
    let coded := bs.filter (· != 0)
    if coded.isEmpty then (0, 0, 0) else (s - 1, bookChanges (List.replicate s coded).flatten, coded.getLastD 0)
  (bumpBy (bumpBy d Addr.GEY_CODE_SWEEP_CNT ((pipes.map (·.1)).sum)) Addr.GEY_CODE_REBUILD_CNT ((pipes.map (·.2.1)).sum),
   pipes.map (·.2.2))

/-- R247: a thawed page of book `no` in the MERGE slot: each pipeline that attends it rebuilds its tables when its store holds another book
of the request's. A page that R166 would deal out is attended by the group's first pipeline: DESIGN CHOICE (log 24). -/
def mergeCodes (d : Dev) (ld : LayerDesc) (r : Req) (no : Nat) : Dev × Req :=
  if no = 0 then (d, r)
  else
    let on := fun i => decide (r.books.length ≤ ld.kvh) || i == 0
    let n := (r.books.zipIdx.filter fun (b, i) => on i && b != 0 && b != no).length
    (bumpBy d Addr.GEY_CODE_REBUILD_CNT n, { r with books := r.books.zipIdx.map fun (b, i) => if on i then no else b })

/-! ## The answer -/

/-- R188, R465: the output of a request from its rows' final states. -/
def outputOf (d : Dev) (r : Req) (ld : LayerDesc) (rows : List (Nat × RowSt)) : List Byte :=
  let uv := modelMat d (sess d r.entry) ld ld.uvOff ld.vDim
  outBytes (outFmtOf d r.entry) ((rows.map fun (h, st) => finishRow ld uv h st).flatten)

/-- The heads of the rows in order of token, then head. -/
def rowHeads (ld : LayerDesc) (count : Nat) : List Nat := ((List.range count).map fun _ => List.range ld.qh).flatten

/-- R193: the resident state first, then each thawed page's in increasing first position, and the answer. -/
def finishReq (d : Dev) (r : Req) (ld : LayerDesc) : Dev :=
  let ks := sortBy (fun a b : KeptPage => decide (a.first ≤ b.first)) r.kept
  let rows := r.rows.zipIdx.map fun (st, i) =>
    ks.foldl (fun st k => match k.merged.bind fun m => m[i]? with
      | some x => foldRows st x
      | none => st) st
  endReq (setReq d r) r stOk (outputOf d r ld ((rowHeads ld r.count).zip rows))

/-! ## LAYER_BATCH -/

/-- R190: the resident kept pages in page-list order, with the positions they held before the append (R176), or the first failing
read. -/
def readKept (d : Dev) (r : Req) (ld : LayerDesc) : List Cand → Except (Nat × Nat) (List (Nat × PageData))
  | [] => .ok []
  | c :: rest =>
    if (residentFrame d c.spn).isNone ∨ r.first ≤ c.first then readKept d r ld rest
    else match pageData d (sess d r.entry) r.layer ld c.spn c.first (min c.stop r.first) with
      | .error e => .error (c.spn, e)
      | .ok p => match readKept d r ld rest with
        | .error e => .error e
        | .ok ps => .ok (p :: ps)

/-- R156: the slot that holds a late page: that of its transfer, or of the copy that it came from. -/
def lateSlot (d : Dev) (spn : Nat) : Option Nat :=
  match d.pg.xfers.find? fun x => x.spns.contains spn || x.later.contains spn with
  | some x => some (slotOf x.addr)
  | none => match (pageFrame d spn).bind (frame d) with
    | some f => if f.tv then some (slotOf f.twin) else none
    | none => none

/-- R156: one late thaw for each of the pages. -/
def noteLateThaws (d : Dev) (ks : List KeptPage) : Dev :=
  ks.foldl (fun d k => match lateSlot d k.spn with
    | some n => bump d (Addr.TMC_TGT_LATE_CNT n)
    | none => d) d

/-- Attention over the resident pages once the append is made. A request that is late already, in tick T + d or after, is answered
at once: the MERGE slot of its tick has passed (R32, R71, log 45). -/
def attendReq (d : Dev) (r : Req) (ld : LayerDesc) (x : LayerSt) : Dev :=
  let rows := rowsOfReq d r ld
  match modelFault d r ld, sumFault d r ld x rows with
  | some c, _ => endReq (setReq (noteUncorrectable d c) r) r stUncorr []
  | none, some c => failReq (noteUncorrectable d c) r stUncorr
  | none, none =>
  let (choice, d) := selectFor d r ld x rows
  let kept := (choice.filter fun q => q.2 == .kept).map (·.1)
  let (d, wait, err) := thawKept d r kept
  match err with
  | some e => failReq d r e
  | none =>
    let res := kept.filter fun c => !(wait.any fun k => k.spn == c.spn)
    match readKept d r ld res with
    | .error (spn, e) => failReq (noteReadError d spn r.part e) r e
    | .ok pages =>
      let g := groupSizeOf d
      let coded := (pages.filter fun q => q.1 != 0).length
      let fmts := res.filterMap fun c => match pte d c.spn with
        | some q => if q.cmp then some q.fmt else none
        | none => none
      let d := bumpBy (bumpBy d Addr.GEY_VISIT_DENSE_CNT (pages.length - coded)) Addr.GEY_VISIT_CODE_CNT coded
      let (d, books) := countCodes d ld g r.count fmts (pages.map (·.1))
      let sts := rows.map (attendRow ld (maskOf r) g (pages.map (·.2) ++ [ownPage ld r]))
      let late := if r.thawStamp.isSome && !wait.isEmpty then stTierLate else 0
      let d := if late = 0 then d else noteLateThaws d wait
      let r := { r with rows := sts, kept := wait, phase := .merging, failed := late, books := books }
      if wait.isEmpty then finishReq (setReq d r) r ld
      else if late ≠ 0 ∧ r.tick + r.deadline ≤ d.tick then endReq (setReq d r) r stTierLate []
      else setReq d r

/-- R195 to R197: a RECURRENT request. -/
def recurReq (d : Dev) (r : Req) (ld : LayerDesc) (x : LayerSt) : Dev :=
  let copied := x.pages.foldl (fun (acc : Except (Nat × Dev × Req) (Dev × Req)) q => match acc with
    | .error e => .error e
    | .ok (d, r) => if badFrame d ((residentFrame d q.spn).getD 6291456) then .error (stUncorr, d, r)
      else match reqWrite d r q.spn with
        | .ok y => .ok y
        | .error c => .error (c, d, r)) (.ok (d, r))
  match copied with
  | .error (c, d, r) => appendFailed d r c
  | .ok (d, r) =>
    let states := statesOf ld (stateStreamOf d x ld)
    let toks := (List.range r.count).map (tokenVecs ld r.vecs)
    let (s', out) := recurRun ld states toks
    let d := bumpBy d Addr.GEY_RECUR_TOK_CNT r.count
    let d := if r.fenced then d
      else
        let bytes := stateStream ld s'
        x.pages.zipIdx.foldl (fun d (q, k) => writePage d q.spn 0 ((bytes.drop (k * 65536)).take 65536)) d
    let r := { r with appended := r.count, phase := .merging }
    endReq (setReq d r) r stOk (outBytes (outFmtOf d r.entry) out)

/-- An earlier request of the session and layer has appended at this position and is not answered yet: DESIGN CHOICE, the position is
taken (log 45). -/
def appending (d : Dev) (r : Req) : Bool :=
  d.reqs.any fun q => q.seq != r.seq && q.entry == r.entry && q.layer == r.layer && decide (0 < q.appended)

/-- One request of a layer batch. -/
def runReq (d : Dev) (seq : Nat) : Dev :=
  match d.reqs.find? fun r => r.seq == seq && r.phase == .admitted with
  | none => d
  | some r =>
    let d := meter (meter d r.part 3 r.chargeP) r.part 4 r.count
    let e := sess d r.entry
    match layerOf d e r.layer, e.layers[r.layer]? with
    | some ld, some x =>
      if r.first ≠ x.len ∨ appending d r then endReq d r stParam []
      else if ld.kind = 2 then recurReq d r ld x
      else
        let (d, r, c) := appendLoop ld (2 * r.count + 2) d r
        let d := setReq d r
        if c ≠ stOk then appendFailed d r c
        else if r.append then endReq d r stOk []
        else match (sess d r.entry).layers[r.layer]? with
          | some x => attendReq d r ld x
          | none => d
    | _, _ => d

/-- The latched entry of a slot and kind. -/
def latchedAt (d : Dev) (idx kind : Nat) : Option ManEnt := d.plan.latched.find? fun m => m.slot == idx && m.kind == kind

/-- LAYER_BATCH: the batch of an FG slot of this tick. -/
def layerBatch (d : Dev) (idx : Nat) (decay : List CwErr) : Dev :=
  let d := decay.foldl readErrs d
  match d.plan.active, latchedAt d idx 1 with
  | some p, some m =>
    if d.plan.missed then d
    else
      let d := { d with plan.latched := d.plan.latched.filter fun q => !(q.slot == idx && q.kind == 1),
                        pwr.busySimmer := true }
      if m.planId ≠ p.planId then unadmit (bump d Addr.FSQ_MANIFEST_SKIP_CNT) (descReqs d m)
      else (descReqs d m).foldl runReq d
  | _, _ => d

def execLayerBatch (slot : Nat) (decay : List CwErr) (s : State) : Host.Outcome State Fault Refusal :=
  serve s fun d => layerBatch d slot decay

/-! ## MERGE_SLOT (R70, R71, R193) -/

/-- A page waiting to be merged: the request, the page, the number of its arrival. -/
structure Carry where
  req : Nat
  page : KeptPage
  num : Nat

/-- The pages of a group's requests that have arrived in earlier ticks and wait, in the order of their stamps. -/
def carried (d : Dev) (g : Nat) : List Carry :=
  let cs := (d.reqs.filter fun r => r.group == g && r.phase == .merging && r.failed == 0).map fun r =>
    r.kept.filterMap fun k => match k.arrSeq with
      | some n => if k.merged.isNone && decide (k.arrTick < d.tick) then some (⟨r.seq, k, n⟩ : Carry) else none
      | none => none
  sortBy (fun a b : Carry => a.num == b.num || before a.num b.num) cs.flatten

/-- One page merged: attended into a fresh state of its own for every row (R193). -/
def mergeOne (d : Dev) (c : Carry) : Dev :=
  match d.reqs.find? fun r => r.seq == c.req with
  | none => d
  | some r =>
    let e := sess d r.entry
    match layerOf d e r.layer, e.layers[r.layer]? with
    | some ld, some x =>
      let k := (x.pages.findIdx? fun q => q.spn == c.page.spn).getD 0
      match pageData d e r.layer ld c.page.spn c.page.first (min (pageEnd x k) r.first) with
      | .error code => failReq (noteReadError d c.page.spn r.part code) r code
      | .ok (no, p) =>
        let sts := (rowsOfReq d r ld).map fun q => attendThawed ld (maskOf r) q p
        let (d, r) := mergeCodes (bump d (if no = 0 then Addr.GEY_VISIT_DENSE_CNT else Addr.GEY_VISIT_CODE_CNT)) ld r no
        setReq d { r with kept := r.kept.map fun q => if q.spn = c.page.spn then { q with merged := some sts } else q }
    | _, _ => d

/-- What the slot does with a request of its group once the pages are merged: the answer of a complete one, or the end
of one that is late at tick T + d (R71). -/
def settleReq (d : Dev) (seq : Nat) : Dev :=
  match d.reqs.find? fun r => r.seq == seq with
  | none => d
  | some r =>
    let due := decide (r.tick + r.deadline ≤ d.tick)
    if r.failed = 0 ∧ (r.kept.all fun k => k.merged.isSome) then
      match layerOf d (sess d r.entry) r.layer with
      | some ld => finishReq d r ld
      | none => d
    else if due then endReq d r stTierLate []
    else d

/-- MERGE_SLOT: at most M pages of the group's requests; the rest are carried. -/
def mergeSlot (d : Dev) (idx : Nat) (decay : List CwErr) : Dev :=
  let d := decay.foldl readErrs d
  match d.plan.active.bind fun p => p.slots[idx]? with
  | some sl =>
    if sl.cls ≠ .merge ∨ sl.index ≠ d.tick % 64 ∨ d.plan.missed ∨ (latchedAt d idx 2).isNone then d
    else
      let d := { d with plan.latched := d.plan.latched.filter fun q => !(q.slot == idx && q.kind == 2) }
      let cs := carried d sl.unit
      let d := if cs.isEmpty then d else { d with pwr.busySimmer := true }
      let d := (cs.take sl.limM).foldl mergeOne d
      let d := bumpBy d Addr.GEY_MERGE_CARRY_CNT (cs.length - sl.limM)
      ((d.reqs.filter fun r => r.group == sl.unit && r.phase == .merging).map (·.seq)).foldl settleReq d
  | none => d

def execMergeSlot (slot : Nat) (decay : List CwErr) (s : State) : Host.Outcome State Fault Refusal :=
  serve s fun d => mergeSlot d slot decay

/-! ## Expiries (R66, R71, R77) -/

/-- A kept page whose arrival is not stamped before number n. -/
def lateAt (n : Nat) (k : KeptPage) : Bool := match k.arrSeq with
  | some a => !before a n
  | none => true

/-- THAW_EXPIRY: the request ends with ST_TIER_LATE in the MERGE slot of tick T + d where a kept page had not arrived. -/
def thawExpiry (d : Dev) (seq : Nat) : Dev :=
  match expiredAt d .thaw seq with
  | none => d
  | some n =>
    let d := dropTimer d .thaw seq
    let d := match d.reqs.find? fun r => r.seq == seq with
      | some r => noteLateThaws d (r.kept.filter (lateAt n))
      | none => d
    { d with reqs := d.reqs.map fun r => if r.seq = seq then
        { r with thawStamp := some n,
                 failed := if r.phase = .merging ∧ (r.kept.any (lateAt n)) then stTierLate else r.failed } else r }

def execThawExpiry (seq : Nat) (s : State) : Host.Outcome State Fault Refusal := serve s fun d => thawExpiry d seq

/-- RESPONSE_EXPIRY: the response is late from now on; its handover records the LATE_RSP (R66). -/
def responseExpiry (d : Dev) (seq : Nat) : Dev :=
  match expiredAt d .response seq with
  | none => d
  | some n => { d with reqs := d.reqs.map fun r => if r.seq = seq then { r with respStamp := some n } else r }

def execResponseExpiry (seq : Nat) (s : State) : Host.Outcome State Fault Refusal :=
  serve s fun d => responseExpiry d seq

/-! ## SUMMARY_BUILD (R208 to R213, R244, R250, R698) -/

/-- Lower and upper bounds of one component over values, exact or rounded outward. -/
def boundsOf (l : List (F32 × F32)) : F32 × F32 :=
  (l.foldl (fun a x => fMin a x.1) f32Inf, l.foldl (fun a x => fMax a x.2) f32NegInf)

/-- R244: the bounds extended so that the larger magnitude covers `m`. -/
def extend (b : F32 × F32) (m : F32) : F32 × F32 :=
  if fLe m (fMax (fAbs b.1) (fAbs b.2)) then b
  else if fLe (fAbs b.1) (fAbs b.2) then (b.1, m) else (fNeg m, b.2)

/-- R210: a head's block from the bounds of its components. -/
def sumHead (elem : Nat) (coded : Bool) (bs : List (F32 × F32)) : SumHead :=
  let a := bs.foldl (fun m b => fMax m (fMax (fAbs b.1) (fAbs b.2))) 0
  let sc := if elem = 0 ∧ coded = false then f32One else pow2Scale a
  let cv := fun rm x => BitVec.ofNat 8 (fmtE4.encode rm ((un x).div (un sc)))
  { scale := sc, lo := bs.map fun b => cv .down b.1, hi := bs.map fun b => cv .up b.2 }

/-- The bounds of a dense head, in stored units. -/
def denseBounds (ks : List KeyPos) (e : Nat) : List (F32 × F32) :=
  (List.range e).map fun c => boundsOf (ks.map fun k => (fAt k.key c, fAt k.key c))

/-- The bounds of a coded head, in real units, with R244. -/
def codedBounds (b : HeadBook) (ps : List CodePos) (e : Nat) : List (F32 × F32) :=
  let vs := ps.map fun p =>
    let cent := decodeVec b.base b.dk p.keys
    let ref := match p.refs with
      | some r => decodeVec b.refine b.dk r
      | none => List.replicate e 0
    (cent, ref)
  (List.range e).map fun c =>
    let bd := boundsOf (vs.map fun v => (dAdd .down (fAt v.1 c) (fAt v.2 c), dAdd .up (fAt v.1 c) (fAt v.2 c)))
    let m := vs.foldl (fun m v => fMax m (dAdd .up (fAbs (fAt v.1 c)) (fAbs (fAt v.2 c)))) 0
    if b.refine.isEmpty then bd else extend bd m

/-- The blocks of a page's entry. -/
def sumHeads (ld : LayerDesc) : PageData → List SumHead
  | .dense hs => hs.map fun ks => sumHead ld.elem false (denseBounds ks (keyDim ld))
  | .coded hs => hs.map fun (b, ps) => sumHead ld.elem true (codedBounds b ps (keyDim ld))

/-- The stack of a frame that holds a LOC = 1 page. -/
def stackOf (f : Nat) : Nat := f % 8

/-- The job leaves the queue. -/
def dropJob (d : Dev) (i l spn : Nat) : Dev :=
  { d with vnt.sumQ := d.vnt.sumQ.filter fun j => !(j.entry == i && j.layer == l && j.spn == spn) }

/-- R405, R698: the page's frame and the frame of its summary page lie on one stack. -/
def oneStack (d : Dev) (x : LayerSt) (ld : LayerDesc) (k f : Nat) : Bool :=
  match (x.sumSpns[k / sumPerPage ld]?).bind (pageFrame d) with
  | some g => stackOf f == stackOf g
  | none => false

/-- R660: a job on a frame that the migration cursor has not passed waits. -/
def sumWaits (d : Dev) (x : LayerSt) (ld : LayerDesc) (k f : Nat) : Bool :=
  inWindow d f || ((x.sumSpns[k / sumPerPage ld]?).bind (pageFrame d)).any (inWindow d)

/-- SUMMARY_BUILD of the entry at index k. -/
def summaryBuild (d : Dev) (i l k : Nat) : Dev :=
  let e := sess d i
  if d.pwr.fumarole then d
  else
  match layerOf d e l, e.layers[l]? with
  | some ld, some x => match x.pages[k]? with
    | none => d
    | some q => match d.vnt.sumQ.find? (fun j => j.entry == i && j.layer == l && j.spn == q.spn), residentFrame d q.spn with
      | some job, some f =>
        if sumWaits d x ld k f ∨ !((bgSlotsNow d).any fun y => y.activity == 4 && onStack y (stackOf f)) then d else
        let d := dropJob d i l q.spn
        if !oneStack d x ld k f then bump d Addr.MUD_SUM_SPLIT_CNT
        else
          let stop := pageEnd x k
          match pageData d e l ld q.spn q.first stop with
          | .error code => noteReadError d q.spn (frameOwner d f) code
          | .ok (_, p) =>
            let ent : SumEnt := { valid := true, spn := q.spn, posCount := stop - q.first, heads := sumHeads ld p }
            let d := modLayer d i l fun x => { x with pages := modNth x.pages k fun q => { q with sum := ent } }
            let d := bump d Addr.MUD_SUM_BUILT_CNT
            if lim d Addr.MUD_SUM_TARGET < d.tick - job.tick then bump d Addr.MUD_SUM_LATE_CNT else d
      | _, _ => d
  | _, _ => d

def execSummaryBuild (entry layer index : Nat) (s : State) : Host.Outcome State Fault Refusal :=
  serve s (background 4 2 true fun d => summaryBuild d entry layer index)

end Sys2Proof.Machine
end

