-- ==== Sys2Proof/Machine/Session.lean ====
section
/-!
DEFINITION. Sys2Proof/Machine/Session.lean: the session commands (R84 to R97, R115, R116, R135 to R140, R153, R202, R203,
R300, R324, R330, R562, R563, R699, R700).
-/

namespace Sys2Proof.Machine

/-! ## Parameters -/

/-- R202: the first selection parameter outside its range; `ds` are the DETAILs of MODE, TAU, TOPK_K, SINK_PAGES and
RECENT_PAGES. -/
def selectChecks (mode tau topk sink recent : Nat) (ds : Nat × Nat × Nat × Nat × Nat) : List (Bool × Nat) :=
  [(decide (2 < mode), stw stParam ds.1),
   (if mode = 1 then !(fLe 0x33800000 (BitVec.ofNat 32 tau) && fLe (BitVec.ofNat 32 tau) 0x3F000000) else tau != 0,
    stw stParam ds.2.1),
   (if mode = 2 then decide (4096 < topk) else topk != 0, stw stParam ds.2.2.1),
   (if mode = 2 then decide (64 < sink) else sink != 0, stw stParam ds.2.2.2.1),
   (if mode = 2 then recent == 0 || decide (256 < recent) else recent != 0, stw stParam ds.2.2.2.2)]

/-- R324: the seed that the generator gives once a drawn 0 has been drawn again: any 64-bit value but 0. -/
def drawSeed (d : Dev) : Nat × Dev :=
  let r := drawNext d
  (r.1 % (2 ^ 64 - 1) + 1, r.2)

/-- R295, R300: the current version of an adapter id that a session of partition p may name for a model. -/
def adapterVersion (d : Dev) (p id model : Nat) : Option Nat :=
  let own := fun q => let c := (part d q).cfg; decide (c.adpBase ≤ id) && decide (id < c.adpBase + c.adpCount)
  if id = 0 then some 0
  else if own p || own 0 then
    let x := adpId d id
    match x.cur with
    | some v => match x.vers.find? fun q => q.ver == v with
      | some q => if q.model = model then some v else none
      | none => none
    | none => none
  else none

/-- R286, R314: a session of partition p may name the model: READY, granted, with a READY vocabulary. -/
def modelUsable (d : Dev) (p m : Nat) : Bool := match tget d.mdl.slots m with
  | some x => x.img.st == 2 && x.desc.isSome && x.mask.getLsbD p && x.vocab.isSome
  | none => false

/-- The EOS id of a model's vocabulary (R311). -/
def eosOf (d : Dev) (m : Nat) : Option Nat :=
  ((tget d.mdl.slots m).bind (·.vocab)).bind fun v => (tget d.tok.vocabs v).map (·.eos)

/-! ## SESSION_CREATE (R84, R88, R101, R148, R562, R563) -/

/-- R84: the lowest FREE entry of p's range that is not quarantined. -/
def freeEntryOf (d : Dev) (p : Nat) : Option Nat :=
  let c := (part d p).cfg
  (firstFrom (fun i => (sess d i).st == .free && !(sess d i).quar) c.sessBase (min c.sessCount (d.sess.length + 1)))

/-- Pages that entry i holds and that a first Write has given frames: the directory, further list pages, the control
page. -/
def sessionPages (d : Dev) (i p : Nat) : Res Dev :=
  match newPage d i p fun d n => modSess d i fun e => { e with dirSpn := n } with
  | .error e => .error e
  | .ok d1 => match newPage d1 i p fun d n => modSess d i fun e => { e with ctrlSpn := n } with
    | .error e => .error e
    | .ok d2 => (List.range (metaNeeded (sess d2 i))).foldl (fun acc _ => match acc with
      | .error e => .error e
      | .ok d => newPage d i p fun d n => modSess d i fun e => { e with metaSpns := e.metaSpns ++ [n] }) (.ok d2)

/-- The state pages of a RECURRENT layer, never written yet (row 1). -/
def statePagesFor (d : Dev) (i l n : Nat) : Res Dev :=
  (List.range n).foldl (fun acc _ => match acc with
    | .error e => .error e
    | .ok d => match allocSpn d i with
      | .error e => .error e
      | .ok (s, d1) => .ok (modLayer d1 i l fun x => { x with pages := x.pages ++ [⟨s, 0, SumEnt.none' s⟩] })) (.ok d)

/-- The state pages of every RECURRENT layer of a model (R173). -/
def allStatePages (d : Dev) (i : Nat) (ls : List LayerDesc) : Res Dev :=
  ls.zipIdx.foldl (fun acc (ld, l) => match acc with
    | .error e => .error e
    | .ok d => if ld.kind = 2 then statePagesFor d i l (statePages ld) else .ok d) (.ok d)

/-- The new session in entry i. -/
def createSession (d : Dev) (h : CmdHdr) (i model adapter ver seed : Nat) (c : Ctrl) (mode : Nat) : Res Dev :=
  let ls := match modelDesc d model with
    | some ds => ds.layers
    | none => []
  let e : SessEnt :=
    { SessEnt.free (sess d i).gen with
      st := .active, gate := gated d h.part, model := model, select := mode, adapter := adapter, adpVersion := ver,
      lastTick := d.tick, born := d.lah.epoch, layers := ls.map fun _ => ⟨0, [], []⟩,
      ctrl := { c with sampling := Sampling.initial seed, stopIds := (eosOf d model).toList, home := h.chan } }
  match allStatePages (setSess d i e) i ls with
  | .error c => .error c
  | .ok d1 => match sessionPages d1 i h.part with
    | .error c => .error c
    | .ok d2 => .ok (holdVersion d2 adapter ver)

/-- SESSION_CREATE. -/
def sessionCreate (d : Dev) (h : CmdHdr) (model mode sink adapter : Nat) (tau : F32) (topk recent : Nat) : Dev :=
  onChannel d h 0x0101 false fun d =>
    checked d h 0x0101
      ([(!modelUsable d h.part model, stw stParam 6)] ++
        selectChecks mode tau.toNat topk sink recent (7, 11, 12, 8, 13) ++
        [((adapterVersion d h.part adapter model).isNone, stw stParam 10),
         (d.pwr.fumarole && (mode != 0 || gated d h.part), stw stRetry 0), (gatedAlone d h.part, stw stRetry 0),
         (keysMissing d h.part, stw stRetry 0)])
      fun d => match freeEntryOf d h.part with
        | none => reply d h 0x0101 (stw stNoCap 0)
        | some i =>
          let (seed, d1) := drawSeed d
          let c := { Ctrl.initial seed h.chan with tau := tau, topkK := topk, sinkPages := sink, recentPages := recent }
          match createSession d1 h i model adapter ((adapterVersion d h.part adapter model).getD 0) seed c mode with
          | .error c => reply d h 0x0101 (stw c 0)
          | .ok d2 => replyBody d2 h 0x0101 stOk (leBytes 8 (handleOf d2 i) ++ leBytes 8 seed)

def execSessionCreate (h : CmdHdr) (model mode sinkPages adapter : Nat) (tau : F32) (topkK recentPages : Nat) (s : State) :
    Host.Outcome State Fault Refusal :=
  serve s fun d => sessionCreate d h model mode sinkPages adapter tau topkK recentPages

/-! ## SESSION_DESTROY (R83, R90, R97) -/

/-- SESSION_DESTROY; a channel of partition 0 may name a session of any partition, fenced or not. -/
def sessionDestroy (d : Dev) (h : CmdHdr) (handle : Nat) : Dev :=
  if h.part != 0 && fencedFor d h then reply d h 0x0102 (stw stFenced 0)
  else if h.part = 0 ∨ hPart handle = h.part then
    match live d handle with
    | some i => reply (destroySession d i h.seq) h 0x0102 stOk
    | none => reply d h 0x0102 (if evictedFor d h.seq handle then stw stEvicted 0 else stw stStale 6)
  else reply d h 0x0102 (stw stStale 6)

def execSessionDestroy (h : CmdHdr) (handle : Nat) (s : State) : Host.Outcome State Fault Refusal :=
  serve s fun d => sessionDestroy d h handle

/-! ## SESSION_FORK and FORK_COMPLETE (R91, R115, R116, R330) -/

/-- A page of the session is on its way in or out. -/
def inFlight (d : Dev) (e : SessEnt) : Bool := (allSpns e).any fun n => pageSt d n == .inn || pageSt d n == .out

/-- R115: where a parent's control page is read for the child: in HBM (its frame or its resident twin), from its Tephra copy, or
nowhere, with the code of the failing read. -/
inductive CtrlPlace where
  | here | copy (a own : Nat) | unreadable (code : Nat)
  deriving DecidableEq, Repr

/-- The control page in frame f. -/
def ctrlInFrame (d : Dev) (f : Nat) : CtrlPlace := if badFrame d f then .unreadable stUncorr else .here

def ctrlPlace (d : Dev) (e : SessEnt) : CtrlPlace :=
  match pageSt d e.ctrlSpn, pte d e.ctrlSpn with
  | .lost, _ => .unreadable stTierLost
  | .tephra, some p => match desc d p.at' with
    | some q =>
      if q.tv ∧ (frame d q.twin).any (fun x => x.st != .incoming) then ctrlInFrame d q.twin
      else if (slot d (slotOf p.at')).st = 3 then .unreadable stTierLost
      else .copy p.at' q.own
    | none => .unreadable stTierLost
  | _, _ => match residentFrame d e.ctrlSpn with
    | some f => ctrlInFrame d f
    | none => .here

/-- The child's page for one of the parent's pages: a Share, or a new page where the parent's was never written. -/
def forkPage (d : Dev) (i spn : Nat) : Res (Nat × Dev) :=
  if pageSt d spn = .new then allocSpn d i else sharePage d spn i

/-- The child's page list of a layer, up to LENGTH for a key-value layer, with the summary entries (R211). -/
def forkPages (i len : Nat) (kind : Nat) : Dev → List PageEnt → Res (List PageEnt × Dev)
  | d, [] => .ok ([], d)
  | d, q :: r =>
    if kind ≠ 2 ∧ len ≤ q.first then .ok ([], d)
    else match forkPage d i q.spn with
      | .error e => .error e
      | .ok (n, d1) => match forkPages i len kind d1 r with
        | .error e => .error e
        | .ok (l, d2) => .ok (⟨n, q.first, { q.sum with spn := n }⟩ :: l, d2)

/-- Every layer of the child. -/
def forkLayers (d : Dev) (i : Nat) (e : SessEnt) : List (LayerSt × Nat) → Res (List LayerSt × Dev)
  | [] => .ok ([], d)
  | (x, l) :: r => match forkPages i e.length (kindOf d e l) d x.pages with
    | .error c => .error c
    | .ok (ps, d1) => match forkLayers d1 i e r with
      | .error c => .error c
      | .ok (ls, d2) => .ok (⟨e.length, ps, []⟩ :: ls, d2)

/-- R207: the child's summary pages, as many as its lists need. -/
def forkSummaries (d : Dev) (i p : Nat) : Res Dev :=
  let e := sess d i
  e.layers.zipIdx.foldl (fun acc (x, l) => match acc with
    | .error c => .error c
    | .ok d => match layerOf d e l with
      | some ld =>
        if ld.kind = 2 then .ok d
        else (List.range (ceilDiv x.pages.length (sumPerPage ld))).foldl (fun acc _ => match acc with
          | .error c => .error c
          | .ok d => newPage d i p fun d n => modLayer d i l fun x => { x with sumSpns := x.sumSpns ++ [n] }) (.ok d)
      | none => .ok d) (.ok d)

/-- R330: the child's seed. -/
def forkSeed (d : Dev) (c : Ctrl) (i seed : Nat) : Nat :=
  if seed ≠ 0 then seed
  else
    let v := leNat ((sha256 (leBytes 8 c.sampling.seed ++ leBytes 8 (handleOf d i))).take 8)
    if v = 0 then 1 else v

/-- The parent's control page as the child's copy has it: `data` is what its Tephra copy held (R526). -/
def copiedCtrl (e : SessEnt) (data : Option (List Byte)) : Ctrl :=
  match data.bind fun b => if e.ctrlAway then Config.ctrlOf b else none with
  | some c => { c with chain := none }
  | none => e.ctrl

/-- The child in entry i of the parent in entry k. -/
def forkInto (d : Dev) (h : CmdHdr) (k i seed : Nat) (data : Option (List Byte)) : Res Dev :=
  let e := sess d k
  let c := copiedCtrl e data
  let sd := forkSeed d c i seed
  let child : SessEnt :=
    { SessEnt.free (sess d i).gen with
      st := if e.st = .parked then .parked else .active, clsD := e.clsD, gate := e.gate, model := e.model,
      select := e.select, adapter := e.adapter, adpVersion := e.adpVersion, lastTick := d.tick, born := d.lah.epoch,
      ctrl := { c with sampling := { c.sampling with seed := sd }, pend := [], awaiting := none,
                       timedOut := [], forced := [], home := h.chan } }
  match forkLayers (setSess d i child) i e e.layers.zipIdx with
  | .error c => .error c
  | .ok (ls, d1) =>
    let d2 := modSess d1 i fun c => { c with layers := ls, length := e.length }
    match sessionPages d2 i (hPart (handleOf d i)) with
    | .error c => .error c
    | .ok d3 => match forkSummaries d3 i (hPart (handleOf d i)) with
      | .error c => .error c
      | .ok d4 => .ok (holdVersion d4 e.adapter e.adpVersion)

/-- The fork of command h is no more. -/
def dropFork (d : Dev) (h : CmdHdr) : Dev := { d with pg.forks := d.pg.forks.filter fun f => f.cmd != h }

/-- The fork of command h as it stands. -/
def putFork (d : Dev) (f : ForkJob) : Dev :=
  let d := dropFork d f.cmd
  { d with pg.forks := d.pg.forks ++ [f] }

/-- R115: the fork of entry k for command h as far as it can go: it waits while a page of the parent is in flight, then reads a control
page that stands in Tephra only (`data`: what that read gave), then begins, and the child stands. Or the code with which it ends. -/
def forkStep (d : Dev) (h : CmdHdr) (k seed : Nat) (data : Option (List Byte)) : Dev × Option Nat :=
  let e := sess d k
  let waits := (putFork d ⟨h, k, seed, none, false⟩, none)
  let starts : Dev × Option Nat := match freeEntryOf d h.part with
    | none => (dropFork d h, some stNoCap)
    | some i => match forkInto d h k i seed data with
      | .error c => if c = 0 then (bump waits.1 Addr.LAH_MARK_WAIT_CNT, none) else (dropFork d h, some c)
      | .ok d1 => (putFork d1 ⟨h, k, seed, some i, false⟩, none)
  if data.isSome then starts
  else if inFlight d e then waits
  else match ctrlPlace d e with
    | .unreadable c => (degrade (dropFork d h) k c, some c)
    | .copy a own => (issueRead (putFork d ⟨h, k, seed, none, true⟩) own (mkXfer .forkCtrl 0 a [] h.seq), none)
    | .here => starts

/-- R90: the statuses of SESSION_FORK and SESSION_PARK by the session's state. -/
def forkParkState (e : SessEnt) : Option Nat := match e.st with
  | .thawing | .awaitHost => some (stw stRetry 0)
  | .fenced => some (stw stFenced 0)
  | .degraded => some (stw e.degReason 0)
  | _ => none

/-- SESSION_FORK. -/
def sessionFork (d : Dev) (h : CmdHdr) (handle seed : Nat) : Dev :=
  onChannel d h 0x0103 false fun d =>
    withSess d h 0x0103 handle 6 fun d k e =>
      match forkParkState e with
      | some st => reply d h 0x0103 st
      | none =>
        if gatedAlone d h.part || attaching d k || stepBars d k then reply d h 0x0103 (stw stRetry 0)
        else match forkStep d h k seed none with
          | (d, none) => d
          | (d, some c) => reply d h 0x0103 (stw c 0)

def execSessionFork (h : CmdHdr) (handle seed : Nat) (s : State) : Host.Outcome State Fault Refusal :=
  serve s fun d => sessionFork d h handle seed

/-- The fork with ledger number `seq`. -/
def forkOf (d : Dev) (seq : Nat) : Option ForkJob := d.pg.forks.find? fun f => f.cmd.seq == seq

/-- The fork of entry k has ended: the thaws that it put off are issued, and a parent destroyed meanwhile goes (R97). -/
def endFork (d : Dev) (h : CmdHdr) (k : Nat) : Dev := finishDoomed (thawPutOff (dropFork d h) k) k

/-- FORK_COMPLETE: a fork that waited goes on; one whose last entry is written is answered, in an SVC slot of the session and page
manager (R116). The fork of a PREFIX_INSERT has no reply of its own. -/
def forkComplete (d : Dev) (seq : Nat) : Dev :=
  match forkOf d seq with
  | none => d
  | some f =>
    if f.reading ∨ !svcSlot d .spmPort f.cmd.part ∨ d.pfx.jobs.any (fun j => j.cmd == f.cmd) then d
    else
      let r := if f.child.isSome then (d, none) else forkStep d f.cmd f.parent f.seed none
      match r.2, (forkOf r.1 seq).bind (·.child) with
      | some c, _ => reply (endFork r.1 f.cmd f.parent) f.cmd 0x0103 (stw c 0)
      | none, some i =>
        let d1 := endFork r.1 f.cmd f.parent
        replyBody d1 f.cmd 0x0103 stOk (leBytes 8 (handleOf d1 i) ++ leBytes 8 (sess d1 i).ctrl.sampling.seed)
      | none, none => r.1

/-! ## SESSION_PARK (R91, R135 to R140, R251) -/

/-- The pages that a park concerns: all but the directory, the lists and the summary arrays, in increasing SPN order;
with TRIM only those that are not control pages. -/
def parkList (d : Dev) (i : Nat) (trim : Bool) : List Nat :=
  let e := sess d i
  let ctl := controlSpns d e
  let all := e.ctrlSpn :: dataSpns e
  sortBy (fun a b => decide (a ≤ b)) (if trim then all.filter fun n => !ctl.contains n else all)

/-- R137: the new units that the park needs, one for each frame that takes row 13; a frame that cannot be read is not
parked (R427). -/
def unitsNeeded (d : Dev) (ns : List Nat) : Nat :=
  (dedup (ns.filterMap fun n => if pageSt d n = .hbm then match pageFrame d n with
    | some f => match frame d f with
      | some x => if x.tv = false ∧ x.st = .valid ∧ badFrame d f = false then some f else none
      | none => none
    | none => none else none)).length

/-- R135 LEFT: the session's pages but its directory, lists and summary arrays that are resident. -/
def leftOf (d : Dev) (i : Nat) : Nat :=
  let e := sess d i
  ((e.ctrlSpn :: dataSpns e).filter fun n => (residentFrame d n).isSome).length

/-- R91: every entry of a key-value layer at or above LENGTH is discarded. -/
def discardAbove (d : Dev) (i l : Nat) : Dev :=
  let e := sess d i
  match layerOf d e l, e.layers[l]? with
  | some ld, some x =>
    if ld.kind = 2 ∨ x.len ≤ e.length then d
    else
      let gone := x.pages.filter fun q => decide (e.length ≤ q.first)
      let d := modLayer d i l fun x => { x with len := e.length, pages := x.pages.filter fun q => decide (q.first < e.length) }
      let d := dropPages d (gone.map (·.spn))
      match (x.pages.filter fun q => decide (q.first < e.length)).getLast? with
      | some q => match residentFrame d q.spn with
        | some f => if isCoded d q.spn then d
            else (List.range (min (pagePos ld) (x.len - q.first))).foldl (fun d row =>
              if e.length - q.first ≤ row then zeroRow d ld f row else d) d
        | none => d
      | none => d
  | _, _ => d

/-- The Park event on each page: the pages moved at once, and what the unreadable ones leave (R427). -/
def parkAll (d : Dev) (i cmd : Nat) (ns : List Nat) : Nat × Dev :=
  ns.foldl (fun (acc : Nat × Dev) n =>
    let r := parkPage acc.2 n cmd
    match r.1 with
    | .moved => (acc.1 + 1, r.2)
    | .unreadable =>
      let d := match (pageFrame r.2 n).bind fun f => (badCws r.2).find? fun c => c.frame == f with
        | some c => noteUncorrectable r.2 c
        | none => r.2
      (acc.1, degrade d i stUncorr)
    | _ => (acc.1, r.2)) (0, d)

/-- A park of entry i is still outstanding. -/
def parkOutstanding (d : Dev) (i : Nat) : Bool :=
  let ns := parkList d i false
  (ns.any fun n => pageSt d n == .out) || d.pg.xfers.any fun x => x.kind == .park && x.later.any fun q => ns.contains q.1

/-- The SESSION_PARKs whose parks have all ended are answered. -/
def settleParks (d : Dev) : Dev :=
  d.pg.parks.foldl (fun d j =>
    if parkOutstanding d j.2.1 then d
    else replyBody { d with pg.parks := d.pg.parks.filter fun q => q.1 != j.1 } j.1 0x0104 stOk
      (leBytes 4 j.2.2 ++ leBytes 4 (leftOf d j.2.1) ++ leBytes 8 0)) d

/-- The recurrent layers coded and the entries above LENGTH discarded, as a park begins with them (R91, R251). -/
def beforePark (d : Dev) (i : Nat) (trim : Bool) : Dev :=
  let n := (sess d i).layers.length
  let d := (List.range n).foldl (fun d l => discardAbove d i l) d
  if trim then d else (List.range n).foldl (fun d l => stateEncode d i l) d

/-- SESSION_PARK. -/
def sessionPark (d : Dev) (h : CmdHdr) (handle pflags : Nat) : Dev :=
  let trim := bit pflags 0
  onChannel d h 0x0104 false fun d =>
    if 1 < pflags then reply d h 0x0104 (stw stReserved 7)
    else withSess d h 0x0104 handle 6 fun d i e =>
      if d.pwr.fumarole then reply d h 0x0104 (stw stRetry 0)
      else if (part d h.part).tierKeys.isEmpty then reply d h 0x0104 (stw stParam 0)
      else match forkParkState e with
        | some st => reply d h 0x0104 st
        | none =>
          if e.st = .parked then replyBody d h 0x0104 stOk (leBytes 4 0 ++ leBytes 4 (leftOf d i) ++ leBytes 8 0)
          else if forking d i ∨ (trim = false ∧ codecWaits d i) then d
          else if attaching d i || stepBars d i then reply d h 0x0104 (stw stRetry 0)
          else
            let need := beforePark d i trim
            match reserveUnits d h.part (unitsNeeded need (parkList need i trim)) with
            | (d1, some c) => reply d1 h 0x0104 (stw c 0)
            | (d1, none) =>
              let d2 := beforePark d1 i trim
              let d3 := if trim then d2 else modSess d2 i fun e => { e with st := .parked }
              let r := parkAll d3 i h.seq (parkList d3 i trim)
              settleParks { r.2 with pg.parks := r.2.pg.parks ++ [(h, i, r.1)] }

def execSessionPark (h : CmdHdr) (handle pflags : Nat) (s : State) : Host.Outcome State Fault Refusal :=
  serve s fun d => sessionPark d h handle pflags

/-! ## AGE_PARK (R153, R626) -/

/-- R153: a session that age parking may take. -/
def ageable (d : Dev) (i : Nat) : Bool :=
  let e := sess d i
  let p := ownerOf d i
  (e.st == .active || e.st == .degraded) && !e.doomed && (part d p).cfg.capMode == 0 &&
  !(part d p).tierKeys.isEmpty && !codecWaits d i && !stepInProgress d i && !forking d i && !attachHolder d i &&
  ((parkList d i false).any fun n => pageSt d n == .hbm && match (pageFrame d n).bind (frame d) with
    | some f => f.refcnt == 1
    | none => false)

/-- The first of the sessions whose units can be had is parked; the evictions that the others called for stand (R154). -/
def ageFirst : List Nat → Dev → Dev
  | [], d => { d with pg.ageParking := false }
  | i :: r, d =>
    if !ageable d i then ageFirst r d
    else
      let need := beforePark d i false
      match reserveUnits d (ownerOf d i) (unitsNeeded need (parkList need i false)) with
      | (d1, some _) => ageFirst r d1
      | (d1, none) =>
        let d2 := modSess (beforePark d1 i false) i fun e => match e.st with
          | .degraded => if e.degReason = stDegraded then { e with degPrev := .parked } else e
          | _ => { e with st := .parked }
        bump (parkAll d2 i 0 (parkList d2 i false)).2 Addr.TMC_AGE_PARK_CNT

/-- AGE_PARK: while the pool is short, the next session in the order of R152 is parked. -/
def agePark (d : Dev) : Dev :=
  let free := poolFree d
  let on := !d.pwr.fumarole && (decide (free < lim d Addr.TMC_POOL_LOW) ||
    (d.pg.ageParking && decide (free < lim d Addr.TMC_POOL_HIGH)))
  let d := { d with pg.ageParking := on }
  if !on then d else ageFirst (agedSessions d) d

def execAgePark (s : State) : Host.Outcome State Fault Refusal := serve s agePark

/-! ## Commands on the control page (R699, R700) -/

/-- R699: the control page is resident and readable: `k`. Otherwise it is thawed or waited for and nothing else happens,
or `fail` gets the code. -/
def ctrlThere (d : Dev) (i : Nat) (fail : Dev → Nat → Dev) (k : Dev → Dev) : Dev :=
  let e := sess d i
  let lost := fun (d : Dev) c => fail (degrade d i c) c
  match pageSt d e.ctrlSpn with
  | .lost => lost d stTierLost
  | .inn => d
  | .tephra => match thawPage d i (ownerOf d i) e.ctrlSpn with
    | .error c => if c = stTierLost then lost d c else fail d c
    | .ok d1 => if (residentFrame d1 e.ctrlSpn).isSome then k d1 else d1
  | _ => match (residentFrame d e.ctrlSpn).bind fun f => (badCws d).find? fun c => c.frame == f with
    | some c => lost (noteUncorrectable d c) stUncorr
    | none => k d

/-- The Write event on the control page; where a mark finds no reserve frame the command waits (R700). -/
def ctrlWritten (d : Dev) (i : Nat) (fail : Dev → Nat → Dev) (k : Dev → Dev) : Dev :=
  ctrlThere d i fail fun d =>
    match writeEvent d i (ownerOf d i) (sess d i).ctrlSpn false with
    | .error c => if c = 0 then bump d Addr.LAH_MARK_WAIT_CNT else fail d c
    | .ok d1 => k d1

/-- R699 for a command that reads the control page. -/
def withCtrl (d : Dev) (h : CmdHdr) (op i : Nat) (k : Dev → Dev) : Dev :=
  ctrlThere d i (fun d c => reply d h op (stw c 0)) k

/-- R699, R700 for a command that writes the control page. -/
def writeCtrl (d : Dev) (h : CmdHdr) (op i : Nat) (k : Dev → Dev) : Dev :=
  ctrlWritten d i (fun d c => reply d h op (stw c 0)) k

/-- The control page's contents changed. -/
def modCtrl (d : Dev) (i : Nat) (f : Ctrl → Ctrl) : Dev := modSess d i fun e => { e with ctrl := f e.ctrl }

/-- SESSION_SET_SELECT (R202, R203). -/
def sessionSetSelect (d : Dev) (h : CmdHdr) (handle mode sink topk recent : Nat) (tau : F32) : Dev :=
  onChannel d h 0x0105 false fun d =>
    match firstFail (selectChecks mode tau.toNat topk sink recent (7, 12, 9, 8, 10)) with
    | some st => reply d h 0x0105 st
    | none => withSess d h 0x0105 handle 6 fun d i _ =>
      if attaching d i || stepInProgress d i || (d.pwr.fumarole && mode != 0) then reply d h 0x0105 (stw stRetry 0)
      else writeCtrl d h 0x0105 i fun d =>
        let d := modSess d i fun e => { e with select := mode, ctrl := { e.ctrl with
          tau := tau, topkK := topk, sinkPages := sink, recentPages := recent } }
        reply d h 0x0105 stOk

def execSessionSetSelect (h : CmdHdr) (handle mode sinkPages topkK recentPages : Nat) (tau : F32) (s : State) :
    Host.Outcome State Fault Refusal :=
  serve s fun d => sessionSetSelect d h handle mode sinkPages topkK recentPages tau

/-- SESSION_SET_ADAPTER (R295, R300). -/
def sessionSetAdapter (d : Dev) (h : CmdHdr) (handle adapter : Nat) : Dev :=
  onChannel d h 0x0106 false fun d =>
    withSess d h 0x0106 handle 6 fun d i e =>
      match adapterVersion d h.part adapter e.model with
      | none => reply d h 0x0106 (stw stParam 7)
      | some v =>
        if stepInProgress d i then reply d h 0x0106 (stw stRetry 0)
        else
          let d := releaseVersion (holdVersion d adapter v) e.adapter e.adpVersion
          let d := modSess d i fun e => { e with adapter := adapter, adpVersion := v }
          replyBody d h 0x0106 stOk (leBytes 4 v ++ leBytes 12 0)

def execSessionSetAdapter (h : CmdHdr) (handle adapter : Nat) (s : State) : Host.Outcome State Fault Refusal :=
  serve s fun d => sessionSetAdapter d h handle adapter

/-- The code of a state (R88). -/
def SessSt.code : SessSt → Nat
  | .free => 0
  | .active => 1
  | .parked => 2
  | .thawing => 3
  | .awaitHost => 4
  | .fenced => 5
  | .degraded => 6

/-- SESSION_INFO. -/
def sessionInfo (d : Dev) (h : CmdHdr) (handle : Nat) : Dev :=
  onChannel d h 0x0108 false fun d =>
    withSess d h 0x0108 handle 6 fun d i _ =>
      let e := sess d i
      replyBody d h 0x0108 stOk (leBytes 1 (SessSt.code e.st) ++ leBytes 1 e.select ++ leBytes 1 e.model ++
        leBytes 1 e.degReason ++ leBytes 4 e.length ++ leBytes 4 e.adapter ++ leBytes 4 (allSpns e).length)

def execSessionInfo (h : CmdHdr) (handle : Nat) (s : State) : Host.Outcome State Fault Refusal :=
  serve s fun d => sessionInfo d h handle

end Sys2Proof.Machine
end

