-- ==== Sys2Proof/Machine/Models.lean ====
section
/-!
DEFINITION. Sys2Proof/Machine/Models.lean: model descriptors, their delivery and checks (R167 to R170, R178, R282 to
R288), pipeline bindings and the switch (R290 to R294).
-/

namespace Sys2Proof.Machine

/-- An EMPTY model slot. -/
def Model.empty : Model := { img := Image.empty, desc := none, mask := 0, vocab := none, map := [] }

def model (d : Dev) (m : Nat) : Model := tgetD d.mdl.slots m Model.empty
def setModel (d : Dev) (m : Nat) (x : Model) : Dev := { d with mdl.slots := tset d.mdl.slots m x }

/-! ## The descriptor (R167 to R170, R178) -/

/-- The bytes of a layer's side-data arrays in R170's order: K_SCALE, V_SCALE, SLOPE, SINK, UK_SCALE, UK, UV_SCALE, UV. -/
def sideSizes (b : List Byte) (o : Nat) : List Nat :=
  let f := fun k n => field b (o + k) n
  let kind := f 0 1
  let scaled := decide (f 1 1 < 2)
  let qh := f 2 2
  let ops := ((b.drop (o + 32)).take 8).map (·.toNat)
  let lat := kind == 1
  [if scaled then 4 * f 4 1 else 0, if scaled && kind == 0 then 4 * f 4 1 else 0,
   if (ops.takeWhile (· != 0)).contains 4 then 4 * qh else 0, if bit (f 13 1) 1 then 4 * qh else 0,
   if lat then 4 * qh else 0, if lat then qh * f 6 2 * f 10 2 else 0,
   if lat then 4 * qh else 0, if lat then qh * f 8 2 * f 10 2 else 0]

/-- Binary32 at an offset. -/
def f32At (b : List Byte) (o : Nat) : F32 := BitVec.ofNat 32 (field b o 4)

/-- n binary32 numbers from an offset. -/
def f32sAt (b : List Byte) (o n : Nat) : List F32 := (List.range n).map fun i => f32At b (o + 4 * i)

/-- R178: SCORE_OPS is one of the table's programs, ENDs after the first END. -/
def opsOk (ops : List Nat) : Bool :=
  let p := ops.takeWhile (· != 0)
  (p.all fun x => decide (x ≤ 5)) && (ops.drop p.length).all (· == 0)

/-- The checks of the layer entry at offset o, each with the offset of its field (R168 to R170). -/
def layerChecks (b : List Byte) (o sideOff : Nat) : List (Bool × Nat) :=
  let f := fun k n => field b (o + k) n
  let kind := f 0 1
  let elem := f 1 1
  let qh := f 2 2
  let kvh := f 4 1
  let hd := f 6 2
  let vd := f 8 2
  let lat := f 10 2
  let rot := f 12 1
  let flags := f 13 1
  let ops := ((b.drop (o + 32)).take 8).map (·.toNat)
  let prog := ops.takeWhile (· != 0)
  let c1 := f32At b (o + 44)
  let size := (sideSizes b o).sum
  [(decide (2 < kind), o), (if kind = 2 then elem != 2 && elem != 3 else decide (2 < elem), o + 1),
   (qh == 0 || decide (256 < qh), o + 2),
   (kvh == 0 || decide (64 < kvh) || (kind == 0 && qh % kvh != 0) || (kind == 1 && kvh != 1) || (kind == 2 && qh != kvh),
     o + 4),
   (decide (2 < f 5 1), o + 5), (decide (hd < 16) || decide (256 < hd) || hd % 16 != 0, o + 6),
   (decide (vd < 16) || decide (256 < vd) || vd % 16 != 0, o + 8),
   (if kind = 1 then decide (lat < 64) || decide (2048 < lat) || lat % 64 != 0 else lat != 0, o + 10),
   (decide (128 < rot) || rot % 2 != 0 || (kind == 0 && decide (hd < rot)) || (kind == 1 && decide (rot < 2)) ||
     (kind == 2 && rot != 0), o + 12),
   (decide (7 < flags) || (bit flags 0 && decide (1 < elem)) || (bit flags 1 && kind == 2) || (bit flags 2 && kind == 1),
     o + 13),
   (decide (2 < f 14 1) || (kind != 2 && f 14 1 != 0), o + 14), (f 15 1 != 0, o + 15),
   (decide (2097152 < f 16 4) || (kind == 2 && f 16 4 != 0), o + 16),
   (!(finite32 (f32At b (o + 20)) && fLt 0 (f32At b (o + 20))), o + 20),
   (!fLt f32One (f32At b (o + 24)), o + 24), (!fLe f32One (f32At b (o + 28)), o + 28),
   (!opsOk ops || (kind == 2 && !prog.isEmpty), o + 32),
   ((prog.contains 3 || prog.contains 5) && !fLt 0 c1, o + 44),
   (decide (b.length < sideOff + f 48 4 + f 52 4), o + 48),
   (f 52 4 != roundUp size 64, o + 52), (!allZero ((b.drop (o + 56)).take 8), o + 56)]

/-- The checks of the header (R167). -/
def headerChecks (b : List Byte) : List (Bool × Nat) :=
  let f := field b
  [(f 0 4 != 0x4D445146, 0), (f 4 2 != 1, 4), (f 6 2 == 0 || decide (256 < f 6 2), 6), (f 16 4 != b.length, 16),
   (f 20 2 == 0 || decide (4096 < f 20 2), 20), (decide (1 < f 22 1), 22), (f 23 1 != 0, 23),
   (decide (f 24 4 < 64 + 64 * f 6 2) || decide (b.length < f 24 4), 24), (!allZero ((b.drop 28).take 36), 28)]

/-- R288: the side-data bytes of a layer that belong to the core. -/
def coreSide (b : List Byte) (o : Nat) : Nat :=
  let l := sideSizes b o
  l.sum - (l[5]?).getD 0 - (l[7]?).getD 0

/-- R288: the first layer that takes the core beyond 2 MiB, as the offset of its SIDE field; the sum so far is `acc`. -/
def coreExcess (b : List Byte) : Nat → Nat → Nat → Option Nat
  | 0, _, _ => none
  | n + 1, i, acc =>
    let acc := acc + coreSide b (64 + 64 * i)
    if 2097152 < acc then some (64 + 64 * i + 48) else coreExcess b n (i + 1) acc

/-- R285, R288: the byte offset of the first failing field. -/
def descrFault (b : List Byte) : Option Nat :=
  let n := field b 6 2
  match firstFail (headerChecks b) with
  | some o => some o
  | none =>
    ((List.range n).findSome? fun i => firstFail (layerChecks b (64 + 64 * i) (field b 24 4))).orElse fun _ =>
      coreExcess b n 0 (64 + 64 * n)

/-- A layer entry with its side data, from a checked descriptor. -/
def layerFrom (b : List Byte) (o sideOff : Nat) : LayerDesc :=
  let f := fun k n => field b (o + k) n
  let sz := sideSizes b o
  let at' := fun k => sideOff + f 48 4 + (sz.take k).sum
  let arr := fun k => f32sAt b (at' k) ((sz[k]?).getD 0 / 4)
  { kind := f 0 1, elem := f 1 1, qh := f 2 2, kvh := f 4 1, ropeMode := f 5 1, headDim := f 6 2, vDim := f 8 2,
    latent := f 10 2, rotDim := f 12 1, qFp8 := bit (f 13 1) 0, sink := bit (f 13 1) 1, qkNorm := bit (f 13 1) 2,
    rmode := f 14 1, window := f 16 4, smScale := f32At b (o + 20), ropeBase := f32At b (o + 24),
    ropeDiv := f32At b (o + 28), ops := ((b.drop (o + 32)).take 8).map (·.toNat), c0 := f32At b (o + 40),
    c1 := f32At b (o + 44), kScale := arr 0, vScale := arr 1, slope := arr 2, sinks := arr 3, ukScale := arr 4,
    ukOff := at' 5, uvScale := arr 6, uvOff := at' 7 }

/-- A checked descriptor. R167 says that the device reports MODEL_TAG and names nothing that returns it: DESIGN CHOICE (log 28), it is
kept and shows nowhere. -/
def descrFrom (b : List Byte) : Descr :=
  let n := field b 6 2
  { modelTag := field b 8 8, maxQtok := field b 20 2, outFmt := field b 22 1,
    layers := (List.range n).map fun i => layerFrom b (64 + 64 * i) (field b 24 4),
    coreBytes := 64 + 64 * n + ((List.range n).map fun i => coreSide b (64 + 64 * i)).sum }

/-! ## MODEL_LOAD, MODEL_DATA, MODEL_COMMIT (R282 to R285) -/

/-- MODEL_LOAD. -/
def modelLoad (d : Dev) (h : CmdHdr) (m length : Nat) : Dev :=
  onChannel d h 0x0201 true fun d =>
    checked d h 0x0201 [(decide (31 < m), stw stParam 6),
      (length % 64 != 0 || decide (length < 128) || decide (0xFFFFFFC0 < length), stw stParam 7),
      ((model d m).img.st != 0, stw stRetry 0)] fun d =>
      match allocOwnMany d false 0 (ceilDiv length 65536) with
      | .error c => reply d h 0x0201 (stw c 0)
      | .ok (fs, d1) =>
        reply (setModel d1 m { Model.empty with img := { st := 1, length := length, frames := fs, digest := [] } })
          h 0x0201 stOk

def execModelLoad (h : CmdHdr) (object length : Nat) (s : State) : Host.Outcome State Fault Refusal :=
  serve s fun d => modelLoad d h object length

def execModelData (h : CmdHdr) (object offset : Nat) (data : List Byte) (s : State) :
    Host.Outcome State Fault Refusal :=
  serve s fun d => onChannel d h 0x0202 true fun d => serveData d h 0x0202 (model d object).img offset data

/-- MODEL_COMMIT. -/
def modelCommit (d : Dev) (h : CmdHdr) (m : Nat) (digest : List Byte) : Dev :=
  onChannel d h 0x0203 true fun d =>
    let x := model d m
    commitChecks d h 0x0203 x.img digest fun d bytes =>
      match descrFault bytes with
      | some o => commitFail d h 0x0203 (stw stParam 0) o
      | none =>
        let ds := descrFrom bytes
        reply (setModel d m { x with img := { x.img with st := 2, digest := digest }, desc := some ds, mask := 1,
                                     map := ds.layers.map fun _ => 0 }) h 0x0203 stOk

def execModelCommit (h : CmdHdr) (object : Nat) (digest : List Byte) (s : State) : Host.Outcome State Fault Refusal :=
  serve s fun d => modelCommit d h object digest

/-! ## MODEL_UNLOAD, MODEL_GRANT (R286, R287) -/

/-- R299: the current version of an id is removed without another one; it is freed when no session holds it. -/
def dropCurrent (d : Dev) (id : Nat) : Dev :=
  let x := adpId d id
  match x.cur with
  | none => d
  | some v =>
    let d := setAdp d id { x with cur := none }
    if x.vers.any fun q => q.ver == v && q.sessions == 0 then freeVersion d id v else d

/-- R287: every adapter built for the model is dropped. -/
def dropAdapters (d : Dev) (m : Nat) : Dev :=
  (d.adp.ids.filter fun q => q.2.vers.any fun v => q.2.cur == some v.ver && v.model == m).foldl
    (fun d q => dropCurrent d q.1) d

/-- R287: the model's book slots go. -/
def dropBooks (d : Dev) (m : Nat) : Dev :=
  let mine := d.snt.books.filter fun q => q.1 / 256 % 32 == m
  let d := mine.foldl (fun d q => freeFrames d (q.2.s0.frames ++ q.2.s1.frames)) d
  { d with snt.books := d.snt.books.filter fun q => q.1 / 256 % 32 != m }

/-- A session table entry that is not FREE names the model. -/
def modelNamed (d : Dev) (m : Nat) : Bool := d.sess.any fun q => q.2.st != .free && q.2.model == m

/-- MODEL_UNLOAD. -/
def modelUnload (d : Dev) (h : CmdHdr) (m : Nat) : Dev :=
  onChannel d h 0x0204 true fun d =>
    let x := model d m
    checked d h 0x0204 [(decide (31 < m), stw stParam 6)] fun d =>
      if x.img.st = 0 then reply d h 0x0204 stOk
      else if x.img.st = 2 && (modelNamed d m || (d.mdl.pipes.any fun p => p.2.bound == some m) ||
          d.mdl.switches.any fun w => w.model == m) then reply d h 0x0204 (stw stRetry 0)
      else
        let d := dropAdapters (dropBooks (freeFrames d x.img.frames) m) m
        reply { d with mdl.slots := tdel d.mdl.slots m } h 0x0204 stOk

def execModelUnload (h : CmdHdr) (object : Nat) (s : State) : Host.Outcome State Fault Refusal :=
  serve s fun d => modelUnload d h object

/-- MODEL_GRANT. -/
def modelGrant (d : Dev) (h : CmdHdr) (m : Nat) (mask : BitVec 256) : Dev :=
  onChannel d h 0x0205 true fun d =>
    let x := model d m
    let new := mask ||| 1
    checked d h 0x0205 [(decide (31 < m) || x.img.st != 2, stw stParam 6),
      (d.sess.any fun q => q.2.st != .free && q.2.model == m && !new.getLsbD (ownerOf d q.1), stw stRetry 0)] fun d =>
      reply (setModel d m { x with mask := new }) h 0x0205 stOk

def execModelGrant (h : CmdHdr) (model : Nat) (mask : BitVec 256) (s : State) : Host.Outcome State Fault Refusal :=
  serve s fun d => modelGrant d h model mask

/-! ## Served models (R96, R294) -/

/-- R96: the sessions of a model that no bound group serves become DEGRADED and their waiting requests end. -/
def degradeUnserved (d : Dev) (m : Nat) : Dev :=
  (d.sess.filter fun q => q.2.model == m && !q.2.doomed).foldl (fun d q => match q.2.st with
    | .free | .awaitHost | .degraded => d
    | .fenced => if q.2.prev = .awaitHost then d else degrade d q.1 stDegraded
    | _ =>
      let d := (d.reqs.filter fun r => r.entry == q.1 && r.phase == .waiting).foldl
        (fun d r => endWaiting d r stDegraded) d
      degrade d q.1 stDegraded) d

/-- R96: the sessions that were DEGRADED with ST_DEGRADED return to the state in DEG_PREV. -/
def restoreServed (d : Dev) (m : Nat) : Dev :=
  (d.sess.filter fun q => q.2.model == m && q.2.degReason == stDegraded).foldl (fun d q =>
    modSess d q.1 fun e =>
      if e.st = .degraded then { e with st := e.degPrev, degReason := 0, degPrev := .free }
      else if e.st = .fenced ∧ e.prev = .degraded then { e with prev := e.degPrev, degReason := 0, degPrev := .free }
      else e) d

/-- R294: model m is served or not; its sessions follow. -/
def refreshModel (d : Dev) (m : Nat) : Dev := if modelServed d m then restoreServed d m else degradeUnserved d m

/-- R96, R294: every model's sessions follow the bindings of the active plan. -/
def refreshModels (d : Dev) : Dev := (d.mdl.slots.map (·.1)).foldl refreshModel d

/-! ## MODEL_BIND (R289 to R292) -/

/-- Pipeline n. -/
def pipe (d : Dev) (n : Nat) : Pipe := tgetD d.mdl.pipes n ⟨0, none⟩
def setPipe (d : Dev) (n : Nat) (x : Pipe) : Dev := { d with mdl.pipes := tset d.mdl.pipes n x }

/-- The pipelines of a command or switch. -/
def pipesFrom (first size : Nat) : List Nat := (List.range size).map fun k => first + k

/-- R288: the model that keeps its core for pipeline n: the bound one, until the drain of a switch ends. -/
def heldBy (d : Dev) (n : Nat) : Option Nat :=
  if d.mdl.switches.any fun w => w.phase != 0 && decide (w.first ≤ n) && decide (n < w.first + w.size) then none
  else (pipe d n).bound

/-- The models whose core is in the window (R288). -/
def windowModels (d : Dev) : List Nat :=
  dedup ((d.mdl.pipes.filterMap fun p => heldBy d p.1) ++ (d.mdl.switches.filter fun w => w.model != 0xFF).map (·.model))

/-- The model has a LATENT layer (R289). -/
def hasLatent (d : Dev) (m : Nat) : Bool := match modelDesc d m with
  | some ds => ds.layers.any fun l => l.kind == 1
  | none => false

/-- Granules of 64 KiB that a core takes. -/
def coreGranules (d : Dev) (m : Nat) : Nat := match modelDesc d m with
  | some ds => ceilDiv ds.coreBytes 65536
  | none => 0

/-- ADP_WINDOW_USED: bytes held by cores, and by the stream buffers of groups bound (R290: every pipeline bound to the model and READY), or switching, to a model with a
LATENT layer. -/
def windowUsed (d : Dev) : Nat :=
  let g := match d.plan.active with
    | some p => max 1 p.groupSize
    | none => 1
  let groups := (List.range (64 / g)).filterMap fun k =>
    let m := heldBy d (k * g)
    if (List.range g).all fun j => heldBy d (k * g + j) == m && (pipe d (k * g + j)).st == 1 then m else none
  let sw := (d.mdl.switches.filter fun w => w.model != 0xFF).map (·.model)
  65536 * ((windowModels d).map (coreGranules d)).sum + 2097152 * ((groups ++ sw).filter (hasLatent d)).length

/-- W_M under the active plan. -/
def windowSize (d : Dev) : Nat := match d.plan.active with
  | some p => p.windowBytes
  | none => 0

/-- Bursts of stack k that a slot holds: its pattern, or its whole interval for a BG slot (R51). -/
def burstsOf (s : Slot) (k : Nat) : List Nat :=
  let all := (List.range (s.length / 32)).map (s.start / 32 + ·)
  if !s.stackSet.contains k then []
  else if s.cls == .bg then all
  else all.filter fun b => match s.bursts.find? fun q => q.1 == k with
    | some q => q.2.contains b
    | none => false

/-- R289, R291: the stream read of the largest LATENT layer and P page visits take more than the slot's bursts carry, 853⅓
bytes per cycle and stack (R51, log 25). -/
def slotTooShort (ds : Descr) (sl : Slot) : Bool :=
  let stream := ((ds.layers.filter fun l => l.kind == 1).map fun l =>
    8 * l.qh + l.qh * (l.headDim + l.vDim) * l.latent).foldl max 0
  stream != 0 && decide (32 * (sl.stackSet.map fun k => (burstsOf sl k).length).sum * 2560 < 3 * (stream + 65536 * sl.limP))

/-- R291, R657: the checks of MODEL_BIND. -/
def bindChecks (d : Dev) (first size m : Nat) : List (Bool × Nat) :=
  let ps := pipesFrom first size
  let ds := modelDesc d m
  [(match d.plan.active with
      | some p => size != p.groupSize || first % (max 1 p.groupSize) != 0 || decide (64 < first + size)
      | none => true, stw stParam 6),
   (ps.any fun n => (pipe d n).st == 2 || (pipe d n).st == 3, stw stParam 6),
   (m != 0xFF && (decide (31 < m) || ds.isNone), stw stParam 8),
   (match d.plan.active, ds with
      | some p, some ds => m != 0xFF && p.slots.any fun sl => sl.cls == .fg && sl.unit * p.groupSize == first &&
          sl.models.contains m && slotTooShort ds sl
      | _, _ => false, stw stParam 8),
   (d.pwr.fumarole && match ds with
      | some ds => ds.layers.any fun l => decide (l.elem < 2)
      | none => false, stw stRetry 0),
   ((d.mdl.switches.any fun w => ps.any fun n => decide (w.first ≤ n) && decide (n < w.first + w.size)) ||
     d.plan.standby.isSome, stw stRetry 0)]

/-- MODEL_BIND: the switch begins at the command's arrival stamp. -/
def modelBind (d : Dev) (h : CmdHdr) (first size m : Nat) : Dev :=
  onChannel d h 0x0206 true fun d =>
    checked d h 0x0206 (bindChecks d first size m) fun d =>
      let w : Switch := { cmd := h, first := first, size := size, model := m, phase := 0, start := h.tick, phaseTick := d.tick }
      let d1 := { d with mdl.switches := d.mdl.switches ++ [w], pwr.busySimmer := true }
      if m ≠ 0xFF ∧ windowSize d1 < windowUsed d1 then reply d h 0x0206 (stw stNoCap 0) else d1

def execModelBind (h : CmdHdr) (firstPipe size model : Nat) (s : State) : Host.Outcome State Fault Refusal :=
  serve s fun d => modelBind d h firstPipe size model

/-! ## SWITCH_PHASE_END (R292 to R294) -/

/-- The switch replaced. -/
def setSwitch (d : Dev) (w : Switch) : Dev :=
  { d with mdl.switches := d.mdl.switches.map fun q => if q.first = w.first then w else q }

/-- The switch ends: its pipelines take `b`, its command is answered, and the models concerned are looked at. -/
def endSwitch (d : Dev) (w : Switch) (b : Option Nat) (status : Nat) : Dev :=
  let old := (pipesFrom w.first w.size).filterMap fun n => (pipe d n).bound
  let d := (pipesFrom w.first w.size).foldl (fun d n => setPipe d n { pipe d n with bound := b }) d
  let d := { d with mdl.switches := d.mdl.switches.filter fun q => q.first != w.first }
  let d := (dedup (old ++ (if w.model = 0xFF then [] else [w.model]))).foldl refreshModel d
  reply d w.cmd 0x0206 status

/-- The core of the arriving model is in the window already (R292). -/
def coreThere (d : Dev) (w : Switch) : Bool :=
  (d.mdl.pipes.any fun p => heldBy d p.1 == some w.model) ||
  d.mdl.switches.any fun q => q.first != w.first && q.model == w.model && decide (2 ≤ q.phase)

/-- A request admitted on the switch's group has not been answered. -/
def groupBusy (d : Dev) (w : Switch) : Bool :=
  d.reqs.any fun r => r.phase != .waiting && r.group == w.first / (max 1 w.size)

/-- One phase ends, when its work is done. -/
def switchPhaseEnd (d : Dev) (first : Nat) (failed : Option Nat) : Dev :=
  match d.mdl.switches.find? fun w => w.first == first with
  | none => d
  | some w =>
    let d := { d with pwr.busySimmer := true }
    let over' := fun n => decide (w.phaseTick + n ≤ d.tick)
    match w.phase with
    | 0 =>
      if groupBusy d w || decide (d.tick ≤ w.start) then d
      else if w.model = 0xFF then endSwitch d w none stOk
      else setSwitch d { w with phase := if coreThere d w then 2 else 1, phaseTick := d.tick }
    | 1 => if over' (coreGranules d w.model) then setSwitch d { w with phase := 2, phaseTick := d.tick } else d
    | 2 => if over' (6 * w.size) then setSwitch d { w with phase := 3, phaseTick := d.tick } else d
    | _ =>
      if over' 46 then
        match failed with
        | none =>
          let d := endSwitch d w (some w.model) stOk
          bump d Addr.ADP_SWITCH_CNT
        | some k =>
          if w.size ≤ k then d
          else
            let d := setPipe d (w.first + k) { pipe d (w.first + k) with st := 3 }
            endSwitch d w none (stw stInternal k)
      else d

def execSwitchPhaseEnd (firstPipe : Nat) (failed : Option Nat) (s : State) : Host.Outcome State Fault Refusal :=
  serve s fun d => switchPhaseEnd d firstPipe failed

end Sys2Proof.Machine
end

