-- ==== Sys2Proof/Machine/Adapters.lean ====
section
/-!
DEFINITION. Sys2Proof/Machine/Adapters.lean: adapter images, versions and the cache (R295 to R302) and gathers (R303 to
R307, R468).
-/

namespace Sys2Proof.Machine

/-! ## The cache (R301, R302) -/

/-- Partition p loads and drops ids of its own range only (R295). -/
def ownAdapter (d : Dev) (p id : Nat) : Bool :=
  let c := (part d p).cfg
  id != 0 && decide (c.adpBase ≤ id) && decide (id < c.adpBase + c.adpCount)

/-- Frames of p's quota in use: cached units and staged images. -/
def quotaUsed (d : Dev) (p : Nat) : Nat :=
  (d.adp.cache.filter fun c => c.part == p && c.fwd.isNone).length +
  ((d.adp.ids.filter fun q => adapterOwner d q.1 == p).map fun q => match q.2.stage with
    | some i => i.frames.length
    | none => 0).sum

/-- R302, R307: the gather in progress, the oldest, has segments in the unit. -/
def pinned (d : Dev) (c : CacheUnit) : Bool := match d.adp.gathers.head? with
  | some g => g.pairs.any fun p => p.id == c.id && p.ver == c.ver && p.units.contains c.unit
  | none => false

/-- R302: the unit of partition p that is evicted next. -/
def victimUnit (d : Dev) (p : Nat) : Option CacheUnit :=
  (sortBy (fun a b : CacheUnit => decide (a.last / 1024 < b.last / 1024) || (a.last / 1024 == b.last / 1024 &&
      (decide (a.id < b.id) || (a.id == b.id && decide (a.unit ≤ b.unit)))))
    (d.adp.cache.filter fun c => c.part == p && c.fwd.isNone && c.ready && !pinned d c)).head?

/-- A cached unit leaves with its frame. -/
def dropUnit (d : Dev) (c : CacheUnit) : Dev :=
  decFrame { d with adp.cache := d.adp.cache.filter fun q => q != c } c.frame

/-- A cache frame for partition p, after evictions within its quota, of which `held` frames are taken and in no record yet; none where
every unit is pinned. -/
def cacheFrame (d : Dev) (p held : Nat) : Nat → Option (Nat × Dev)
  | 0 => none
  | fuel + 1 =>
    if quotaUsed d p + held < (part d p).cfg.adpQuota then allocCache d
    else match victimUnit d p with
      | some c => cacheFrame (bump (dropUnit d c) Addr.ADP_CACHE_EVICT_CNT) p held fuel
      | none => none

/-- n cache frames, or none. -/
def cacheFrames (d : Dev) (p held : Nat) : Nat → Option (List Nat × Dev)
  | 0 => some ([], d)
  | n + 1 => match cacheFrame d p held (d.adp.cache.length + 1) with
    | none => none
    | some (f, d1) => match cacheFrames d1 p (held + 1) n with
      | none => none
      | some (fs, d2) => some (f :: fs, d2)

/-! ## ADAPTER_LOAD and ADAPTER_DATA (R298, R301) -/

/-- ADAPTER_LOAD. -/
def adapterLoad (d : Dev) (h : CmdHdr) (id length : Nat) : Dev :=
  onChannel d h 0x0207 false fun d =>
    checked d h 0x0207
      [(!ownAdapter d h.part id, stw stParam 6),
       (length % 64 != 0 || decide (length < 128) || decide (1073741824 < length), stw stParam 7),
       ((part d h.part).cfg.adpQuota == 0, stw stNoCap 0), (keysMissing d h.part, stw stRetry 0),
       ((adpId d id).stage.isSome, stw stRetry 0)] fun d =>
      match cacheFrames d h.part 0 (ceilDiv length 65536) with
      | none => reply d h 0x0207 (stw stNoCap 0)
      | some (fs, d1) =>
        reply (setAdp d1 id { adpId d1 id with stage := some { st := 1, length := length, frames := fs, digest := [] } })
          h 0x0207 stOk

def execAdapterLoad (h : CmdHdr) (object length : Nat) (s : State) : Host.Outcome State Fault Refusal :=
  serve s fun d => adapterLoad d h object length

/-- The image being delivered under an id. -/
def stageOf (d : Dev) (id : Nat) : Image := (adpId d id).stage.getD Image.empty

def execAdapterData (h : CmdHdr) (object offset : Nat) (data : List Byte) (s : State) :
    Host.Outcome State Fault Refusal :=
  serve s fun d => onChannel d h 0x0208 false fun d =>
    if !ownAdapter d h.part object || (adpId d object).commit.isSome then reply d h 0x0208 (stw stParam 6)
    else serveData d h 0x0208 (stageOf d object) offset data

/-! ## ADAPTER_COMMIT (R296 to R299) -/

/-- The entries of the segment table. -/
def segmentsOf (b : List Byte) : List Segment :=
  (List.range (field b 12 4)).map fun i =>
    let f := fun k n => field b (64 + 16 * i + k) n
    { layer := f 0 2, module := f 2 1, fmt := f 3 1, offset := f 4 4, aLen := f 8 4, bLen := f 12 4 }

/-- The first segment entry that breaks R297, as the offset of its field. -/
def segmentFault (layers length : Nat) : List Segment → List Segment → Nat → Option Nat
  | _, [], _ => none
  | done, s :: r, i =>
    let o := 64 + 16 * i
    let prev := done.getLast?
    let out := match prev with
      | some q => decide (s.layer < q.layer) || (s.layer == q.layer && decide (s.module ≤ q.module))
      | none => false
    let stop := s.offset + s.aLen + s.bLen
    match firstFail
      [(decide (layers ≤ s.layer) || out, o), (decide (15 < s.module), o + 2), (decide (2 < s.fmt), o + 3),
       (s.offset % 64 != 0 || decide (length < stop) ||
         done.any (fun q => decide (max s.offset q.offset < min stop (q.offset + q.aLen + q.bLen))), o + 4)] with
    | some x => some x
    | none => segmentFault layers length (done ++ [s]) r (i + 1)

/-- R296, R297: the offset of the first failing field of an image for id `id`. -/
def adapterFault (d : Dev) (id : Nat) (b : List Byte) : Option Nat :=
  let f := field b
  let m := f 6 1
  let n := f 12 4
  (firstFail
    [(f 0 4 != 0x41504441, 0), (f 4 2 != 1, 4), (decide (31 < m) || (model d m).img.st != 2, 6),
     (decide (f 7 1 < 4) || decide (128 < f 7 1), 7), (f 8 4 != id, 8),
     (n == 0 || decide (4096 < n) || decide (b.length < 64 + 16 * n), 12), (f 16 4 != b.length, 16),
     (!allZero ((b.drop 20).take 12), 20), ((b.drop 32).take 32 != (model d m).img.digest, 32)]).orElse fun _ =>
    segmentFault (match modelDesc d m with
      | some ds => ds.layers.length
      | none => 0) b.length [] (segmentsOf b) 0

/-- R298: the status of a Tephra allocation that fails, by the capacity mode. -/
def unitFail (d : Dev) (p : Nat) : Nat := if (part d p).cfg.capMode = 1 then stReserve else stNoCap

/-- R298: the units of a staged image written to Tephra under the owner's tier key; none where a unit cannot be had. -/
def writeUnits (p seq : Nat) (key : Nat × List Byte) : Dev → List Nat → Option (List Nat × Dev)
  | d, [] => some ([], d)
  | d, f :: r => match takeUnit d p p with
    | none => none
    | some (a, d1) =>
      let d2 := issueWrite d1 p (formByte 0 false) key (readFrame d1 f 0 65536) (mkXfer .adapterWrite f a [] seq)
      match writeUnits p seq key d2 r with
      | none => none
      | some (as, d3) => some (a :: as, d3)

/-- R299: room for another version: with two, the older one goes when no session holds it. -/
def makeRoom (d : Dev) (id : Nat) : Option Dev :=
  let x := adpId d id
  if x.vers.length < 2 then some d
  else match x.vers.head? with
    | some v => if v.sessions = 0 then some (freeVersion d id v.ver) else none
    | none => some d

/-- ADAPTER_COMMIT up to its writes; the reply follows the last TIER_ACK. -/
def adapterCommit (d : Dev) (h : CmdHdr) (id : Nat) (digest : List Byte) : Dev :=
  onChannel d h 0x0209 false fun d =>
    if !ownAdapter d h.part id || (adpId d id).commit.isSome then reply d h 0x0209 (stw stParam 6)
    else match sealKey d h.part with
      | none => reply d h 0x0209 (stw stParam 0)
      | some key =>
        let img := stageOf d id
        commitChecks d h 0x0209 img digest fun d bytes =>
          match adapterFault d id bytes with
          | some o => commitFail d h 0x0209 (stw stParam 0) o
          | none => match makeRoom d id with
            | none => reply d h 0x0209 (stw stRetry 0)
            | some d1 => match reserveUnits d1 h.part img.frames.length with
              | (d2, some c) => reply d2 h 0x0209 (stw c 0)
              | (d2, none) => match writeUnits h.part h.seq key d2 img.frames with
                | none => reply d2 h 0x0209 (stw (unitFail d2 h.part) 0)
                | some (as, d3) =>
                  let x := adpId d3 id
                  let v : AdpVer := { ver := x.last + 1, model := field bytes 6 1, length := img.length,
                                      segs := segmentsOf bytes, units := as, sessions := 0, lost := false }
                  setAdp d3 id { x with commit := some h, waiting := as, vers := x.vers ++ [v] }

def execAdapterCommit (h : CmdHdr) (object : Nat) (digest : List Byte) (s : State) :
    Host.Outcome State Fault Refusal :=
  serve s fun d => adapterCommit d h object digest

/-- The id whose commit has ledger number `seq`. -/
def commitOf (d : Dev) (seq : Nat) : Option (Nat × AdpId) := d.adp.ids.find? fun q => match q.2.commit with
  | some h => h.seq == seq
  | none => false

/-- R139, R298: a unit that its target could not take is written again at a new address; where none can be had, the commit ends with the
allocation's status and the image stays LOADING (log 26). -/
def adapterLost (d : Dev) (seq f a : Nat) : Dev := match commitOf d seq with
  | none => d
  | some (id, x) => match x.commit with
    | none => d
    | some h => match sealKey d h.part, takeUnit d h.part h.part with
      | some key, some (b, d1) =>
        let swap := fun u => if u = a then b else u
        let d1 := setAdp d1 id { x with waiting := x.waiting.map swap, vers := x.vers.map fun v => { v with units := v.units.map swap } }
        issueWrite d1 h.part (formByte 0 false) key (readFrame d1 f 0 65536) (mkXfer .adapterWrite f b [] seq)
      | _, _ =>
        let done := match x.vers.getLast? with
          | some v => v.units.filter fun u => !x.waiting.contains u
          | none => []
        let d := setAdp (done.foldl releaseUnit d) id { x with commit := none, waiting := [], vers := x.vers.dropLast }
        reply d h 0x0209 (stw (unitFail d h.part) 0)

/-- A unit of a commit is durable: the last one gives the id its new current version, and the staged frames become cached
units (R299, R302). -/
def adapterAcked (d : Dev) (seq a : Nat) : Dev :=
  match commitOf d seq with
  | none => releaseUnit d a
  | some (id, x) =>
    let d := modDesc d a fun q => { q with st := .valid, refcnt := 1 }
    let left := x.waiting.filter fun u => u != a
    if left ≠ [] then setAdp d id { x with waiting := left }
    else match x.commit, x.vers.getLast?, x.stage with
      | some h, some v, some img =>
        let units : List CacheUnit := img.frames.zipIdx.map fun (f, k) =>
          { part := h.part, id := id, ver := v.ver, unit := k, frame := f, last := d.tick, ready := true, fwd := none }
        let old := x.cur
        let d := setAdp { d with adp.cache := d.adp.cache ++ units } id
          { x with waiting := [], commit := none, stage := none, last := v.ver, cur := some v.ver }
        let d := match old with
          | some o => if x.vers.any fun q => q.ver == o && q.sessions == 0 then freeVersion d id o else d
          | none => d
        replyBody d h 0x0209 stOk (leBytes 4 v.ver ++ leBytes 12 0)
      | _, _, _ => d

/-- ADAPTER_DROP (R299): the current version, and an image that is still being delivered. -/
def adapterDrop (d : Dev) (h : CmdHdr) (id : Nat) : Dev :=
  onChannel d h 0x020A false fun d =>
    checked d h 0x020A [(!ownAdapter d h.part id, stw stParam 6)] fun d =>
      let x := adpId d id
      let d := match x.stage, x.commit with
        | some img, none => setAdp (freeFrames d img.frames) id { x with stage := none }
        | _, _ => d
      reply (dropCurrent d id) h 0x020A stOk

def execAdapterDrop (h : CmdHdr) (object : Nat) (s : State) : Host.Outcome State Fault Refusal :=
  serve s fun d => adapterDrop d h object

/-! ## ADAPTER_GATHER (R303, R304) -/

/-- R304: a handle's status and its pair, when one is gathered. -/
def gatherHandle (d : Dev) (h : Nat) : Nat × Option (Nat × Nat) :=
  match live d h with
  | none => (stw stStale 0, none)
  | some i =>
    let e := sess d i
    if e.st = .fenced ∨ fenced d (hPart h) then (stw stFenced 0, none)
    else if e.adapter = 0 then (stOk, none) else (stOk, some (e.adapter, e.adpVersion))

/-- The units of a version that a segment lies in. -/
def unitsOfSeg (s : Segment) : List Nat :=
  let n := s.aLen + s.bLen
  if n = 0 then [] else
    (List.range ((s.offset + n - 1) / 65536 - s.offset / 65536 + 1)).map fun k => s.offset / 65536 + k

/-- R303: the segments of a version in the layer range and the module mask. -/
def gatherSegs (v : AdpVer) (first count mask : Nat) : List Segment :=
  v.segs.filter fun s => decide (first ≤ s.layer) && decide (s.layer < first + count) && bit mask s.module

/-- A version of an id. -/
def verOf (d : Dev) (id ver : Nat) : Option AdpVer := (adpId d id).vers.find? fun v => v.ver == ver

/-- The pairs of a gather in increasing id and then version. -/
def gatherPairs (d : Dev) (first count mask : Nat) (hs : List (Nat × Option (Nat × Nat))) : List GPair :=
  let ps := dedup (hs.filterMap (·.2))
  (sortBy (fun a b : Nat × Nat => decide (a.1 < b.1) || (a.1 == b.1 && decide (a.2 ≤ b.2))) ps).map fun (id, ver) =>
    match verOf d id ver with
    | some v =>
      let gs := gatherSegs v first count mask
      if v.lost then ⟨id, ver, stw stTierLost 0, [], 0, []⟩ else ⟨id, ver, 0, gs, 0, dedup (gs.map unitsOfSeg).flatten⟩
    | none => ⟨id, ver, stw stTierLost 0, [], 0, []⟩

/-- ADAPTER_GATHER, SUB 0. A message of another SUB, or one whose handles do not fill its length, is discarded (log 26). -/
def adapterGather (d : Dev) (p cycle : Nat) (m : FabMsg) : Dev :=
  let n := bodyAt m 8 2
  accept d p m 0x06 1 id fun d =>
    if m.sub % 4 ≠ 0 ∨ n = 0 ∨ 256 < n ∨ m.length ≠ 48 + roundUp (8 * n) 16 then d
    else
      let seq := d.led.next
      let d := stampAt d (portInput p) 0x02 0 m.part m.tag cycle
      let hs := (List.range n).map fun i => gatherHandle d (bodyAt m (16 + 8 * i) 8)
      let ps := gatherPairs d (bodyAt m 0 2) (bodyAt m 2 2) (bodyAt m 4 2) hs
      let ix := fun q : Option (Nat × Nat) => match q with
        | some x => (ps.findIdx? fun p => p.id == x.1 && p.ver == x.2).getD 0xFFFF
        | none => 0xFFFF
      let dl := if bodyAt m 6 2 = 0 then 4 else bodyAt m 6 2
      let g : Gather := { seq := seq, tick := d.tick, src := m.src, tag := m.tag, handles := hs.map fun q => (q.1, ix q.2),
                          pairs := ps, expired := false }
      addTimer { d with adp.gathers := d.adp.gathers ++ [g] } .gather (d.tick + dl) seq m.tag

def execAdapterGather (port cycle : Nat) (m : FabMsg) (s : State) : Host.Outcome State Fault Refusal :=
  serve s fun d => adapterGather d port cycle m

/-! ## GATHER_DATA_SEND (R305 to R307, R468) -/

/-- A cached unit. -/
def cachedUnit (d : Dev) (id ver u : Nat) : Option CacheUnit :=
  d.adp.cache.find? fun c => c.id == id && c.ver == ver && c.unit == u

/-- The bytes of a cached unit. -/
def unitBytes (d : Dev) (c : CacheUnit) : List Byte := match c.fwd with
  | some b => b
  | none => readFrame d c.frame 0 65536

/-- R306: a version with a unit that cannot be read is lost, and its pairs take ST_TIER_LOST. -/
def versionLost (d : Dev) (id ver : Nat) : Dev :=
  let d := setAdp d id { adpId d id with vers := (adpId d id).vers.map fun v => if v.ver = ver then { v with lost := true } else v }
  { d with adp.gathers := d.adp.gathers.map fun g => { g with pairs := g.pairs.map fun p =>
    if p.id = id ∧ p.ver = ver ∧ p.status = 0 then { p with status := stw stTierLost 0, segs := [] } else p } }

/-- R156, R159: the Tephra copy at a is lost, or its slot is. -/
def copyLost (d : Dev) (a : Nat) : Bool := (slot d (slotOf a)).st == 3 || match desc d a with
  | some q => q.st == .lost
  | none => true

/-- R306: the read of one unit that is not cached, into a cache frame or through the Caldera. -/
def thawUnit (d : Dev) (id ver u : Nat) (v : AdpVer) (seq : Nat) : Dev :=
  match v.units[u]? with
  | none => d
  | some a =>
    if copyLost d a then versionLost d id ver
    else
      let p := adapterOwner d id
      let place : Option Nat × Dev := match cacheFrame d p 0 (d.adp.cache.length + 1) with
        | some (f, d1) => (some f, d1)
        | none => (none, d)
      let c : CacheUnit := { part := p, id := id, ver := ver, unit := u, frame := place.1.getD 6291456, last := d.tick,
                             ready := false, fwd := if place.1.isSome then none else some [] }
      let d1 := place.2
      bump (issueRead { d1 with adp.cache := d1.adp.cache ++ [c] } p
        (mkXfer .adapterRead (place.1.getD 6291456) a [] seq)) Addr.ADP_THAW_CNT

/-- The pair of the gather in progress as it stands. -/
def pairNow (d : Dev) (seq id ver : Nat) : Option GPair :=
  (d.adp.gathers.find? fun g => g.seq == seq).bind fun g => g.pairs.find? fun p => p.id == id && p.ver == ver

/-- R306: the reads of every unit that the gather needs and that is neither cached nor on its way. -/
def thawGather (d : Dev) (g : Gather) : Dev :=
  g.pairs.foldl (fun d p => match verOf d p.id p.ver with
    | none => d
    | some v => (dedup ((p.segs.map unitsOfSeg).flatten)).foldl (fun d u =>
        if (cachedUnit d p.id p.ver u).isSome || (pairNow d g.seq p.id p.ver).all (fun q => q.status != 0) then d
        else thawUnit d p.id p.ver u v g.seq) d) d

/-- The bytes [o, o + n) of a version from its cached units. -/
def versionBytes (d : Dev) (id ver : Nat) : Nat → Nat → Nat → List Byte
  | 0, _, _ => []
  | fuel + 1, o, n =>
    if n = 0 then []
    else
      let k := min n (65536 - o % 65536)
      match cachedUnit d id ver (o / 65536) with
      | some c => ((unitBytes d c).drop (o % 65536)).take k ++ versionBytes d id ver fuel (o + k) (n - k)
      | none => []

/-- Every unit of a segment is cached and has arrived. -/
def segReady (d : Dev) (id ver : Nat) (s : Segment) : Bool :=
  (unitsOfSeg s).all fun u => match cachedUnit d id ver u with
    | some c => c.ready
    | none => false

/-- The gather in the table replaced. -/
def setGather (d : Dev) (g : Gather) : Dev :=
  { d with adp.gathers := d.adp.gathers.map fun q => if q.seq = g.seq then g else q }

/-- R468: one data piece of at most `n` bytes of the pair's first segment. -/
def sendPiece (d : Dev) (g : Gather) (p : GPair) (s : Segment) (n : Nat) : Dev × GPair × Nat :=
  let total := s.aLen + s.bLen
  let k := min (min n 1048576) (total - p.off)
  let data := versionBytes d p.id p.ver (k / 65536 + 2) (s.offset + p.off) k
  let own := adapterOwner d p.id
  let body := leBytes 4 p.id ++ leBytes 4 p.ver ++ leBytes 2 s.layer ++ leBytes 1 s.module ++ leBytes 1 s.fmt ++
    leBytes 4 s.aLen ++ leBytes 4 s.bLen ++ leBytes 4 p.off ++ leBytes 8 0 ++ data
  let d := sendFab d 5 own 0 g.src 0x06 1 g.tag 0 0 body 0
  let p := if p.off + k = total then { p with segs := p.segs.drop 1, off := 0 } else { p with off := p.off + k }
  (d, p, k)

/-- R427: the first uncorrectable codeword of a segment's cached frames. -/
def segBad (d : Dev) (id ver : Nat) (s : Segment) : Option CwAddr :=
  badAmong d ((unitsOfSeg s).filterMap fun u => (cachedUnit d id ver u).bind fun c =>
    if c.fwd.isNone then some c.frame else none)

/-- R306: the segment that a pair sends next: the one already begun, else the first in table order whose units are cached. It comes to
the front. -/
def nextSeg (d : Dev) (p : GPair) : GPair :=
  if p.off ≠ 0 then p
  else match p.segs.findIdx? (segReady d p.id p.ver) with
    | some k => { p with segs := (p.segs[k]?).toList ++ p.segs.eraseIdx k }
    | none => p

/-- The pairs in order, each sending what it can of the budget in the engine's SVC slots that admit its owner (R63, R307): the device,
the pairs, the budget left. -/
def sendPairs (g : Gather) : Nat → Dev → List GPair → Nat → Dev × List GPair × Nat
  | 0, d, ps, n => (d, ps, n)
  | _, d, [], n => (d, [], n)
  | fuel + 1, d, p :: r, n =>
    let p := nextSeg d p
    match p.segs with
    | s :: _ =>
      if p.status ≠ 0 ∨ n = 0 ∨ segReady d p.id p.ver s = false ∨ !svcSlot d .modelEngine (adapterOwner d p.id) then
        let q := sendPairs g fuel d r n
        (q.1, p :: q.2.1, q.2.2)
      else match segBad d p.id p.ver s with
        | some c => sendPairs g fuel (noteUncorrectable d c) ({ p with status := stw stUncorr 0, segs := [] } :: r) n
        | none =>
          let x := sendPiece d g p s n
          sendPairs g fuel x.1 (x.2.1 :: r) (n - x.2.2)
    | [] =>
      let q := sendPairs g fuel d r n
      (q.1, p :: q.2.1, q.2.2)

/-- R305: data of the gather still wait in a queue of the device. -/
def dataWaits (d : Dev) (g : Gather) : Bool :=
  let mine := fun (m : Msg) => !m.host && m.op == 0x06 && m.flags == 1 && m.dest == g.src && m.tag == g.tag
  (d.tsh.queues.any fun q => q.2.any mine) || d.tsh.held.any mine

/-- R305: the index, the gather's last message, in the BULK class of the last pair's owner (R482, log 26). -/
def sendIndex (d : Dev) (g : Gather) : Dev :=
  let hs := (g.handles.map fun h => leBytes 2 h.1 ++ leBytes 2 h.2).flatten
  let ps := (g.pairs.map fun p => leBytes 4 p.id ++ leBytes 4 p.ver ++ leBytes 2 p.status ++ leBytes 2 0).flatten
  let body := leBytes 2 g.handles.length ++ leBytes 2 g.pairs.length ++ leBytes 12 0 ++ hs ++ ps
  let own := match g.pairs.getLast? with
    | some p => adapterOwner d p.id
    | none => 0
  let d := sendFab d 5 own 0 g.src 0x06 2 g.tag 0 0 body 0
  let d := workDone d 15 0 own g.tag
  let d := dropTimer { d with adp.gathers := d.adp.gathers.filter fun q => q.seq != g.seq } .gather g.seq
  -- forwarded units are not kept
  bump { d with adp.cache := d.adp.cache.filter fun c => c.fwd.isNone || pinned d c || !c.ready } Addr.ADP_GATHER_CNT

/-- GATHER_DATA_SEND: the oldest gather thaws what it needs and sends up to `n` bytes; once
every pair is settled and no data wait, its index. -/
def gatherDataSend (d : Dev) (n : Nat) : Dev :=
  match d.adp.gathers.head? with
  | none => d
  | some g =>
    if g.tick = d.tick ∨ ((slotsNow d).all fun x => x.cls != .svc || x.kind != .modelEngine) ∨ d.plan.missed then d
    else
      let d := thawGather d g
      let g := (d.adp.gathers.find? fun q => q.seq == g.seq).getD g
      let d := { d with adp.cache := d.adp.cache.map fun c =>
        if (g.pairs.any fun p => p.id == c.id && p.ver == c.ver && p.units.contains c.unit) then { c with last := d.tick } else c }
      let fuel := g.pairs.length + (g.pairs.map fun p => p.segs.length + (p.segs.map fun s =>
        (s.aLen + s.bLen) / 1048576 + 1).sum).sum + 1
      let r := sendPairs g (2 * fuel) d g.pairs n
      let g := { g with pairs := r.2.1 }
      let d := setGather r.1 g
      if (g.pairs.all fun p => p.status != 0 || p.segs.isEmpty) && !dataWaits d g then sendIndex d g else d

def execGatherDataSend (bytes : Nat) (s : State) : Host.Outcome State Fault Refusal :=
  serve s fun d => gatherDataSend d bytes

/-- GATHER_EXPIRY: the pairs with unsent segments take ST_TIER_LATE. -/
def gatherExpiry (d : Dev) (tag : Nat) : Dev :=
  match d.adp.gathers.find? fun g => g.tag == tag && !g.expired && (expiredAt d .gather g.seq).isSome with
  | none => d
  | some g =>
    let late := (g.pairs.filter fun p => p.status == 0 && !p.segs.isEmpty).length
    let ps := g.pairs.map fun p => if p.status = 0 ∧ p.segs ≠ [] then { p with status := stw stTierLate 0, segs := [] } else p
    bumpBy (setGather d { g with pairs := ps, expired := true }) Addr.ADP_GATHER_LATE_CNT late

def execGatherExpiry (tag : Nat) (s : State) : Host.Outcome State Fault Refusal := serve s fun d => gatherExpiry d tag

/-! ## Units that arrive or are lost (R302, R306) -/

/-- A unit that a gather read has arrived. -/
def unitArrived (d : Dev) (x : Xfer) (data : List Byte) : Dev :=
  match d.adp.cache.find? fun c => !c.ready && (verOf d c.id c.ver).any fun v => v.units[c.unit]? == some x.addr with
  | none => d
  | some c =>
    let d := if c.fwd.isNone then writeFrame d c.frame 0 data else d
    { d with adp.cache := d.adp.cache.map fun q => if q = c then
      { q with ready := true, fwd := q.fwd.map fun _ => data } else q }

/-- R306: a unit that cannot be read: its pairs take ST_TIER_LOST and the version is lost. -/
def unitUnreadable (d : Dev) (x : Xfer) : Dev :=
  match d.adp.cache.find? fun c => !c.ready && (verOf d c.id c.ver).any fun v => v.units[c.unit]? == some x.addr with
  | none => d
  | some c =>
    versionLost (dropUnit d c) c.id c.ver

end Sys2Proof.Machine
end

