-- ==== Sys2Proof/Machine/Prefix.lean ====
section
/-!
DEFINITION. Sys2Proof/Machine/Prefix.lean: the prefix index: chained block hashes, tables, anchors, inserts, lookups and
attaches (R257 to R281).
-/

namespace Sys2Proof.Machine

/-! ## Chains (R257 to R259, R271) -/

/-- The hashes H_k that follow `h` over whole blocks of 64 token ids, `h` first. -/
def chainFrom (h : List Byte) : List (List Nat) → List (List Byte)
  | [] => [h]
  | b :: r => h :: chainFrom (sha256 (h ++ (b.map (leBytes 4)).flatten)) r

/-- The whole blocks of a list of ids (R258). -/
def wholeBlocks (ids : List Nat) : List (List Nat) := chunks 64 (ids.length / 64) ids

/-- The salt of a table (R259). -/
def tableSalt (d : Dev) (t : Nat) : Nat :=
  if t < 256 then (part d t).salt
  else match tget d.pfx.tables t with
    | some x => x.salt
    | none => 0

/-- H0 of entry i under a table's salt. -/
def chainStart (d : Dev) (i t : Nat) : List Byte :=
  let e := sess d i
  let dig := match tget d.mdl.slots e.model with
    | some m => m.img.digest
    | none => []
  sha256 (leBytes 32 (tableSalt d t) ++ dig ++ leBytes 4 e.adapter ++ leBytes 4 e.adpVersion)

/-- R271, R273: the hashes that a command begins with: new chains in the given tables, or those of its tables that the chain state
holds. -/
def chainHeads (d : Dev) (i : Nat) (insert : Bool) (tables : List Nat) (first : Nat) : Option (List (Nat × List Byte)) :=
  if first = 0 then some (tables.map fun t => (t, chainStart d i t))
  else match (sess d i).ctrl.chain with
    | some c =>
      if c.insert = insert ∧ c.block = first ∧ (insert = false ∨ c.chains.map (·.1) = tables) then
        some (c.chains.filter fun q => tables.contains q.1) else none
    | none => none

/-- R258: a token id of a whole block has bits [31:20] set. -/
def badIds (ids : List Nat) : Bool := (ids.take (ids.length / 64 * 64)).any fun x => decide (2 ^ 20 ≤ x)

/-! ## Tables (R260 to R266) -/

/-- PFX_BUCKETS_USED. -/
def bucketsUsed (d : Dev) : Nat := (d.pfx.tables.map fun t => t.2.buckets).sum

/-- Frames of a table. -/
def tableFrames (buckets : Nat) : Nat := ceilDiv buckets 128

/-- R265: the bucket of a hash. -/
def bucketOf (t : PfxTable) (h : List Byte) : Nat := field h 0 4 % t.buckets

def setWays (d : Dev) (n b : Nat) (ws : List PfxEnt) : Dev :=
  { d with pfx.tables := tmod d.pfx.tables n fun t => { t with ways := tset t.ways b ws } }

/-- R265: the entry matches block k of the chain. -/
def entryMatches (e : PfxEnt) (h : List Byte) (k : Nat) : Bool := e.valid && e.key == h.take 16 && e.blocks == k

/-- A SESSION_DESTROY of the handle stamped before `seq` has not been served (R279). -/
def destroyWaits (d : Dev) (seq handle : Nat) : Bool :=
  let by' := fun (p : Nat) => p == 0 || p == hPart handle
  (d.host.stamped.any fun t => field t.bytes 0 2 == 0x0102 && field t.bytes 16 8 == handle && before t.seq seq &&
    match tget d.host.chans t.chan with
    | some c => by' c.part
    | none => false) ||
  d.host.taken.any fun t => before t.h.seq seq && by' t.h.part && match t.cmd with
    | some (.sessionDestroy _ h) => h == handle
    | _ => false

/-- R266, R279: the holder of a usable entry, for the command with ledger number `seq`. -/
def usableHolder (d : Dev) (seq : Nat) (e : PfxEnt) : Option Nat :=
  match d.pfx.guard.find? fun g => g.attach == seq && g.handle == e.holder with
  | some g => if e.valid ∧ g.usable ∧ g.length = e.hlen then some g.entry else none
  | none => match live d e.holder with
    | some i =>
      let s := sess d i
      if e.valid ∧ s.length = e.hlen ∧ (s.st = .active ∨ s.st = .parked) ∧ !stepInProgress d i ∧ !destroyWaits d seq e.holder
      then some i else none
    | none => none

/-- Matching entries of a bucket that are not usable are cleared and counted (R266). -/
def clearStale (d : Dev) (n seq : Nat) (h : List Byte) (k : Nat) : Dev := match tget d.pfx.tables n with
  | some t =>
    let b := bucketOf t h
    let stale := fun e => entryMatches e h k && (usableHolder d seq e).isNone
    let c := ((waysOf t b).filter stale).length
    if c = 0 then d
    else bumpBy (setWays d n b ((waysOf t b).map fun e => if stale e then PfxEnt.free else e)) Addr.PFX_STALE_CNT c
  | none => d

/-- The usable entry of table n that matches block k: its way and its holder. -/
def lookupAt (d : Dev) (n seq : Nat) (h : List Byte) (k : Nat) : Option (Nat × Nat) := match tget d.pfx.tables n with
  | some t => (waysOf t (bucketOf t h)).zipIdx.findSome? fun (e, w) =>
      if entryMatches e h k then (usableHolder d seq e).map fun i => (w, i) else none
  | none => none

/-! ## Jobs (R278) -/

/-- The job leaves the table; an attach's holders are released with it (R279). -/
def endJob (d : Dev) (j : PfxJob) : Dev :=
  endGuards { d with pfx.jobs := d.pfx.jobs.filter fun q => q.cmd != j.cmd } j.cmd.seq

/-- The command ends with its record (R79). -/
def endWork (d : Dev) (j : PfxJob) (status : Nat) : Dev := workDone (endJob d j) 14 status j.cmd.part j.cmd.tag

/-- R278: the unit serves one command at a time in ledger order, in an SVC slot that admits the command's partition: every prefix
command stamped before has finished, or, of another partition, has left the unit for its attach phase. -/
def mayRun (d : Dev) (h : CmdHdr) : Bool :=
  svcSlot d .prefixIndex h.part &&
  (openPrefix d 0x0301 ++ openPrefix d 0x0302).all fun c => c.1 == h.seq || !before c.1 h.seq ||
    (c.2 != h.part && d.pfx.jobs.any fun q => q.cmd.seq == c.1 && q.hit.isSome)

def setJob (d : Dev) (j : PfxJob) : Dev :=
  { d with pfx.jobs := d.pfx.jobs.map fun q => if q.cmd = j.cmd then j else q }

/-- A job that was not taken before joins the table. -/
def addJob (d : Dev) (j : PfxJob) : Dev :=
  if d.pfx.jobs.any fun q => q.cmd == j.cmd then d else { d with pfx.jobs := d.pfx.jobs ++ [j] }

/-- The job with ledger number `seq`. -/
def jobOf (d : Dev) (seq : Nat) (insert : Bool) : Option PfxJob := d.pfx.jobs.find? fun j => j.cmd.seq == seq && j.insert == insert

/-- The job ends with a status and no effect. -/
def failJob (d : Dev) (j : PfxJob) (status : Nat) : Dev :=
  reply (endWork d j status) j.cmd (if j.insert then 0x0301 else 0x0302) status

/-- A job begins with the chains of its blocks (R257). -/
def hashJob (d : Dev) (j : PfxJob) (heads : List (Nat × List Byte)) : Dev :=
  setJob d { j with started := true, chains := heads.map fun c => (c.1, chainFrom c.2 j.blocks) }

/-! ## PREFIX_INSERT (R267 to R271) -/

/-- R267. -/
def isAnchor (d : Dev) (i k : Nat) : Bool :=
  let e := sess d i
  e.layers.zipIdx.all fun (x, l) => match layerOf d e l with
    | some ld =>
      if ld.kind = 2 then 64 * k == e.length
      else ((x.pages.any fun p => p.first == 64 * k) || 64 * k == x.len) &&
        (ld.window == 0 || match x.pages.head? with
          | some p => decide (p.first ≤ 64 * k - ld.window)
          | none => true)
    | none => false

/-- R270: the entry for block k of the chain: the device, and whether one was newly written. -/
def putEntry (d : Dev) (n seq i : Nat) (h : List Byte) (k : Nat) : Dev × Nat :=
  match lookupAt d n seq h k, tget d.pfx.tables n with
  | some (w, _), some t =>
    let b := bucketOf t h
    (setWays d n b (modNth (waysOf t b) w fun e => { e with lastUse := d.tick }), 0)
  | none, some t =>
    let d := clearStale d n seq h k
    let t := tgetD d.pfx.tables n t
    let b := bucketOf t h
    let ws := waysOf t b
    let new : PfxEnt := { valid := true, key := h.take 16, blocks := k, hlen := (sess d i).length, holder := handleOf d i,
                          lastUse := d.tick, uses := 0 }
    match ws.findIdx? fun e => (usableHolder d seq e).isNone with
    | some w => (bump (setWays d n b (setNth ws w new)) Addr.PFX_INSERT_CNT, 1)
    | none =>
      let w := (ws.zipIdx.foldl (fun (m : Nat × Nat) q => if q.1.lastUse < m.1 then (q.1.lastUse, q.2) else m)
        ((ws.head?.map (·.lastUse)).getD 0, 0)).2
      (bump (bump (setWays d n b (setNth ws w new)) Addr.PFX_EVICT_CNT) Addr.PFX_INSERT_CNT, 1)
  | _, none => (d, 0)

/-- The table of an insert: its partition's own or its domain's (R269). -/
def insertTable (p domain : Nat) : Nat := if domain = 255 then p else 256 + domain

/-- R268, R521, R626: what bars the fork of FORK = 1. -/
def forkBars (d : Dev) (p i : Nat) : Option Nat :=
  if gatedAlone d p || keysMissing d p || stepBars d i || attaching d i then some (stw stRetry 0)
  else forkParkState (sess d i)

/-- The insert begins: its conditions on the source and the chain state hold now, and the fork of FORK = 1 is made (R268, R278). -/
def startInsert (d : Dev) (j : PfxJob) : Dev :=
  let t := insertTable j.cmd.part j.domain
  match liveOn d j.cmd.part j.handle with
  | none => failJob d j (stw stStale 6)
  | some i => match firstFail
      [(stepInProgress d i, stw stRetry 0), (decide ((sess d i).length < 64 * j.lastBlock), stw stParam 11),
       ((tget d.pfx.tables t).isNone, stw stNoCap 0),
       (j.fork && (forkBars d j.cmd.part i).isSome, (forkBars d j.cmd.part i).getD 0)] with
    | some st => failJob d j st
    | none => ctrlThere d i (fun d c => failJob d j (stw c 0)) fun d =>
      match chainHeads d i true [t] j.firstBlock with
      | none => failJob d j (stw stParam 10)
      | some hs =>
        let d := hashJob d j hs
        if !j.fork then d
        else match forkStep d j.cmd i 0 none with
          | (d, none) => d
          | (d, some c) => failJob d j (stw c 0)

/-- PREFIX_INSERT. Its blocks are hashed from the unit's first slot on, until PREFIX_INSERT_DONE. -/
def prefixInsert (d : Dev) (h : CmdHdr) (handle domain piflags first : Nat) (ids : List Nat) : Dev :=
  let bs := wholeBlocks ids
  onChannel d h 0x0301 false fun d =>
    checked d h 0x0301
      [(domain != 255 && h.part != 0, stw stPrivilege 7), (decide (1 < piflags), stw stReserved 8),
       (domain != 255 && decide (15 < domain), stw stParam 7), (decide (65536 < ids.length), stw stParam 11),
       (first != 0 && piflags == 1, stw stParam 8)]
      fun d => withSess d h 0x0301 handle 6 fun d _ _ =>
        checked d h 0x0301 [(badIds ids, stw stTokenInvalid 13)] fun d =>
          let j : PfxJob := { cmd := h, insert := true, handle := handle, domain := domain, firstBlock := first,
                              lastBlock := first + bs.length, chains := [], hit := none, started := false, blocks := bs,
                              fork := piflags == 1 }
          let d := addJob d j
          if mayRun d h then startInsert d j else d

def execPrefixInsert (h : CmdHdr) (handle domain piflags firstBlock : Nat) (ids : List Nat) (s : State) :
    Host.Outcome State Fault Refusal :=
  serve s fun d => prefixInsert d h handle domain piflags firstBlock ids

/-- The entries of holder i become visible, its chain state is set and the reply leaves. -/
def finishInsert (d : Dev) (j : PfxJob) (i : Nat) : Dev :=
  let r := j.chains.foldl (fun (acc : Dev × Nat) c =>
    c.2.zipIdx.foldl (fun (acc : Dev × Nat) (h, n) =>
      if n = 0 ∨ !isAnchor acc.1 i (j.firstBlock + n) then acc
      else
        let q := putEntry acc.1 c.1 j.cmd.seq i h (j.firstBlock + n)
        (q.1, acc.2 + q.2)) acc) (d, 0)
  let d := modCtrl r.1 i fun c => { c with chain := some ⟨true, j.lastBlock, j.chains.map fun c => (c.1, c.2.getLastD [])⟩ }
  replyBody (endWork d j stOk) j.cmd 0x0301 stOk (leBytes 8 (handleOf d i) ++ leBytes 4 r.2 ++ leBytes 4 0)

/-- An insert that was started ends: with FORK = 1 once its fork stands (R115), its child the holder. -/
def settleInsert (d : Dev) (j : PfxJob) : Dev :=
  match (if j.fork then forkOf d j.cmd.seq else none), liveOn d j.cmd.part j.handle with
  | some f, _ =>
    if f.reading then d
    else
      let r := if f.child.isSome then (d, none) else forkStep d j.cmd f.parent 0 none
      match r.2, (forkOf r.1 j.cmd.seq).bind (·.child) with
      | some c, _ => failJob (endFork r.1 j.cmd f.parent) j (stw c 0)
      | none, some k => finishInsert (endFork r.1 j.cmd f.parent) j k
      | none, none => r.1
  | none, none => failJob d j (stw stStale 6)
  | none, some i => ctrlWritten d i (fun d c => failJob d j (stw c 0)) fun d => finishInsert d j i

/-- PREFIX_INSERT_DONE: a job that waited for the unit is started first. -/
def prefixInsertDone (d : Dev) (seq : Nat) : Dev :=
  match jobOf d seq true with
  | none => d
  | some j =>
    if !mayRun d j.cmd then d
    else
      let d := if j.started then d else startInsert d j
      match jobOf d seq true with
      | some j => if j.started then settleInsert d j else d
      | none => d

/-! ## PREFIX_ATTACH (R272 to R279) -/

/-- R272. -/
def targetChecks (d : Dev) (i first : Nat) : List (Bool × Nat) :=
  [(stepInProgress d i, stw stRetry 0), ((sess d i).length != 64 * first, stw stParam 7)]

/-- The attach begins: its chain state is judged now (R271, R278). -/
def startAttach (d : Dev) (j : PfxJob) : Dev :=
  match liveOn d j.cmd.part j.handle with
  | none => failJob d j (stw stStale 6)
  | some i => match firstFail (targetChecks d i j.firstBlock) with
    | some st => failJob d j st
    | none => ctrlThere d i (fun d c => failJob d j (stw c 0)) fun d =>
      match chainHeads d i false (pfxTables d j.cmd.part) j.firstBlock with
      | none => failJob d j (stw stParam 7)
      | some hs => hashJob d j hs

/-- PREFIX_ATTACH: its blocks are hashed and its buckets read until PREFIX_ATTACH_PHASE. One that ends here keeps no holder (R279). -/
def prefixAttach (d : Dev) (h : CmdHdr) (handle first : Nat) (ids : List Nat) : Dev :=
  let bs := wholeBlocks ids
  let d := onChannel d h 0x0302 false fun d =>
    checked d h 0x0302 [(decide (65536 < ids.length), stw stParam 8)]
      fun d => withSess d h 0x0302 handle 6 fun d _ _ =>
        checked d h 0x0302 [(badIds ids, stw stTokenInvalid 9)] fun d =>
          let j : PfxJob := { cmd := h, insert := false, handle := handle, domain := 255, firstBlock := first,
                              lastBlock := first + bs.length, chains := [], hit := none, started := false, blocks := bs,
                              fork := false }
          let d := addJob d j
          if mayRun d h then startAttach d j else d
  if (jobOf d h.seq false).isSome then d else endGuards d h.seq

def execPrefixAttach (h : CmdHdr) (handle firstBlock : Nat) (ids : List Nat) (s : State) :
    Host.Outcome State Fault Refusal :=
  serve s fun d => prefixAttach d h handle firstBlock ids

/-- R273: every hashed block is looked up in every table; the largest usable match, the domain's before the own table's:
block, table, holder. -/
def lookupAll (d : Dev) (j : PfxJob) : Dev × Option (Nat × Nat × Nat) :=
  j.chains.foldl (fun acc c => match tget acc.1.pfx.tables c.1 with
    | none => acc
    | some _ => c.2.zipIdx.foldl (fun (acc : Dev × Option (Nat × Nat × Nat)) (h, n) =>
        if n = 0 then acc
        else
          let k := j.firstBlock + n
          let d := clearStale (bump acc.1 Addr.PFX_LOOKUP_CNT) c.1 j.cmd.seq h k
          match lookupAt d c.1 j.cmd.seq h k, acc.2 with
          | some (_, i), some (k', _) => (d, if k' ≤ k then some (k, c.1, i) else acc.2)
          | some (_, i), none => (d, some (k, c.1, i))
          | none, b => (d, b)) acc) (d, none)

/-- The holder's pages shared into a layer of the target, with their summary entries (R211, R274). -/
def attachPages (i p l : Nat) (ld : LayerDesc) : Dev → List PageEnt → Res Dev
  | d, [] => .ok d
  | d, q :: r => match (if ld.kind = 2 then .ok d else growLists d i p l ld) with
    | .error c => .error c
    | .ok d1 => match (if pageSt d1 q.spn = .new then allocSpn d1 i else sharePage d1 q.spn i) with
      | .error c => .error c
      | .ok (n, d2) =>
        attachPages i p l ld (modLayer d2 i l fun x => { x with pages := x.pages ++ [⟨n, q.first, { q.sum with spn := n }⟩] }) r

/-- One layer of the attach, up to position 64 k. -/
def attachLayer (d : Dev) (i p first k l : Nat) (ld : LayerDesc) (hx : LayerSt) : Res Dev :=
  let old := match (sess d i).layers[l]? with
    | some x => x.pages.map (·.spn)
    | none => []
  let r := if ld.kind = 2 then
      attachPages i p l ld (dropPages (modLayer d i l fun x => { x with pages := [] }) old) hx.pages
    else attachPages i p l ld d (hx.pages.filter fun q => decide (64 * first ≤ q.first) && decide (q.first < 64 * k))
  match r with
  | .error c => .error c
  | .ok d1 => .ok (modLayer d1 i l fun x => { x with len := 64 * k })

/-- Every layer. -/
def attachLayers (i p hold first k : Nat) : Dev → List (LayerSt × Nat) → Res Dev
  | d, [] => .ok d
  | d, (hx, l) :: r => match layerOf d (sess d hold) l with
    | none => attachLayers i p hold first k d r
    | some ld => match attachLayer d i p first k l ld hx with
      | .error c => .error c
      | .ok d1 => attachLayers i p hold first k d1 r

/-- R88: control pages that an ACTIVE target took from a parked holder are thawed. -/
def thawTails (d : Dev) (i : Nat) : Dev :=
  if (sess d i).st = .active then
    (controlSpns d (sess d i)).foldl (fun d n => match thawPage d i (ownerOf d i) n with
      | .ok d1 => d1
      | .error _ => d) d
  else d

/-- Pages that the attach shares. -/
def attachCount (d : Dev) (hold first k : Nat) : Nat :=
  ((sess d hold).layers.zipIdx.map fun (x, l) =>
    if kindOf d (sess d hold) l = 2 then x.pages.length
    else (x.pages.filter fun q => decide (64 * first ≤ q.first) && decide (q.first < 64 * k)).length).sum

/-- The reply of R277 with the chain state of R273 and R274. -/
def finishAttach (d : Dev) (j : PfxJob) (i block source : Nat) (cs : List (Nat × List Byte)) : Dev :=
  let d := modCtrl d i fun c => { c with chain := some ⟨false, block, cs⟩ }
  replyBody (endWork d j stOk) j.cmd 0x0302 stOk (leBytes 4 (sess d i).length ++ leBytes 1 source ++ leBytes 11 0)

/-- The entry that the attach used, if it is still there: LAST_USE and USES (R264). -/
def useEntry (d : Dev) (n k : Nat) (h : List Byte) : Dev := match tget d.pfx.tables n with
  | some t =>
    let b := bucketOf t h
    setWays d n b ((waysOf t b).map fun e =>
      if entryMatches e h k then { e with lastUse := d.tick, uses := min (e.uses + 1) 0xFFFFFFFF } else e)
  | none => d

/-- The attach phase proper: nothing stays of one that cannot allocate its metadata (R276). -/
def attachNow (d : Dev) (j : PfxJob) (i k t hold : Nat) : Dev :=
  ctrlWritten d i (fun d c => failJob d j (stw c 0)) fun d =>
    match attachLayers i j.cmd.part hold j.firstBlock k d (sess d hold).layers.zipIdx with
    | .error c => if c = 0 then bump d Addr.LAH_MARK_WAIT_CNT else failJob d j (stw c 0)
    | .ok d1 =>
      let d1 := bumpBy (bump d1 Addr.PFX_HIT_CNT) Addr.PFX_ATTACH_PAGE_CNT (attachCount d hold j.firstBlock k)
      let cs := (j.chains.filter fun c => c.1 == t).map fun c => (c.1, (nth c.2 (k - j.firstBlock)).getD [])
      let d1 := cs.foldl (fun d c => useEntry d c.1 k c.2) d1
      finishAttach (thawTails d1 i) j i k (if t < 256 then 0 else 1) cs

/-- R275: the attach runs on the session and page manager, in an SVC slot of it, once nothing of its holder is in flight. -/
def attachPhase (d : Dev) (j : PfxJob) (i k t hold : Nat) : Dev :=
  if inFlight d (sess d hold) ∨ !svcSlot d .spmPort j.cmd.part then d else attachNow d j i k t hold

/-- The lookup of an attach ends, and its target is checked again (R275). -/
def endLookup (d : Dev) (j : PfxJob) (i : Nat) : Dev :=
  let r := lookupAll d j
  match firstFail (targetChecks r.1 i j.firstBlock) with
  | some st => failJob r.1 j st
  | none => match r.2 with
    | none => ctrlWritten r.1 i (fun d c => failJob d j (stw c 0)) fun d =>
        finishAttach d j i j.firstBlock 255 (j.chains.map fun c => (c.1, c.2.headD []))
    | some (k, t, hold) =>
      let j := { j with hit := some (k, t, hold) }
      let d := setJob r.1 j
      let e := sess d hold
      let d := { d with pfx.guard := d.pfx.guard ++ [⟨j.cmd.seq, hold, handleOf d hold, e.length, true⟩] }
      attachPhase d j i k t hold

/-- PREFIX_ATTACH_PHASE: a job that waited for the unit is started first. -/
def prefixAttachPhase (d : Dev) (seq : Nat) : Dev :=
  match jobOf d seq false with
  | none => d
  | some j => match j.hit, liveOn d j.cmd.part j.handle with
    | _, none => failJob d j (stw stStale 6)
    | some (k, t, hold), some i => attachPhase d j i k t hold
    | none, some i =>
      if !mayRun d j.cmd then d
      else
        let d := if j.started then d else startAttach d j
        match jobOf d seq false with
        | some j => if j.started then endLookup d j i else d
        | none => d

/-! ## PREFIX_DOMAIN_CONFIG (R259, R260, R263) -/

/-- A 256-bit salt drawn (R259). -/
def drawSalt (d : Dev) : Nat × Dev :=
  let r := drawNext d
  (r.1 % 2 ^ 256, r.2)

/-- A power of two from 1 to 2^20. -/
def bucketCountOk (n : Nat) : Bool := (List.range 21).any fun k => n == 2 ^ k

/-- The domain's table goes, and every member partition leaves it. -/
def closeDomain (d : Dev) (t : Nat) (x : PfxTable) : Dev :=
  let d := freeFrames { d with pfx.tables := tdel d.pfx.tables t } x.frames
  { d with parts := tmap (fun p => if p.cfg.publicDomain + 256 = t then { p with cfg.publicDomain := 255 } else p) d.parts }

/-- PREFIX_DOMAIN_CONFIG. -/
def prefixDomainConfig (d : Dev) (h : CmdHdr) (domain opn buckets : Nat) : Dev :=
  let t := 256 + domain
  onChannel d h 0x0303 true fun d =>
    checked d h 0x0303
      [(decide (15 < domain), stw stParam 6), (decide (1 < opn), stw stParam 7),
       (opn == 1 && (tget d.pfx.tables t).isSome, stw stParam 7), (opn == 1 && !bucketCountOk buckets, stw stParam 9),
       (opn == 1 && decide (2 ^ 21 < bucketsUsed d + buckets), stw stNoCap 0)]
      fun d => match opn, tget d.pfx.tables t with
        | 0, some x => reply (closeDomain d t x) h 0x0303 stOk
        | 0, none => reply d h 0x0303 stOk
        | _, _ => match allocOwnMany d false 0 (tableFrames buckets) with
          | .error c => reply d h 0x0303 (stw c 0)
          | .ok (fs, d1) =>
            let (salt, d2) := drawSalt d1
            reply { d2 with pfx.tables := tset d2.pfx.tables t ⟨salt, buckets, fs, []⟩ } h 0x0303 stOk

def execPrefixDomainConfig (h : CmdHdr) (domain opn buckets : Nat) (s : State) : Host.Outcome State Fault Refusal :=
  serve s fun d => prefixDomainConfig d h domain opn buckets

end Sys2Proof.Machine
end

