-- ==== Sys2Proof/Machine/Stream.lean ====
section
/-!
DEFINITION. Sys2Proof/Machine/Stream.lean: the Lahar streams as they leave the device: records, messages and their sealing
(R470, R471, R515 to R518, R701). One message carries one record, or none under R516 (log 27).
-/

namespace Sys2Proof.Machine

/-- R517: the bytes of a record. -/
def recBytes (r : LahRec) : List Byte :=
  leBytes 1 r.rtype ++ leBytes 1 r.part ++ leBytes 2 (b01 r.lost + 2 * b01 r.destroy) ++
  leBytes 4 (32 + roundUp r.body.length 16) ++ leBytes 8 r.handle ++ leBytes 2 r.layer ++
  leBytes 1 (formByte r.fmt r.cmp) ++ leBytes 1 0 ++ leBytes 4 r.first ++ leBytes 4 r.count ++ leBytes 4 0 ++ padTo 16 r.body

/-- R459: the 32 bytes of a fabric header that the device sends. -/
def fabHeader (dest type part sub len tag status handle : Nat) : List Byte :=
  leBytes 4 dest ++ leBytes 4 (Config.selfAddr % 2 ^ 24) ++ leBytes 1 type ++ leBytes 1 part ++ leBytes 2 sub ++
  leBytes 4 len ++ leBytes 4 tag ++ leBytes 2 status ++ leBytes 2 0 ++ leBytes 8 handle

/-- The address in a route entry (R456). -/
def routeAddr (d : Dev) (n : Nat) : Nat := match tget d.fab.routes n with
  | some r => r.addr
  | none => 0

def predAddr (d : Dev) : Nat := routeAddr d 4080
def buddyAddr (d : Dev) : Nat := routeAddr d 4081

/-- R470, R471: a sealed buddy message: the body of a message of partition p with `plain` as its records, and M moved on. -/
def lahBody (d : Dev) (dest type p sub seq n epoch tag : Nat) (key : List Byte) (plain : List Byte) : List Byte × Dev :=
  let nonce := (d.obs.nb + 2 ^ 64 + d.obs.mCount) % 2 ^ 96
  let first := leBytes 4 seq ++ leBytes 2 n ++ leBytes 2 0 ++ leBytes 5 epoch ++ leBytes 3 0
  let r := Config.gcmSeal key nonce (fabHeader dest type p sub (32 + 48 + plain.length) tag 0 0 ++ first) plain
  (first ++ leBytes 12 nonce ++ leBytes 4 0 ++ r.2.take 16 ++ r.1, { d with obs.mCount := d.obs.mCount + 1 })

/-- What a timer of an unacknowledged record waits (R516). -/
def resendTicks (d : Dev) (rel : Bool) : Nat := if rel then d.lah.releaseTicks else 64

def resendKind (rel : Bool) : TimerKind := if rel then .release else .delta

/-- A LAHAR_DELTA or RELEASE_LOG of partition p with one record or none. Where p has no replication key nothing can be
sealed, and the record waits for its resend. -/
def sendLah (d : Dev) (rel : Bool) (p seq epoch : Nat) (recd : Option LahRec) : Dev :=
  let dest := buddyAddr d
  let type := if rel then 0x22 else 0x20
  match (part d p).replKeys.head? with
  | none => match recd with
    | some _ => addTimer d (resendKind rel) (d.tick + resendTicks d rel) seq p
    | none => d
  | some k =>
    let (t, d) := newTag d
    let (b, d) := lahBody d dest type p (b01 rel) seq (b01 recd.isSome) epoch t k.2 ((recd.map recBytes).getD [])
    sendFab d 1 p 0 dest type (b01 rel) t 0 0 b seq

/-- R515: the next record of a stream, in a message that names `epoch`. -/
def sendRecAt (d : Dev) (rel : Bool) (epoch : Nat) (r : LahRec) : Dev :=
  let seq := if rel then d.lah.rSeq else d.lah.dSeq
  let d := { d with lah.unacked := d.lah.unacked ++ [⟨seq, rel, 0, r, epoch⟩],
                    lah.rSeq := if rel then (seq + 1) % 2 ^ 32 else d.lah.rSeq,
                    lah.dSeq := if rel then d.lah.dSeq else (seq + 1) % 2 ^ 32,
                    lah.sinceCut := if rel then d.lah.sinceCut else d.lah.sinceCut + 1 }
  sendLah d rel r.part seq epoch (some r)

/-- R515: the next record of a stream, in the current epoch. -/
def sendRec (d : Dev) (rel : Bool) (r : LahRec) : Dev := sendRecAt d rel d.lah.epoch r

/-- A record with nothing set but its type, partition and handle. -/
def LahRec.base (rtype p handle : Nat) : LahRec :=
  { rtype := rtype, part := p, lost := false, destroy := false, handle := handle, layer := 0xFFFF, fmt := 0, cmp := false,
    first := 0, count := 0, body := [] }

/-- R520: the TOKEN record of a chosen token. -/
def tokenRec (d : Dev) (p handle pos token reason tflags : Nat) : LahRec :=
  { LahRec.base 0x10 p handle with
    first := pos, body := leBytes 4 token ++ leBytes 1 reason ++ leBytes 1 tflags ++ leBytes 2 0 ++ leBytes 5 d.lah.epoch ++ leBytes 3 0 }

/-- R515, R701: a LAHAR_ACK to the predecessor, under partition 0's key, unshaped (R482). -/
def sendAck (d : Dev) (rel : Bool) (seq epoch : Nat) : Dev :=
  let dest := predAddr d
  match (part d 0).replKeys.head? with
  | none => d
  | some k =>
    let (t, d) := newTag d
    let (b, d) := lahBody d dest 0x21 0 (b01 rel) seq 0 epoch t k.2 []
    sendDirect d (fabMsg 0x21 0 1 (8 * subOf d 0 0 + 1) dest (b01 rel) t 0 0 b 0)

end Sys2Proof.Machine
end

