-- ==== Sys2Proof/Machine/Text.lean ====
section
/-!
DEFINITION. Sys2Proof/Machine/Text.lean: vocabulary and grammar tables, UTF-8 decoding, tokenization, grammar states, the
UTF-8 stage and the stop-string stage (R311, R312, R316 to R320, R336 to R344).
-/

namespace Sys2Proof.Machine

/-! ## Vocabulary tables (R311, R312) -/

def Vocab.empty : Vocab :=
  { img := Image.empty, logitFmt := 0, entries := 0, merges := 0, eos := 0, byteBase := 0, tokenOff := 0, poolOff := 0,
    mergeOff := 0 }

def vocab (d : Dev) (n : Nat) : Vocab := tgetD d.tok.vocabs n Vocab.empty
def setVocab (d : Dev) (n : Nat) (v : Vocab) : Dev := { d with tok.vocabs := tset d.tok.vocabs n v }

/-- The vocabulary of a session's model. -/
def sessVocab (d : Dev) (e : SessEnt) : Option Vocab :=
  ((tget d.mdl.slots e.model).bind (·.vocab)).map (vocab d)

/-- A field of `n` bytes of an image in HBM. -/
def imgField (d : Dev) (img : Image) (o n : Nat) : Nat := leNat (imageBytes d img o n)

/-- FLAGS of a token: SPECIAL and BYTE. -/
def tokenFlags (d : Dev) (v : Vocab) (id : Nat) : Nat := imgField d v.img (v.tokenOff + 8 * id + 5) 1
def isSpecial (d : Dev) (v : Vocab) (id : Nat) : Bool := bit (tokenFlags d v id) 0

/-- The bytes of a token. -/
def tokenBytes (d : Dev) (v : Vocab) (id : Nat) : List Byte :=
  imageBytes d v.img (v.poolOff + imgField d v.img (v.tokenOff + 8 * id) 4) (imgField d v.img (v.tokenOff + 8 * id + 4) 1)

/-- R427: the first uncorrectable codeword among what the detokenizer reads of a token. -/
def tokenUe (d : Dev) (v : Vocab) (id : Nat) : Option CwAddr :=
  (imageBad d v.img (v.tokenOff + 8 * id) 8).or
    (imageBad d v.img (v.poolOff + imgField d v.img (v.tokenOff + 8 * id) 4) (imgField d v.img (v.tokenOff + 8 * id + 4) 1))

/-- R317: the token with these bytes that is neither SPECIAL nor BYTE. -/
def tokenOf (d : Dev) (v : Vocab) (l : List Byte) : Option Nat :=
  firstFrom (fun id => tokenFlags d v id == 0 && tokenBytes d v id == l) 0 v.entries

/-- The merges in rank order: LEFT, RIGHT, RESULT. -/
def mergeTable (d : Dev) (v : Vocab) : List (Nat × Nat × Nat) :=
  (List.range v.merges).map fun i =>
    let o := v.mergeOff + 12 * i
    (imgField d v.img o 4, imgField d v.img (o + 4) 4, imgField d v.img (o + 8) 4)

/-! ## UTF-8 (R316) -/

/-- The ranges that the continuation bytes of a lead byte lie in (RFC 3629); none for a byte that begins no sequence. -/
def utf8Tail (b : Nat) : Option (List (Nat × Nat)) :=
  let c := (0x80, 0xBF)
  if b < 0x80 then some []
  else if 0xC2 ≤ b ∧ b ≤ 0xDF then some [c]
  else if b = 0xE0 then some [(0xA0, 0xBF), c]
  else if b = 0xED then some [(0x80, 0x9F), c]
  else if 0xE1 ≤ b ∧ b ≤ 0xEF then some [c, c]
  else if b = 0xF0 then some [(0x90, 0xBF), c, c]
  else if 0xF1 ≤ b ∧ b ≤ 0xF3 then some [c, c, c]
  else if b = 0xF4 then some [(0x80, 0x8F), c, c]
  else none

/-- How many bytes of `l` continue a sequence, and whether the sequence is whole, cut short, or out of bytes. -/
def utf8Run : List (Nat × Nat) → List Byte → Nat × Option Bool
  | [], _ => (0, some true)
  | _ :: _, [] => (0, none)
  | (lo, hi) :: r, b :: l =>
    if lo ≤ b.toNat ∧ b.toNat ≤ hi then
      let q := utf8Run r l
      (q.1 + 1, q.2)
    else (0, some false)

/-- The characters (true) and maximal subparts (false) of a byte string, and the bytes of a sequence that its end leaves
incomplete. -/
def utf8Split : Nat → List Byte → List (Bool × List Byte) × List Byte
  | 0, _ => ([], [])
  | _, [] => ([], [])
  | fuel + 1, b :: l => match utf8Tail b.toNat with
    | none =>
      let r := utf8Split fuel l
      ((false, [b]) :: r.1, r.2)
    | some t => match utf8Run t l with
      | (_, none) => ([], b :: l)
      | (n, some ok) =>
        let r := utf8Split fuel (l.drop n)
        ((ok, b :: l.take n) :: r.1, r.2)

def utf8 (l : List Byte) : List (Bool × List Byte) × List Byte := utf8Split l.length l

/-- U+FFFD. -/
def replacement : List Byte := [0xEF, 0xBF, 0xBD]

/-- The text is valid UTF-8. -/
def utf8Valid (l : List Byte) : Bool :=
  let r := utf8 l
  (r.1.all fun c => c.1) && r.2.isEmpty

/-! ## Tokenization (R316 to R320) -/

/-- R316: the class of a character: ASCII_CLASS, or 1. -/
def charClass (d : Dev) (v : Vocab) (c : List Byte) : Nat := match c with
  | [b] => let n := imgField d v.img (64 + b.toNat / 2) 1
           if b.toNat % 2 = 0 then n % 16 else n / 16
  | _ => 1

/-- R316: no word boundary lies between characters of these classes. -/
def joined (d : Dev) (v : Vocab) (a b : Nat) : Bool := bit (imgField d v.img (128 + 2 * a) 2) b

/-- The words: runs of characters without a boundary; each maximal subpart its own. -/
def wordsOf (d : Dev) (v : Vocab) : List (Bool × List Byte) → List (List (Bool × List Byte))
  | [] => []
  | c :: r => match wordsOf d v r with
    | (x :: w) :: ws =>
      if c.1 && x.1 && joined d v (charClass d v c.2) (charClass d v x.2) then (c :: x :: w) :: ws else [c] :: (x :: w) :: ws
    | ws => [c] :: ws

/-- R317: the initial units of a character or a maximal subpart. -/
def unitsOf (d : Dev) (v : Vocab) (c : Bool × List Byte) : List Nat :=
  let bytes := c.2.map fun b => v.byteBase + b.toNat
  if c.1 then match tokenOf d v c.2 with
    | some id => [id]
    | none => bytes
  else bytes

/-- The rank and result of a merge of two units. -/
def rankOf (ms : List (Nat × Nat × Nat)) (a b : Nat) : Option (Nat × Nat) :=
  ms.zipIdx.findSome? fun (m, i) => if m.1 = a ∧ m.2.1 = b then some (i, m.2.2) else none

/-- The leftmost merge of least rank: rank, index, result. -/
def bestMerge (ms : List (Nat × Nat × Nat)) (us : List Nat) : Option (Nat × Nat × Nat) :=
  (us.zip (us.drop 1)).zipIdx.foldl (fun best (p, i) => match rankOf ms p.1 p.2, best with
    | some (r, x), some (r', _, _) => if r < r' then some (r, i, x) else best
    | some (r, x), none => some (r, i, x)
    | none, b => b) none

/-- R318. -/
def bpe (ms : List (Nat × Nat × Nat)) : Nat → List Nat → List Nat
  | 0, us => us
  | fuel + 1, us => match bestMerge ms us with
    | none => us
    | some (_, i, x) => bpe ms fuel (us.take i ++ x :: us.drop (i + 2))

/-- R316 to R320: the ids of the carry and a buffer, and the new carry. -/
def tokenizeBytes (d : Dev) (v : Vocab) (close replace : Bool) (l : List Byte) : List Nat × List Byte :=
  let r := utf8 l
  let cs := if close && !r.2.isEmpty then r.1 ++ [(false, r.2)] else r.1
  let cs := if replace then cs.map fun c => if c.1 then c else (true, replacement) else cs
  let ms := mergeTable d v
  let ids := ((wordsOf d v cs).map fun w =>
    let us := (w.map (unitsOf d v)).flatten
    bpe ms us.length us).flatten
  (ids, if close then [] else r.2)

/-! ## Grammars (R336 to R338) -/

def Gram.empty : Gram :=
  { img := Image.empty, eosFallback := false, stackMax := 0, vocabDigest := [], states := 0, classes := 0, start := 0,
    mapOff := 0, stateOff := 0, transOff := 0, transCount := 0 }

/-- The key of partition p's image `id`. -/
def gramKey (p id : Nat) : Nat := p * 65536 + id
def gram (d : Dev) (p id : Nat) : Gram := tgetD d.tok.grams (gramKey p id) Gram.empty

/-- A grammar image given a value; its frames are objects of the change map (R508). -/
def setGram (d : Dev) (p id : Nat) (g : Gram) : Dev :=
  g.img.frames.foldl (fun d f => noteObj d (2 ^ 32 + f)) { d with tok.grams := tset d.tok.grams (gramKey p id) g }

/-- A transition: class, action, target, return state. -/
structure Trans where
  cls : Nat
  action : Nat
  target : Nat
  ret : Nat
  deriving DecidableEq, Repr

/-- The transitions of a state. -/
def transitions (d : Dev) (g : Gram) (s : Nat) : List Trans :=
  let o := g.stateOff + 8 * s
  let first := imgField d g.img o 4
  (List.range (imgField d g.img (o + 4) 3)).map fun i =>
    let t := g.transOff + 12 * (first + i)
    ⟨imgField d g.img t 2, imgField d g.img (t + 2) 1, imgField d g.img (t + 4) 4, imgField d g.img (t + 8) 4⟩

/-- ACCEPT of a state. -/
def accepting (d : Dev) (g : Gram) (s : Nat) : Bool := bit (imgField d g.img (g.stateOff + 8 * s + 7) 1) 0

/-- The class of an id. -/
def classOf (d : Dev) (g : Gram) (id : Nat) : Nat := imgField d g.img (g.mapOff + 2 * id) 2

/-- The usable transition of a list on an id (R337). -/
def usableTrans (d : Dev) (g : Gram) (ts : List Trans) (depth id : Nat) : Option Trans :=
  let c := classOf d g id
  if c = 0xFFFF then none
  else ts.find? fun t => t.cls == c && (t.action == 0 || (t.action == 1 && decide (depth < g.stackMax)) ||
    (t.action == 2 && decide (0 < depth)))

/-- R337: the ids of [0, ENTRIES) that session e allows. -/
def allowedIds (d : Dev) (e : SessEnt) (p : Nat) (v : Vocab) : List Nat :=
  if e.ctrl.sampling.grammar = 0 then List.range v.entries
  else
    let g := gram d p e.ctrl.sampling.grammar
    let ts := transitions d g e.ctrl.gState
    let dp := e.ctrl.gStack.length
    (List.range v.entries).filter fun id =>
      if id = v.eos then accepting d g e.ctrl.gState && dp == 0 else (usableTrans d g ts dp id).isSome

/-- R427: the first uncorrectable codeword among what a step of session e reads of its grammar image: the classes of the ids, the state
and its transitions. -/
def gramUe (d : Dev) (e : SessEnt) (p : Nat) (v : Vocab) : Option CwAddr :=
  if e.ctrl.sampling.grammar = 0 then none
  else
    let g := gram d p e.ctrl.sampling.grammar
    let o := g.stateOff + 8 * e.ctrl.gState
    ((imageBad d g.img g.mapOff (2 * v.entries)).or (imageBad d g.img o 8)).or
      (imageBad d g.img (g.transOff + 12 * imgField d g.img o 4) (12 * imgField d g.img (o + 4) 3))

/-- R338, R528: the grammar state after a chosen id; an id without a usable transition leaves it. -/
def advance (d : Dev) (p : Nat) (v : Vocab) (c : Ctrl) (id : Nat) : Ctrl :=
  if c.sampling.grammar = 0 ∨ id = v.eos then c
  else
    let g := gram d p c.sampling.grammar
    match usableTrans d g (transitions d g c.gState) c.gStack.length id with
    | none => c
    | some t => match t.action, c.gStack with
      | 0, _ => { c with gState := t.target }
      | 1, st => { c with gState := t.target, gStack := t.ret :: st }
      | _, s :: st => { c with gState := s, gStack := st }
      | _, [] => c

/-! ## The holdback stages (R341, R343) -/

/-- R341: the text that passes, and the bytes held back. -/
def utf8Stage (hold bytes : List Byte) : List Byte × List Byte :=
  let r := utf8 (hold ++ bytes)
  ((r.1.map fun c => if c.1 then c.2 else replacement).flatten, r.2)

/-- The UTF-8 stage at the end of the stream. -/
def utf8End (hold bytes : List Byte) : List Byte :=
  let r := utf8Stage hold bytes
  if r.2.isEmpty then r.1 else r.1 ++ replacement

/-- The occurrence of a stop string that ends at byte n of the text and starts first. -/
def matchAt (strs : List (List Byte)) (t : List Byte) (n : Nat) : Option Nat :=
  (sortBy (fun a b => decide (a ≤ b)) (strs.filterMap fun s =>
    if s.length ≤ n ∧ (t.take n).drop (n - s.length) = s then some (n - s.length) else none)).head?

/-- R343: the match in a text: its start and its end. -/
def findMatch (strs : List (List Byte)) (t : List Byte) : Option (Nat × Nat) :=
  (List.range t.length).findSome? fun k => (matchAt strs t (k + 1)).map fun s => (s, k + 1)

/-- R343: the length of the longest suffix that is a proper prefix of a stop string. -/
def heldSuffix (strs : List (List Byte)) (t : List Byte) : Nat :=
  let n := (List.range (t.length + 1)).filter fun k =>
    strs.any fun s => decide (k < s.length) && (t.drop (t.length - k)) == s.take k
  n.foldl max 0

end Sys2Proof.Machine
end

