-- ==== Sys2Proof/Machine/Sampler.lean ====
section
/-!
DEFINITION. Sys2Proof/Machine/Sampler.lean: LOGITS from its arrival to its token: R697, R119, R325 to R334, R338 to R344,
the release of tokens (R38, R39, R520, R575) and forced tokens (R528).
-/

namespace Sys2Proof.Machine

/-! ## Arrival (R119, R325, R697) -/

/-- R90: the status that the session's state gives a LOGITS. -/
def logitsState (e : SessEnt) : Option Nat := match e.st with
  | .parked => some (stw stParam 0)
  | .awaitHost => some (stw stRetry 0)
  | .fenced => some (stw stFenced 0)
  | .degraded => some (stw e.degReason 0)
  | _ => none

/-- Bytes of one logit. -/
def logitBytes (v : Vocab) : Nat := if v.logitFmt = 0 then 2 else 4

/-- The first `n` logits of a message. -/
def logitsOf (v : Vocab) (m : FabMsg) (n : Nat) : List F32 :=
  let b := logitBytes v
  (chunks b n ((m.body.drop 16).take (b * n))).map fun x => if v.logitFmt = 0 then ofBf16 (leNat x) else BitVec.ofNat 32 (leNat x)

/-- Steps 1 to 4 of R697. -/
def logitsHead (d : Dev) (m : FabMsg) : List (Bool × Nat) :=
  let p := hPart m.handle
  [(m.length % 16 != 0 || decide (m.length < 48), stw stLen 4), (m.part != p, stw stStale 5),
   (fenced d p, stw stFenced 0), ((live d m.handle).isNone, stw stStale 5)]

/-- Steps 7 to 9 of R697. -/
def logitsChecks (e : SessEnt) (v : Vocab) (m : FabMsg) : List (Bool × Nat) :=
  let n := bodyAt m 4 4
  [(m.length != 48 + roundUp (n * logitBytes v) 16, stw stLen 7), (!allZero ((m.body.drop 8).take 8), stw stReserved 8),
   (decide (n < v.entries) || decide (1048576 < n), stw stParam 7), (e.length != bodyAt m 0 4 + 1, stw stParam 6),
   (!(logitsOf v m v.entries).all finite32, stw stParam 9), (e.ctrl.stopped, stw stParam 0)]

/-- A TOKEN_OUT for a LOGITS that fails a check (R467). -/
def rejectLogits (d : Dev) (m : FabMsg) (status seq : Nat) : Dev :=
  sendToken d m.src m.tag (hPart m.handle) m.handle (bodyAt m 0 4) 0 2 0 status seq

/-- R119: a fork of the session, or an insert or attach that names it as source, holder or target, is running. -/
def logitsBarred (d : Dev) (i : Nat) : Bool :=
  forking d i || attachHolder d i || d.pfx.jobs.any fun j => live d j.handle == some i

/-- Steps 5 to 9: the status of the first failing check, or the vocabulary. -/
def logitsServe (d : Dev) (i seq : Nat) (m : FabMsg) : Except Nat Vocab :=
  let e := sess d i
  match logitsState e with
  | some st => .error st
  | none =>
    if d.tok.logits.any fun l => l.entry == i && l.held.isNone && l.seq != seq then .error (stw stRetry 0)
    else match sessVocab d e with
    | none => .error (stw stParam 0)
    | some v => match firstFail (logitsChecks e v m) with
      | some st => .error st
      | none => .ok v

/-- The LOGITS as it waits for its sampler unit. -/
def mkLogits (d : Dev) (m : FabMsg) (i seq : Nat) (zs : List F32) (held : Option FabMsg) : LogitsReq :=
  { seq := seq, tick := d.tick, src := m.src, tag := m.tag, handle := m.handle, entry := i, pos := bodyAt m 0 4,
    logits := zs, sent := false, held := held, fenced := false }

/-- LOGITS. -/
def logitsArrive (d : Dev) (p cycle : Nat) (m : FabMsg) : Dev :=
  accept d p m 0x04 1 (fun d => rejectLogits d m (stw stLen 4) 0) fun d =>
    let seq := d.led.next
    let d := stampAt d (portInput p) 0x02 0 (hPart m.handle) m.handle cycle
    match firstFail (logitsHead d m) with
    | some st => rejectLogits d m st seq
    | none => match live d m.handle with
      | none => rejectLogits d m (stw stStale 5) seq
      | some i =>
        let d := modSess d i fun e => { e with lastTick := d.tick }
        if logitsBarred d i || d.tok.logits.any (fun l => l.entry == i && l.held.isSome) then { d with tok.logits := d.tok.logits ++ [mkLogits d m i seq [] (some m)] }
        else match logitsServe d i seq m with
          | .error st => rejectLogits d m st seq
          | .ok v => { d with tok.logits := d.tok.logits ++ [mkLogits d m i seq (logitsOf v m v.entries) none] }

def execLogits (port cycle : Nat) (m : FabMsg) (s : State) : Host.Outcome State Fault Refusal :=
  serve s fun d => logitsArrive d port cycle m

/-! ## Penalties and the choice (R326 to R329) -/

/-- R326: exp(x) for x ≤ 0 within 2⁻²¹ of its value. -/
def wExp (x : F32) : F32 := match un x with
  | .nan => x
  | .inf neg => if neg then 0 else f32Inf
  | .fin _ m e =>
    if m = 0 then f32One
    else
      let r := expFix (toFix true m e)
      let v := ofFix r.1 r.2
      let c := Config.expCand x
      if finite32 c && (((un c).add v.neg).abs).le (relBound v) then c else f32 .near v

/-- R327: an infinite result becomes the largest finite magnitude with its sign. -/
def clampF (a : F32) : F32 := if a.toNat / 2 ^ 23 % 256 = 255 then (a &&& 0x80000000) ||| 0x7F7FFFFF else a

/-- R327. -/
def penalize (s : Sampling) (c : Nat) (z : F32) : F32 :=
  let z := if c ≠ 0 ∧ s.repPen ≠ f32One then clampF (if fLt 0 z then fDiv z s.repPen else fMul z s.repPen) else z
  let z := clampF (f32 .near ((un z).add ((un s.freqPen).mul (Fv.int c)).neg))
  if c ≠ 0 then clampF (fSub z s.presPen) else z

/-- The logits after R327: only ids that the table holds change. -/
def penalized (c : Ctrl) (zs : List F32) : List F32 :=
  c.pen.foldl (fun zs q => modNth zs q.1 (penalize c.sampling q.2)) zs

/-- R326: decreasing value, ties to the lower id. -/
def rankedLe (a b : Nat × F32) : Bool := fLt b.2 a.2 || (!fLt a.2 b.2 && decide (a.1 ≤ b.1))

/-- The allowed ids with their logits, ranked. -/
def ranked (zs : List F32) (ok : List Nat) : List (Nat × F32) :=
  sortBy rankedLe (ok.filterMap fun i => (nth zs i).map fun z => (i, z))

/-- Sums in order. -/
def fSum (l : List F32) : F32 := l.foldl fAdd 0

/-- The shortest prefix whose running sum, from `s`, reaches `goal`; the whole list when none does. -/
def nucleus (goal : F32) : F32 → List (Nat × F32) → List (Nat × F32)
  | _, [] => []
  | s, q :: r =>
    let s := fAdd s q.2
    if fLe goal s then [q] else q :: nucleus goal s r

/-- The first id whose running sum, from `s`, exceeds t; the last when none does. -/
def pickSum (t : F32) : F32 → Nat → List (Nat × F32) → Nat
  | _, last, [] => last
  | s, _, q :: r =>
    let s := fAdd s q.2
    if fLt t s then q.1 else pickSum t s q.1 r

/-- R329. -/
def drawU (seed p : Nat) : F32 :=
  let x := field (sha256 (leBytes 8 seed ++ leBytes 4 p ++ leBytes 4 0)) 0 3
  f32 .near (.fin false x (-24))

/-- R326 after the mask, on the ranked candidates; none where there is none. -/
def chooseD (s : Sampling) (pos : Nat) (cs : List (Nat × F32)) : Option Nat := match cs with
  | [] => none
  | (i, m) :: _ =>
    if (un s.temp).eqv (.fin false 0 0) then some i
    else
      let ws := (cs.take s.topK).map fun q => (q.1, wExp (fDiv (fSub q.2 m) s.temp))
      let ws := ws.filter fun q => fLe s.minP q.2
      let ws := nucleus (fMul s.topP (fSum (ws.map (·.2)))) 0 ws
      some (pickSum (fMul (drawU s.seed pos) (fSum (ws.map (·.2)))) 0 i ws)

/-- R328: an id counted; one that the full table does not hold is not. -/
def countPen (d : Dev) (i id : Nat) : Dev :=
  let c := (sess d i).ctrl
  match tget c.pen id with
  | some n => modCtrl d i fun c => { c with pen := tset c.pen id (min (n + 1) 65535) }
  | none =>
    if 8192 ≤ c.pen.length then bump d Addr.TOK_PEN_FULL_CNT
    else modCtrl d i fun c => { c with pen := tset c.pen id 1 }

/-! ## Stops and release (R38, R340 to R344, R520, R575) -/

/-- The text that an end with a stop other than STOP_STRING passes out: the held prefix, then the bytes of the UTF-8 stage
with `own` behind them. -/
def endText (c : Ctrl) (own : List Byte) : List Byte := c.stopHold ++ utf8End c.utf8Hold own

/-- What a chosen token shows: its reason (0: no stop), the bytes delivered, and the holdback of the two stages. -/
def showToken (d : Dev) (v : Vocab) (c : Ctrl) (id : Nat) : Nat × List Byte × List Byte × List Byte :=
  let special := isSpecial d v id
  let own := if special && !bit c.sampling.streamOpt 1 then [] else tokenBytes d v id
  if id = v.eos then (1, endText c own, [], [])
  else if c.stopIds.contains id then (2, endText c (if bit c.sampling.streamOpt 2 then own else []), [], [])
  else
    let u := utf8Stage c.utf8Hold own
    let t := c.stopHold ++ u.1
    match findMatch c.stopStrs t with
    | some (a, b) => (3, t.take (if bit c.sampling.streamOpt 2 then b else a), [], [])
    | none =>
      let n := heldSuffix c.stopStrs t
      (0, t.take (t.length - n), u.2, t.drop (t.length - n))

/-- R574, R575: a TOKEN_BYTES of session i. -/
def sendBytes (d : Dev) (i gen off pos reason : Nat) (ended replay : Bool) (bytes : List Byte) : Dev :=
  let h := handleKept d i
  sendHost d 0x0481 (hPart h) (hLocal h) 2 (sess d i).ctrl.home (2 * b01 replay) 0
    (leBytes 8 h ++ leBytes 4 gen ++ leBytes 2 bytes.length ++ leBytes 1 reason ++ leBytes 1 (b01 ended) ++ leBytes 8 off ++
     leBytes 4 pos ++ leBytes 4 0 ++ bytes)

/-- The release of a token: TOKEN_OUT, and its host bytes when it shows any or ends the stream. -/
def releaseOne (d : Dev) (i : Nat) (t : PendTok) : Dev :=
  let h := handleKept d i
  let d := if t.noToken then d
    else sendToken (meter (countEvent d (hPart h) 4 1) (hPart h) 5 1) t.dest t.tag (hPart h) h t.pos t.token
      (b01 t.stop) t.reason stOk 0
  if t.ended || !t.bytes.isEmpty then
    sendBytes d i (sess d i).ctrl.genSeq t.off (if t.noToken then 0xFFFFFFFF else t.pos) t.reason t.ended t.replay t.bytes
  else d

/-- The tokens at the front of the pending area that may be released (R38, R520). -/
def releaseReady (i : Nat) : Nat → Dev → Dev
  | 0, d => d
  | fuel + 1, d => match (sess d i).ctrl.pend with
    | t :: r =>
      if t.acked && (t.recSeq == 0 || decide (t.ackTick < d.tick)) then
        releaseReady i fuel (releaseOne (modCtrl d i fun c => { c with pend := r }) i t)
      else d
    | [] => d

/-- What may be released is; a destroyed session whose last token leaves ends (R97). -/
def releaseAll (d : Dev) (i : Nat) : Dev := finishDoomed (releaseReady i (sess d i).ctrl.pend.length d) i

/-- TOKEN_RELEASE; also for a destroyed session whose tokens are still held. -/
def execTokenRelease (handle : Nat) (s : State) : Host.Outcome State Fault Refusal :=
  serve s fun d =>
    let i := (part d (hPart handle)).cfg.sessBase + hLocal handle
    if (live d handle).isSome ∨ ((sess d i).doomed ∧ handleKept d i = handle) then releaseAll d i else d

/-- The pending area takes a token or an end marker; `recSeq` is one more than its TOKEN record's sequence, 0 for none. -/
def pushPend (d : Dev) (i : Nat) (t : PendTok) : Dev :=
  modCtrl d i fun c => { c with pend := c.pend ++ [{ t with off := c.outOffset }],
                                outOffset := c.outOffset + t.bytes.length, stopped := c.stopped || t.ended }

/-- A token chosen for LOGITS l (R328, R338, R340 to R344): counted, the grammar advanced, its bytes formed, and released
or gated. `forced`: a forced token (R528). -/
def settleToken (d : Dev) (l : LogitsReq) (v : Vocab) (id : Nat) (forced : Bool) : Dev :=
  let i := l.entry
  let p := hPart l.handle
  let d := { d with tok.logits := d.tok.logits.filter fun q => q.seq != l.seq }
  let d := countPen d i id
  let d := modCtrl d i fun c => advance d p v c id
  let s := showToken d v (sess d i).ctrl id
  let d := modCtrl d i fun c => { c with utf8Hold := s.2.2.1, stopHold := s.2.2.2, awaiting := none }
  let d := if s.1 = 0 then d else bump d Addr.TOK_STOP_CNT
  let gated := (sess d i).gate && !forced
  let t : PendTok :=
    { pos := l.pos, token := id, reason := s.1, stop := s.1 != 0, noToken := false, replay := forced, dest := l.src,
      tag := l.tag, off := 0, bytes := s.2.1, ended := s.1 != 0, recSeq := if gated then d.lah.rSeq + 1 else 0,
      acked := !gated, ackTick := 0 }
  let d := pushPend d i t
  let d := if gated then sendRec d true (tokenRec d p l.handle l.pos id s.1 (b01 (s.1 != 0))) else d
  releaseAll d i

/-- A LOGITS that reads a vocabulary or grammar frame with an uncorrectable codeword ends there (R427). -/
def failStep (d : Dev) (l : LogitsReq) (c : CwAddr) : Dev := endLogits (noteUncorrectable d c) l (stw stUncorr 0) 0

/-- The token chosen for LOGITS l, once its table entry and bytes are read. -/
def settleRead (d : Dev) (l : LogitsReq) (v : Vocab) (id : Nat) (forced : Bool) : Dev := match tokenUe d v id with
  | some c => failStep d l c
  | none => settleToken d l v id forced

/-- R339: no id is allowed. -/
def deadEnd (d : Dev) (l : LogitsReq) (v : Vocab) (fallback : Bool) : Dev :=
  let d := bump d Addr.TOK_GRAMMAR_DEAD_CNT
  if fallback then settleRead d l v v.eos false
  else
    let i := l.entry
    let bytes := endText (sess d i).ctrl []
    let d := modCtrl d i fun c => { c with utf8Hold := [], stopHold := [] }
    let d := { d with tok.logits := d.tok.logits.filter fun q => q.seq != l.seq }
    let d := sendToken d l.src l.tag (hPart l.handle) l.handle l.pos 0 3 4 (stw stGrammarDead 0) l.seq
    let d := pushPend d i
      { pos := l.pos, token := 0, reason := 4, stop := true, noToken := true, replay := false, dest := l.src, tag := l.tag,
        off := 0, bytes := bytes, ended := true, recSeq := 0, acked := true, ackTick := 0 }
    releaseAll d i

/-! ## SAMPLE_STEP (R326, R332, R528) -/

/-- R332: the compacted logit set: ENTRIES, ZMAX, LOGSUM and the entries. -/
def logitSet (topn : Nat) (cs : List (Nat × F32)) : Nat × F32 × F32 × List Byte :=
  let zmax := (cs.head?.map (·.2)).getD 0
  let sum := fSum (cs.map fun q => wExp (fSub q.2 zmax))
  let es := cs.take topn
  (es.length, zmax, pLn sum, (es.map fun q => leBytes 4 q.1 ++ leBytes 4 q.2.toNat).flatten)

/-- R94, R332: the set goes to the host and the session awaits its choice; one that unreadable data has degraded since stays DEGRADED
(R96). -/
def sendSet (d : Dev) (l : LogitsReq) (cs : List (Nat × F32)) : Dev :=
  let i := l.entry
  let s := (sess d i).ctrl.sampling
  let q := logitSet s.hostTopn cs
  let d := sendHost d 0x0480 (hPart l.handle) (hLocal l.handle) 2 (sess d i).ctrl.home 0 0
    (leBytes 8 l.handle ++ leBytes 4 l.pos ++ leBytes 2 q.1 ++ leBytes 2 0 ++ leBytes 4 q.2.1.toNat ++
     leBytes 4 q.2.2.1.toNat ++ leBytes 8 0 ++ q.2.2.2)
  let d := modSess d i fun e =>
    { e with st := if e.st = .active then .awaitHost else e.st, ctrl := { e.ctrl with awaiting := some l.pos } }
  let d := addTimer d .host (max d.tick (l.tick + s.hostDeadline)) l.seq l.handle
  { d with tok.logits := d.tok.logits.map fun q => if q.seq = l.seq then { q with sent := true } else q }

/-- The forced token of a position. -/
def forcedAt (c : Ctrl) (pos : Nat) : Option Nat := (c.forced.find? fun f => f.1 == pos).map (·.2)

/-- The choice on a LOGITS whose control page may be written. -/
def chooseFor (d : Dev) (l : LogitsReq) (v : Vocab) : Dev :=
  let e := sess d l.entry
  let p := hPart l.handle
  match gramUe d e p v, forcedAt e.ctrl l.pos with
  | some c, _ => failStep d l c
  | none, some id =>
    let d := modCtrl d l.entry fun c => { c with forced := c.forced.filter fun f => f.1 != l.pos }
    settleRead (bump d Addr.LAH_FORCED_CNT) l v id true
  | none, none =>
    let ok := allowedIds d e p v
    let fb := e.ctrl.sampling.grammar != 0 && (gram d p e.ctrl.sampling.grammar).eosFallback
    if ok.isEmpty then deadEnd (if fb && e.ctrl.sampling.cls == 1 then bump d Addr.TOK_SAMPLE_CNT else d) l v fb
    else if e.ctrl.sampling.cls = 0 then sendSet d l (ranked l.logits ok)
    else match chooseD e.ctrl.sampling l.pos (ranked (penalized e.ctrl l.logits) ok) with
      | some id => settleRead (bump d Addr.TOK_SAMPLE_CNT) l v id false
      | none => deadEnd d l v fb

/-- A LOGITS held under R119 has its checks made once the command that held it has ended. -/
def unholdLogits (d : Dev) (l : LogitsReq) (m : FabMsg) : Dev × Option LogitsReq :=
  let d0 := { d with tok.logits := d.tok.logits.filter fun q => q.seq != l.seq }
  match firstFail (logitsHead d m) with
  | some st => (rejectLogits d0 m st l.seq, none)
  | none => match logitsServe d l.entry l.seq m with
    | .error st => (rejectLogits d0 m st l.seq, none)
    | .ok v =>
      let l := { l with logits := logitsOf v m v.entries, held := none }
      ({ d with tok.logits := d.tok.logits.map fun q => if q.seq = l.seq then l else q }, some l)

/-- R119: once the command that held them has ended, the held LOGITS have their checks made, in ledger order. -/
def serveHeld (d : Dev) : Dev :=
  (d.tok.logits.filter fun l => l.held.isSome).foldl (fun d l => match l.held with
    | some m => if logitsBarred d l.entry then d else (unholdLogits d l m).1
    | none => d) d

/-- FORK_COMPLETE; LOGITS held meanwhile are served (R119). -/
def execForkComplete (seq : Nat) (s : State) : Host.Outcome State Fault Refusal :=
  serve s fun d => serveHeld (forkComplete d seq)

/-- PREFIX_INSERT_DONE; LOGITS held meanwhile are served (R119). -/
def execPrefixInsertDone (seq : Nat) (s : State) : Host.Outcome State Fault Refusal :=
  serve s fun d => serveHeld (prefixInsertDone d seq)

/-- PREFIX_ATTACH_PHASE; LOGITS held meanwhile are served (R119). -/
def execPrefixAttachPhase (seq : Nat) (s : State) : Host.Outcome State Fault Refusal :=
  serve s fun d => serveHeld (prefixAttachPhase d seq)

/-- The sampler unit takes a LOGITS that passed its checks. -/
def sampleNow (d : Dev) (l : LogitsReq) : Dev :=
  if l.sent ∨ l.held.isSome then d
  else if l.fenced then endLogits d l (stw stFenced 0) 0
  else match sessVocab d (sess d l.entry) with
  | none => d
  | some v => ctrlWritten d l.entry (fun d c => endLogits d l (stw c 0) 0) fun d => chooseFor d l v

/-- SAMPLE_STEP: a LOGITS that this tick's manifest gives a sampler unit (R331). -/
def sampleStep (d : Dev) (seq : Nat) : Dev :=
  match d.tok.logits.find? fun l => l.seq == seq with
  | none => d
  | some l => if logitsBarred d l.entry ∨ !listed d 4 seq then d
    else workDone (sampleNow (unlist d 4 seq) l) 16 0 (hPart l.handle) l.handle

def execSampleStep (seq : Nat) (s : State) : Host.Outcome State Fault Refusal := serve s fun d => sampleStep d seq

/-! ## The host's choice and its deadline (R332 to R334) -/

/-- The LOGITS of entry i that awaits its host. -/
def awaitingHost (d : Dev) (i : Nat) : Option LogitsReq := d.tok.logits.find? fun l => l.entry == i && l.sent

/-- The step ends with ST_HOST_TIMEOUT and the session is ACTIVE again (R334). -/
def hostTimeout (d : Dev) (l : LogitsReq) : Dev :=
  let d := dropTimer d .host l.seq
  let d := modSess d l.entry fun e =>
    { e with st := if e.st = .awaitHost then .active else e.st,
             ctrl := { e.ctrl with awaiting := none, timedOut := dedup (e.ctrl.timedOut ++ [l.pos]) } }
  endLogits (bump d Addr.TOK_HOST_TIMEOUT_CNT) l (stw stHostTimeout 0) 0

/-- A HOST_CHOICE of the session stamped before `x` has not been served (R333). -/
def choiceWaits (d : Dev) (handle x : Nat) : Bool :=
  (d.host.stamped.any fun t => field t.bytes 0 2 == 0x0402 && field t.bytes 16 8 == handle && before t.seq x) ||
  d.host.taken.any fun t => t.op == 0x0402 && before t.h.seq x && match t.cmd with
    | some (.hostChoice _ h _ _) => h == handle
    | _ => false

/-- HOST_DEADLINE_EXPIRY. -/
def hostDeadlineExpiry (d : Dev) (seq : Nat) : Dev :=
  match d.tok.logits.find? (fun l => l.seq == seq && l.sent), expiredAt d .host seq with
  | some l, some x => if choiceWaits d l.handle x then d else hostTimeout d l
  | _, _ => d

def execHostDeadlineExpiry (seq : Nat) (s : State) : Host.Outcome State Fault Refusal :=
  serve s fun d => hostDeadlineExpiry d seq

/-- HOST_CHOICE. -/
def hostChoice (d : Dev) (h : CmdHdr) (handle pos token : Nat) : Dev :=
  onChannel d h 0x0402 false fun d =>
    withSess d h 0x0402 handle 6 fun d i e =>
      match (if e.st = .awaitHost then awaitingHost d i else none) with
      | some l =>
        if l.pos ≠ pos then
          if e.ctrl.timedOut.contains pos then reply (bump d Addr.TOK_LATE_REPLY_CNT) h 0x0402 (stw stLateReply 0)
          else reply d h 0x0402 (stw stParam 7)
        else
          let late := match expiredAt d .host l.seq with
            | some x => !before h.seq x
            | none => false
          if late then reply (bump d Addr.TOK_LATE_REPLY_CNT) h 0x0402 (stw stLateReply 0)
          else match sessVocab d e with
          | none => reply d h 0x0402 (stw stTokenInvalid 8)
          | some v =>
            match gramUe d e h.part v, (allowedIds d e h.part v).contains token, tokenUe d v token with
            | some c, _, _ => reply (noteUncorrectable d c) h 0x0402 (stw stUncorr 0)
            | none, false, _ => reply d h 0x0402 (stw stTokenInvalid 8)
            | none, true, some c => reply (noteUncorrectable d c) h 0x0402 (stw stUncorr 0)
            | none, true, none => ctrlWritten d i (fun d c => reply (endLogits (dropTimer d .host l.seq) l (stw c 0) 0) h 0x0402 (stw c 0)) fun d =>
              let d := modSess (dropTimer d .host l.seq) i fun e => { e with st := if e.st = .awaitHost then .active else e.st }
              reply (settleToken (bump d Addr.TOK_HOST_CHOICE_CNT) l v token false) h 0x0402 stOk
      | none =>
        if e.ctrl.timedOut.contains pos then reply (bump d Addr.TOK_LATE_REPLY_CNT) h 0x0402 (stw stLateReply 0)
        else reply d h 0x0402 (stw stParam 7)

def execHostChoice (h : CmdHdr) (handle position token : Nat) (s : State) : Host.Outcome State Fault Refusal :=
  serve s fun d => hostChoice d h handle position token

end Sys2Proof.Machine
end

