-- ==== Sys2Proof/Machine/Tokens.lean ====
section
/-!
DEFINITION. Sys2Proof/Machine/Tokens.lean: the token commands: sampling parameters, TOKENIZE, STOP_SET, vocabularies and
grammar images (R310 to R324, R335, R336, R342, R562, R566).
-/

namespace Sys2Proof.Machine

/-! ## SESSION_SET_SAMPLING (R322 to R324) -/

/-- lo ≤ x ≤ hi. -/
def within (lo hi x : F32) : Bool := fLe lo x && fLe x hi

/-- R335: session e of partition p may name the grammar image. -/
def grammarUsable (d : Dev) (e : SessEnt) (p id : Nat) : Bool :=
  id == 0 || ((gram d p id).img.st == 2 && match sessVocab d e with
    | some v => v.img.digest == (gram d p id).vocabDigest
    | none => false)

/-- R322: the ranges of the parameters that need no session. -/
def samplingChecks (q : Sampling) : List (Bool × Nat) :=
  [(decide (7 < q.streamOpt), stw stReserved 9), (decide (1 < q.cls), stw stParam 7), (decide (1 < q.newGen), stw stParam 8),
   (!bit q.streamOpt 0, stw stParam 9), (decide (1 < q.penScope), stw stParam 10),
   (q.topK == 0 || decide (2048 < q.topK), stw stParam 11), (decide (65535 < q.grammar), stw stParam 12),
   (!((un q.temp).eqv (.fin false 0 0) || within 0x3B800000 0x41800000 q.temp), stw stParam 13),
   (!within 0x37800000 0x3F800000 q.topP, stw stParam 14), (!(fLe 0 q.minP && fLt q.minP f32One), stw stParam 15),
   (!within 0x3E000000 0x41000000 q.repPen, stw stParam 16), (!within 0xC0000000 0x40000000 q.freqPen, stw stParam 17),
   (!within 0xC0000000 0x40000000 q.presPen, stw stParam 18), (q.hostTopn == 0 || decide (2048 < q.hostTopn), stw stParam 20),
   (q.hostDeadline == 0 || decide (1048576 < q.hostDeadline), stw stParam 22)]

/-- R323: the end marker of a generation that a NEW_GEN ends. -/
def endGeneration (d : Dev) (i : Nat) : Dev :=
  let c := (sess d i).ctrl
  if c.stopped then d
  else releaseAll (pushPend d i
    { pos := 0, token := 0, reason := 5, stop := true, noToken := true, replay := false, dest := 0, tag := 0, off := 0,
      bytes := endText c [], ended := true, recSeq := 0, acked := true, ackTick := 0 }) i

/-- R323: the new generation of session i under the parameters q. -/
def newGeneration (d : Dev) (i p : Nat) (q : Sampling) : Dev :=
  let d := endGeneration d i
  modCtrl d i fun c =>
    { c with genSeq := c.genSeq + 1, stopped := false, pen := [], gStack := [], utf8Hold := [], stopHold := [],
             outOffset := 0, gState := if q.grammar = 0 then 0 else (gram d p q.grammar).start }

/-- SESSION_SET_SAMPLING. -/
def setSampling (d : Dev) (h : CmdHdr) (handle : Nat) (q : Sampling) : Dev :=
  onChannel d h 0x0107 false fun d =>
    checked d h 0x0107 (samplingChecks q) fun d =>
      withSess d h 0x0107 handle 6 fun d i e =>
        checked d h 0x0107
          [(!grammarUsable d e h.part q.grammar, stw stParam 12),
           (q.newGen == 0 && q.grammar != e.ctrl.sampling.grammar, stw stParam 12),
           (stepInProgress d i, stw stRetry 0), (d.pwr.fumarole && q.cls == 1, stw stRetry 0),
           (q.newGen == 1 && e.ctrl.pend.any fun t => !t.noToken, stw stRetry 0)]
          fun d => writeCtrl d h 0x0107 i fun d =>
            let d := if q.newGen = 1 then newGeneration d i h.part q else d
            let (seed, d) := if q.seed = 0 then drawSeed d else (q.seed, d)
            let d := modSess d i fun e => { e with clsD := q.cls == 1, ctrl := { e.ctrl with sampling := { q with seed := seed } } }
            replyBody d h 0x0107 stOk (leBytes 8 seed ++ leBytes 8 0)

def execSessionSetSampling (h : CmdHdr) (handle : Nat) (p : Sampling) (s : State) : Host.Outcome State Fault Refusal :=
  serve s fun d => setSampling d h handle p

/-! ## TOKENIZE (R316 to R321, R328) -/

/-- TOKENIZE, in an SVC slot of the sampler units that admits the partition (R321). -/
def tokenizeCmd (d : Dev) (h : CmdHdr) (handle tflags : Nat) (text : List Byte) : Dev :=
  onChannel d h 0x0401 false fun d =>
    checked d h 0x0401 [(decide (3 < tflags), stw stReserved 7), (decide (65536 < text.length), stw stParam 9)] fun d =>
      withSess d h 0x0401 handle 6 fun d i e =>
        match sessVocab d e with
        | none => reply d h 0x0401 (stw stParam 0)
        | some v =>
          if !svcSlot d .sampler h.part then d
          else match badAmong d v.img.frames with
          | some c => reply (noteUncorrectable d c) h 0x0401 (stw stUncorr 0)
          | none => writeCtrl d h 0x0401 i fun d =>
          let r := tokenizeBytes d v (bit tflags 0) (bit tflags 1) (e.ctrl.carry ++ text)
          let d := modCtrl d i fun c => { c with carry := r.2 }
          let d := if e.ctrl.sampling.penScope = 1 then r.1.foldl (fun d id => countPen d i id) d else d
          let d := bumpBy (countEvent d h.part 7 text.length) Addr.TOK_TOKENIZE_BYTE_CNT text.length
          let d := workDone d 16 stOk h.part h.tag
          replyEntries d h 0x0401 stOk (leBytes 4 r.1.length ++ leBytes 1 r.2.length ++ leBytes 11 0) 4
            (r.1.map (leBytes 4)).flatten

def execTokenize (h : CmdHdr) (handle tflags : Nat) (text : List Byte) (s : State) : Host.Outcome State Fault Refusal :=
  serve s fun d => tokenizeCmd d h handle tflags text

/-! ## STOP_SET (R342) -/

/-- The checks of STOP_SET. -/
def stopChecks (ids strings : Nat) (idSlots : List Nat) (ents : List (Nat × List Byte)) : List (Bool × Nat) :=
  let used := ents.take strings
  [((idSlots.drop ids).any (· != 0), stw stReserved 10),
   ((ents.drop strings).any fun e => e.1 != 0 || !allZero e.2, stw stReserved 11),
   (decide (32 < ids), stw stParam 7), (decide (16 < strings), stw stParam 8),
   (used.any fun e => e.1 == 0 || decide (64 < e.1), stw stParam 11)]

/-- STOP_SET. -/
def stopSetCmd (d : Dev) (h : CmdHdr) (handle ids strings : Nat) (idSlots : List Nat) (ents : List (Nat × List Byte)) : Dev :=
  onChannel d h 0x0403 false fun d =>
    checked d h 0x0403 (stopChecks ids strings idSlots ents) fun d =>
      withSess d h 0x0403 handle 6 fun d i _ =>
        let strs := (ents.take strings).map fun e => e.2.take e.1
        if !strs.all utf8Valid then reply d h 0x0403 (stw stTokenInvalid 11)
        else if stepInProgress d i then reply d h 0x0403 (stw stRetry 0)
        else writeCtrl d h 0x0403 i fun d =>
          reply (modCtrl d i fun c => { c with stopIds := idSlots.take ids, stopStrs := strs }) h 0x0403 stOk

def execStopSet (h : CmdHdr) (handle ids strings : Nat) (idSlots : List Nat) (entries : List (Nat × List Byte)) (s : State) :
    Host.Outcome State Fault Refusal :=
  serve s fun d => stopSetCmd d h handle ids strings idSlots entries

/-! ## Vocabularies (R310 to R314) -/

/-- VOCAB_LOAD. -/
def vocabLoad (d : Dev) (h : CmdHdr) (n length : Nat) : Dev :=
  onChannel d h 0x0404 true fun d =>
    checked d h 0x0404 [(decide (7 < n), stw stParam 6),
      (length % 64 != 0 || decide (length < 256) || decide (268435456 < length), stw stParam 7),
      ((vocab d n).img.st != 0, stw stRetry 0)] fun d =>
      match allocOwnMany d false 0 (ceilDiv length 65536) with
      | .error c => reply d h 0x0404 (stw c 0)
      | .ok (fs, d1) =>
        reply (setVocab d1 n { Vocab.empty with img := { st := 1, length := length, frames := fs, digest := [] } }) h 0x0404 stOk

def execVocabLoad (h : CmdHdr) (object length : Nat) (s : State) : Host.Outcome State Fault Refusal :=
  serve s fun d => vocabLoad d h object length

def execVocabData (h : CmdHdr) (object offset : Nat) (data : List Byte) (s : State) : Host.Outcome State Fault Refusal :=
  serve s fun d => onChannel d h 0x0405 true fun d => serveData d h 0x0405 (vocab d object).img offset data

/-- The offset of the first failing field: `none` where every pair holds. -/
def firstOffset (l : List (Bool × Nat)) : Option Nat := firstFail l

/-- The header fields and the places of the tables (R311, R313). -/
def vocabHeader (b : List Byte) : List (Bool × Nat) :=
  let n := field b 8 4
  let m := field b 12 4
  let len := b.length
  [(field b 0 4 != 0x42434F56, 0), (field b 4 2 != 1, 4), (decide (1 < field b 6 1), 6), (field b 7 1 != 0, 7),
   (decide (n < 257) || decide (1048576 < n), 8), (decide (1048575 < m), 12), (decide (n ≤ field b 16 4), 16),
   (decide (n < field b 20 4 + 256), 20), (decide (len < field b 24 4 + 8 * n), 24),
   (decide (len < field b 28 4 + field b 36 4), 28), (decide (len < field b 32 4 + 12 * m), 32),
   (!allZero ((b.drop 40).take 24), 40), (!allZero ((b.drop 160).take 96), 160)]

/-- A token as the image gives it: its entry's offset, flags and bytes. -/
structure TokEnt where
  off : Nat
  flags : Nat
  bytes : List Byte
  deriving DecidableEq, Repr

def tokEnts (b : List Byte) : List TokEnt :=
  (List.range (field b 8 4)).map fun i =>
    let o := field b 24 4 + 8 * i
    ⟨o, field b (o + 5) 1, (b.drop (field b 28 4 + field b o 4)).take (field b (o + 4) 1)⟩

/-- Each token entry: its bytes within POOL_LEN, LEN, reserved bits. -/
def tokenFault (b : List Byte) (t : TokEnt) : Option Nat :=
  firstOffset [(decide (field b 36 4 < field b t.off 4 + field b (t.off + 4) 1), t.off),
    (decide (128 < field b (t.off + 4) 1), t.off + 4), (decide (3 < t.flags), t.off + 5), (field b (t.off + 6) 2 != 0, t.off + 6)]

/-- R313's rules on one token. -/
def tokenRule (b : List Byte) (t : TokEnt) (i : Nat) : Option Nat :=
  let base := field b 20 4
  let mine := decide (base ≤ i) && decide (i < base + 256)
  firstOffset [(mine && (!bit t.flags 1 || t.bytes != [BitVec.ofNat 8 (i - base)]), t.off + 5),
    (!mine && bit t.flags 1, t.off + 5), (i == field b 16 4 && !bit t.flags 0, t.off + 5),
    (t.bytes.isEmpty && !bit t.flags 0, t.off + 4)]

/-- Two tokens that are neither SPECIAL nor BYTE have equal bytes: the offset of the later. -/
def twinToken : List TokEnt → List TokEnt → Option Nat
  | _, [] => none
  | seen, t :: r => if seen.any fun q => q.bytes == t.bytes then some t.off else twinToken (t :: seen) r

/-- R313's rules on one merge, at offset o. -/
def mergeFault (ts : List TokEnt) (b : List Byte) (o : Nat) : Option Nat :=
  let l := field b o 4
  let r := field b (o + 4) 4
  let x := field b (o + 8) 4
  let get := fun i => (nth ts i).getD ⟨0, 1, []⟩
  firstOffset [(bit (get l).flags 0, o), (bit (get r).flags 0, o + 4),
    ((get x).flags != 0 || (get x).bytes != (get l).bytes ++ (get r).bytes, o + 8)]

/-- Two merges have the same pair: the offset of the later. -/
def twinMerge (b : List Byte) : List (Nat × Nat) → List Nat → Option Nat
  | _, [] => none
  | seen, o :: r =>
    let k := (field b o 4, field b (o + 4) 4)
    if seen.contains k then some o else twinMerge b (k :: seen) r

/-- R313: the offset of the first failing field. -/
def vocabFault (b : List Byte) : Option Nat :=
  match firstOffset (vocabHeader b) with
  | some o => some o
  | none =>
    let ts := tokEnts b
    let ms := (List.range (field b 12 4)).map fun i => field b 32 4 + 12 * i
    (ts.findSome? (tokenFault b)).orElse fun _ =>
    (ts.zipIdx.findSome? fun (t, i) => tokenRule b t i).orElse fun _ =>
    (twinToken [] (ts.filter fun t => t.flags == 0)).orElse fun _ =>
    (ms.findSome? (mergeFault ts b)).orElse fun _ => twinMerge b [] ms

/-- VOCAB_COMMIT. -/
def vocabCommit (d : Dev) (h : CmdHdr) (n : Nat) (digest : List Byte) : Dev :=
  onChannel d h 0x0406 true fun d =>
    let v := vocab d n
    commitChecks d h 0x0406 v.img digest fun d b =>
      match vocabFault b with
      | some o => commitFail d h 0x0406 (stw stParam 0) o
      | none =>
        reply (setVocab d n
          { img := { v.img with st := 2, digest := digest }, logitFmt := field b 6 1, entries := field b 8 4,
            merges := field b 12 4, eos := field b 16 4, byteBase := field b 20 4, tokenOff := field b 24 4,
            poolOff := field b 28 4, mergeOff := field b 32 4 }) h 0x0406 stOk

def execVocabCommit (h : CmdHdr) (object : Nat) (digest : List Byte) (s : State) : Host.Outcome State Fault Refusal :=
  serve s fun d => vocabCommit d h object digest

/-- VOCAB_ASSIGN. -/
def vocabAssign (d : Dev) (h : CmdHdr) (m n : Nat) : Dev :=
  onChannel d h 0x0407 true fun d =>
    checked d h 0x0407 [(decide (31 < m) || (model d m).img.st != 2, stw stParam 6),
      (decide (7 < n) || (vocab d n).img.st != 2, stw stParam 7), (modelNamed d m, stw stRetry 0)] fun d =>
      reply (setModel d m { model d m with vocab := some n }) h 0x0407 stOk

def execVocabAssign (h : CmdHdr) (model slot : Nat) (s : State) : Host.Outcome State Fault Refusal :=
  serve s fun d => vocabAssign d h model slot

/-- VOCAB_UNLOAD: the models assigned to the slot lose their vocabulary. -/
def vocabUnload (d : Dev) (h : CmdHdr) (n : Nat) : Dev :=
  onChannel d h 0x0408 true fun d =>
    checked d h 0x0408 [(decide (7 < n), stw stParam 6),
      (d.mdl.slots.any fun q => q.2.vocab == some n && modelNamed d q.1, stw stRetry 0)] fun d =>
      let v := vocab d n
      if v.img.st = 0 then reply d h 0x0408 stOk
      else
        let d := freeFrames { d with tok.vocabs := tdel d.tok.vocabs n } v.img.frames
        reply { d with mdl.slots := tmap (fun x => if x.vocab = some n then { x with vocab := none } else x) d.mdl.slots }
          h 0x0408 stOk

def execVocabUnload (h : CmdHdr) (object : Nat) (s : State) : Host.Outcome State Fault Refusal :=
  serve s fun d => vocabUnload d h object

/-! ## Grammar images (R335, R336) -/

/-- Grammar images of a partition. -/
def gramCount (d : Dev) (p : Nat) : Nat := (d.tok.grams.filter fun q => q.1 / 65536 == p && q.2.img.st != 0).length

/-- R335: an id of a partition's own images. -/
def gramIdBad (id : Nat) : Bool := id == 0 || decide (65535 < id)

/-- GRAMMAR_LOAD. -/
def grammarLoad (d : Dev) (h : CmdHdr) (id length : Nat) : Dev :=
  onChannel d h 0x0409 false fun d =>
    checked d h 0x0409 [(gramIdBad id, stw stParam 6),
      (length % 64 != 0 || decide (length < 128) || decide (67108864 < length), stw stParam 7),
      ((gram d h.part id).img.st != 0, stw stRetry 0), (keysMissing d h.part, stw stRetry 0),
      (decide (1024 ≤ gramCount d h.part), stw stNoCap 0)] fun d =>
      match allocMany d h.part (ceilDiv length 65536) with
      | .error c => reply d h 0x0409 (stw c 0)
      | .ok (fs, d1) =>
        reply (setGram d1 h.part id { Gram.empty with img := { st := 1, length := length, frames := fs, digest := [] } })
          h 0x0409 stOk

def execGrammarLoad (h : CmdHdr) (object length : Nat) (s : State) : Host.Outcome State Fault Refusal :=
  serve s fun d => grammarLoad d h object length

def execGrammarData (h : CmdHdr) (object offset : Nat) (data : List Byte) (s : State) : Host.Outcome State Fault Refusal :=
  serve s fun d => onChannel d h 0x040A false fun d =>
    checked d h 0x040A (dataChecks (gram d h.part object).img offset data) fun d =>
      let g := gram d h.part object
      reply (setGram (imageWrite d g.img 3 offset data) h.part object g) h 0x040A stOk

/-- The vocabulary of a model granted to p whose digest the image names. -/
def gramVocab (d : Dev) (p : Nat) (digest : List Byte) : Option Vocab :=
  d.mdl.slots.findSome? fun q => match q.2.vocab with
    | some n => if q.2.mask.getLsbD p ∧ (vocab d n).img.st = 2 ∧ (vocab d n).img.digest = digest then some (vocab d n) else none
    | none => none

/-- The header and the places of the tables (R336), for a vocabulary of `n` entries. -/
def gramHeader (b : List Byte) (n : Option Nat) : List (Bool × Nat) :=
  let len := b.length
  [(field b 0 4 != 0x4D524747, 0), (field b 4 2 != 1, 4), (decide (1 < field b 6 1), 6), (decide (64 < field b 7 1), 7),
   (n.isNone, 8), (field b 40 4 == 0 || decide (262144 < field b 40 4), 40),
   (field b 44 4 == 0 || decide (65536 < field b 44 4), 44), (decide (field b 40 4 ≤ field b 48 4), 48),
   (decide (len < field b 52 4 + 2 * n.getD 0), 52), (decide (len < field b 56 4 + 8 * field b 40 4), 56),
   (decide (16777216 < field b 64 4), 64), (decide (len < field b 60 4 + 12 * field b 64 4), 60),
   (!allZero ((b.drop 68).take 60), 68)]

/-- The checks of one transition at offset o, after one of class `prev` of the same state. -/
def transFault (b : List Byte) (o : Nat) (prev : Option Nat) : Option Nat :=
  let c := field b o 2
  let a := field b (o + 2) 1
  let n := field b 40 4
  firstOffset [(decide (field b 44 4 ≤ c) || (match prev with
      | some q => decide (c ≤ q)
      | none => false), o),
    (decide (2 < a), o + 2), (field b (o + 3) 1 != 0, o + 3), (a != 2 && decide (n ≤ field b (o + 4) 4), o + 4),
    (a == 1 && decide (n ≤ field b (o + 8) 4), o + 8)]

/-- The transitions of a state from offset o. -/
def transRun (b : List Byte) : Nat → Nat → Option Nat → Option Nat
  | 0, _, _ => none
  | n + 1, o, prev => match transFault b o prev with
    | some x => some x
    | none => transRun b n (o + 12) (some (field b o 2))

/-- The checks of one state. -/
def stateFault (b : List Byte) (s : Nat) : Option Nat :=
  let o := field b 56 4 + 8 * s
  let n := field b (o + 4) 3
  match firstOffset [(decide (field b 64 4 < field b o 4 + n), o), (decide (1 < field b (o + 7) 1), o + 7)] with
  | some x => some x
  | none => transRun b n (field b 60 4 + 12 * field b o 4) none

/-- R336: the offset of the first failing field. -/
def gramFault (b : List Byte) (n : Option Nat) : Option Nat :=
  (firstOffset (gramHeader b n)).orElse fun _ => (List.range (field b 40 4)).findSome? (stateFault b)

/-- R336: a grammar with the header fields of its image. -/
def grammarOf (img : Image) (b : List Byte) : Gram :=
  { img := img, eosFallback := bit (field b 6 1) 0, stackMax := field b 7 1, vocabDigest := slice b 8 32,
    states := field b 40 4, classes := field b 44 4, start := field b 48 4, mapOff := field b 52 4,
    stateOff := field b 56 4, transOff := field b 60 4, transCount := field b 64 4 }

/-- GRAMMAR_COMMIT. -/
def grammarCommit (d : Dev) (h : CmdHdr) (id : Nat) (digest : List Byte) : Dev :=
  onChannel d h 0x040B false fun d =>
    let g := gram d h.part id
    commitChecks d h 0x040B g.img digest fun d b =>
      let vd := (b.drop 8).take 32
      match gramFault b ((gramVocab d h.part vd).map (·.entries)) with
      | some o => commitFail d h 0x040B (stw stParam 0) o
      | none =>
        reply (setGram d h.part id (grammarOf { g.img with st := 2, digest := digest } b)) h 0x040B stOk

def execGrammarCommit (h : CmdHdr) (object : Nat) (digest : List Byte) (s : State) : Host.Outcome State Fault Refusal :=
  serve s fun d => grammarCommit d h object digest

/-- A session of partition p names the image. -/
def gramNamed (d : Dev) (p id : Nat) : Bool :=
  d.sess.any fun q => q.2.st != .free && ownerOf d q.1 == p && q.2.ctrl.sampling.grammar == id

/-- GRAMMAR_DROP. -/
def grammarDrop (d : Dev) (h : CmdHdr) (id : Nat) : Dev :=
  onChannel d h 0x040C false fun d =>
    checked d h 0x040C [(gramIdBad id, stw stParam 6), (gramNamed d h.part id, stw stRetry 0)] fun d =>
      let g := gram d h.part id
      if g.img.st = 0 then reply d h 0x040C stOk
      else
        let d := setGram d h.part id g
        reply (freeFrames { d with tok.grams := tdel d.tok.grams (gramKey h.part id) } g.img.frames) h 0x040C stOk

def execGrammarDrop (h : CmdHdr) (object : Nat) (s : State) : Host.Outcome State Fault Refusal :=
  serve s fun d => grammarDrop d h object

end Sys2Proof.Machine
end

