-- ==== Sys2Proof/Machine/Capture.lean ====
section
/-!
DEFINITION. Sys2Proof/Machine/Capture.lean: a ring member's epochs: timers, cuts, captures and the acknowledgements of its
streams (R505 to R518, R522, R529, R538).
-/

namespace Sys2Proof.Machine

/-! ## Records (R87, R172, R208, R518) -/

/-- The code of a state (R88), and back. -/
def SessSt.ofCode (n : Nat) : SessSt := match n with
  | 1 => .active
  | 2 => .parked
  | 3 => .thawing
  | 4 => .awaitHost
  | 5 => .fenced
  | 6 => .degraded
  | _ => .free

/-- R87: the 64 bytes of a session table entry. -/
def sessBytes (d : Dev) (i : Nat) : List Byte :=
  let e := sess d i
  let dir := match residentFrame d e.dirSpn with
    | some f => frameBase f
    | none => 0
  let held := if e.st = .free then [] else allSpns e
  let frames := (dedup (held.filterMap (residentFrame d))).filter fun f => frameOwner d f == ownerOf d i
  leBytes 4 e.gen ++ leBytes 1 (SessSt.code e.st) ++ leBytes 1 (b01 e.quar + 2 * b01 e.clsD + 4 * b01 e.gate) ++
  leBytes 1 (SessSt.code e.prev) ++ leBytes 1 e.degReason ++ leBytes 1 e.model ++ leBytes 1 e.select ++
  leBytes 1 (SessSt.code e.degPrev) ++ leBytes 1 0 ++ leBytes 4 e.length ++ leBytes 8 dir ++ leBytes 4 e.adapter ++
  leBytes 4 e.ctrlSpn ++ leBytes 8 e.lastTick ++ leBytes 5 e.born ++ leBytes 3 0 ++ leBytes 4 held.length ++
  leBytes 4 frames.length ++ leBytes 4 e.adpVersion ++ leBytes 4 0

/-- R518: the rows of the first `n` positions of a dense page: key rows of each KV head, then value rows. -/
def rowsBody (ld : LayerDesc) (n : Nat) (page : List Byte) : List Byte :=
  if ld.kind = 1 then page.take (n * entrySize ld)
  else
    ((List.range ld.kvh).map fun h => slice page (keyOff ld h 0) (n * keyBytes ld)).flatten ++
    ((List.range ld.kvh).map fun h => slice page (valOff ld h 0) (n * (ld.vDim * elemBytes ld.elem))).flatten

/-- R172: the page that `n` rows from its first position make. -/
def pageOfRows (ld : LayerDesc) (n : Nat) (rows : List Byte) : List Byte :=
  if ld.kind = 1 then fillTo 65536 rows
  else
    let kb := keyBytes ld
    let vb := ld.vDim * elemBytes ld.elem
    let v0 := ld.kvh * n * kb
    fillTo 65536
      (((List.range ld.kvh).map fun h => fillTo (pagePos ld * kb) (slice rows (h * n * kb) (n * kb))).flatten ++
       ((List.range ld.kvh).map fun h => fillTo (pagePos ld * vb) (slice rows (v0 + h * n * vb) (n * vb))).flatten)

/-- R208: a summary entry with its SPN field zero. -/
def sumBytes (se : SumEnt) : List Byte := sumEntry 0 se

/-- The summary entry of page `spn` in those bytes. -/
def sumOfBytes (ld : LayerDesc) (spn : Nat) (l : List Byte) : SumEnt :=
  let e := keyDim ld
  { valid := bit (field l 0 1) 0, spn := spn, posCount := field l 8 4,
    heads := (List.range ld.kvh).map fun h =>
      let b := slice l (16 + h * (4 + 2 * e)) (4 + 2 * e)
      ⟨BitVec.ofNat 32 (field b 0 4), slice b 4 e, slice b (4 + e) e⟩ }

/-! ## The shard's coordinates and objects (R518) -/

/-- A coordinate of a session: layer, first position or state-stream page index, positions, page, summary entry. -/
structure Coord where
  layer : Nat
  first : Nat
  count : Nat
  spn : Nat
  sum : Option SumEnt
  deriving DecidableEq, Repr

/-- The coordinates of entry i: the control page, then layer by layer. -/
def coordsOf (d : Dev) (i : Nat) : List Coord :=
  let e := sess d i
  ⟨0xFFFF, 0, 0, e.ctrlSpn, none⟩ :: (e.layers.zipIdx.map fun (x, l) =>
    x.pages.zipIdx.map fun (p, k) =>
      if kindOf d e l = 2 then ⟨l, k, 0, p.spn, none⟩
      else ⟨l, p.first, pageEnd x k - p.first, p.spn, some p.sum⟩).flatten

/-- The sessions of the shard in entry order. -/
def liveEntries (d : Dev) : List Nat := (d.sess.filter fun q => q.2.st != .free && !q.2.doomed).map (·.1)

/-- Object classes of R517 (log 28): 0 store, 1 book slot, 2 grammar image, 3 adapter id. Each object of the shard: its
class, id, partition and frames. -/
def objectsOf (d : Dev) : List (Nat × Nat × Nat × List Nat) :=
  (d.rtv.stores.map fun q => (0, q.1, q.1 / 64, q.2.frames)) ++
  (d.snt.books.map fun q =>
    let p := q.1 / 8192
    [(1, 2 * q.1, if p < 256 then p else 0, q.2.s0.frames), (1, 2 * q.1 + 1, if p < 256 then p else 0, q.2.s1.frames)]).flatten ++
  (d.tok.grams.map fun q => (2, q.1, q.1 / 65536, q.2.img.frames)) ++
  (d.adp.ids.map fun q => (3, q.1, adapterOwner d q.1, []))

/-- The HANDLE of an OBJECT record (R517). -/
def objHandle (cls id : Nat) : Nat := cls * 2 ^ 56 + id

/-- The object items of a capture: each frame that the map holds, or every frame for a base. -/
def objectItems (d : Dev) (all : Bool) (keys : List Nat) : List CapItem :=
  (objectsOf d).flatMap fun (cls, id, p, fs) =>
    let rec0 : LahRec := LahRec.base 0x08 p (objHandle cls id)
    if cls = 3 then
      if all || keys.contains (2 ^ 33 + id) then [⟨none, some (2 ^ 33 + id), 0, rec0⟩] else []
    else (fs.zipIdx.filter fun f => all || keys.contains (2 ^ 32 + f.1)).map fun f =>
      ⟨none, some f.1, 0, { rec0 with first := f.2 }⟩

/-- The contents of an object's frame. -/
def objectBytes (d : Dev) (h first : Nat) (f : Nat) : List Byte :=
  let id := h % 2 ^ 32
  match h / 2 ^ 56 with
  | 0 => match tget d.rtv.stores id with
    | some x => storeBytes x first 0 65536
    | none => []
  | 1 => match tget d.snt.books (id / 2) with
    | some b => Config.bookFrame (if id % 2 = 0 then b.s0 else b.s1) first
    | none => []
  | 2 => readFrame d f 0 65536
  | _ => Config.adapterFrame (adpId d id)

/-! ## The work of a capture (R511, R518) -/

/-- Where a page's contents stand: a frame or a Tephra address. -/
def placeAt (d : Dev) (spn : Nat) : Option (Bool × Nat) := match pte d spn with
  | some p => match p.tier with
    | .never => none
    | .tephra => some (true, p.at')
    | _ => some (false, p.at')
  | none => none

/-- FORM and RTYPE of a page's record: a dense key-value page travels as rows. -/
def pageRec (d : Dev) (p h : Nat) (kv : Bool) (c : Coord) : LahRec :=
  let q := (pte d c.spn).getD ⟨.never, false, false, false, false, false, 0, 0, 0⟩
  { LahRec.base (if kv && !q.cmp then 0x03 else 0x02) p h with
    layer := c.layer, first := c.first, fmt := q.fmt, cmp := q.cmp, count := if kv && !q.cmp then c.count else 0 }

/-- The page items of one session: a SHARE where an earlier coordinate of the image stands on the same place, else the
page and its valid summary. The pairs (place, coordinate) known so far pass through. -/
def pageItems (d : Dev) (p h model : Nat) (mark : Nat → Bool) :
    List ((Bool × Nat) × (Nat × Nat × Nat)) → List Coord → List CapItem × List ((Bool × Nat) × (Nat × Nat × Nat))
  | known, [] => ([], known)
  | known, c :: r =>
    let pl := placeAt d c.spn
    let known' := match pl with
      | some x => known ++ [(x, (h, c.layer, c.first))]
      | none => known
    if mark c.spn then
      let src := pl.bind fun x => (known.find? fun k => k.1 == x).map (·.2)
      let it : CapItem := match src with
        | some (h0, l0, f0) => ⟨some c.spn, none, model,
            { LahRec.base 0x06 p h with
              layer := c.layer, first := c.first, body := leBytes 8 h0 ++ leBytes 2 l0 ++ leBytes 4 f0 ++ leBytes 2 0 }⟩
        | none => ⟨some c.spn, none, model, pageRec d p h c.sum.isSome c⟩
      let sm := match c.sum with
        | some se => if se.valid then
            [(⟨none, none, model, { LahRec.base 0x05 p h with layer := c.layer, first := c.first, body := sumBytes se }⟩ : CapItem)]
          else []
        | none => []
      let rest := pageItems d p h model mark known' r
      (it :: sm ++ rest.1, rest.2)
    else pageItems d p h model mark known' r

/-- Coordinates that stand and that this capture does not carry come first among the known ones. -/
def standing (d : Dev) (mark : Nat → Bool) : List ((Bool × Nat) × (Nat × Nat × Nat)) :=
  (liveEntries d).flatMap fun i => (coordsOf d i).filterMap fun c =>
    if mark c.spn then none else (placeAt d c.spn).map fun x => (x, (handleOf d i, c.layer, c.first))

/-- R511: the work of the capture that follows a cut: sessions destroyed since, then each session in entry order with
its entry, the coordinates that left it, and its pages; objects last. -/
def captureWork (d : Dev) (all : Bool) (pages objs : List Nat) : List CapItem :=
  let mark := fun n => all || pages.contains n
  let plain := fun (r : LahRec) => (⟨none, none, 0, r⟩ : CapItem)
  let gone := (dedup (d.lah.sent.map (·.1))).filter fun h => (live d h).isNone
  let bye := gone.map fun h => plain { LahRec.base 0x01 (hPart h) h with destroy := true, body := List.replicate 64 0 }
  let byS := (liveEntries d).foldl (fun (acc : List CapItem × List ((Bool × Nat) × (Nat × Nat × Nat))) i =>
    let h := handleOf d i
    let p := hPart h
    let cs := coordsOf d i
    let ent := if all || objs.contains i then [plain { LahRec.base 0x01 p h with body := sessBytes d i }] else []
    let left := d.lah.sent.filter fun q => q.1 == h && !(cs.any fun c => c.layer == q.2.1 && c.first == q.2.2)
    let drops := left.map fun q => plain { LahRec.base 0x07 p h with layer := q.2.1, first := q.2.2 }
    let pg := pageItems d p h (sess d i).model mark acc.2 cs
    (acc.1 ++ ent ++ drops ++ pg.1, pg.2)) ([], standing d mark)
  bye ++ byS.1 ++ objectItems d all objs

/-- The coordinates that the buddy knows once the capture is through. -/
def shardCoords (d : Dev) : List (Nat × Nat × Nat) :=
  (liveEntries d).flatMap fun i => (coordsOf d i).map fun c => (handleOf d i, c.layer, c.first)

/-! ## Reading what is captured (R511, R512) -/

/-- What a capture finds for a page. -/
inductive CapRead where
  | bytes (l : List Byte)
  | lost (c : Option CwAddr)
  | away (addr : Nat)
  deriving DecidableEq, Repr

/-- A Tephra copy can be read. -/
def copyReadable (d : Dev) (a : Nat) : Bool := match desc d a with
  | some x => x.st != .lost && (slot d (slotOf a)).st != 3
  | none => false

/-- R511: the reserve frame or held frame, the page's own frame, its Tephra copy, in that order. -/
def capRead (d : Dev) (spn : Nat) : CapRead :=
  let fromFrame := fun f => match (badCws d).find? fun c => c.frame == f with
    | some c => CapRead.lost (some c)
    | none => CapRead.bytes (readFrame d f 0 65536)
  let fromCopy := fun a => if copyReadable d a then CapRead.away a else CapRead.lost none
  match (d.lah.holds.find? fun h => h.spn == spn && !h.tephra), d.lah.holds.find? fun h => h.spn == spn && h.tephra with
  | some h, _ => fromFrame h.at'
  | none, some h => fromCopy h.at'
  | none, none => match residentFrame d spn with
    | some f => fromFrame f
    | none => match pte d spn with
      | some p => match p.tier with
        | .never => .bytes (List.replicate 65536 0)
        | .tephra => fromCopy p.at'
        | _ => match frame d p.at' with
          | some f => fromCopy f.twin
          | none => .lost none
      | none => .lost none

/-- R511, row 31: the page is captured: its mark and its holds go, and its P bit. -/
def captureFinish (d : Dev) (spn : Nat) : Dev :=
  let d := match pte d spn with
    | some p => if p.snap && uncaptured d spn then unmark d spn else d
    | none => d
  let hs := d.lah.holds.filter fun h => h.spn == spn
  let d := { d with lah.holds := d.lah.holds.filter fun h => h.spn != spn,
                    lah.pPages := d.lah.pPages.filter (· != spn) }
  hs.foldl (fun d h => if h.tephra then decDesc d h.at' else decFrame d h.at') d

/-- The body of a page's record. -/
def itemBody (d : Dev) (it : CapItem) (page : List Byte) : List Byte :=
  if it.recd.rtype = 0x03 then
    match (modelDesc d it.model).bind fun m => nth m.layers it.recd.layer with
    | some ld => rowsBody ld it.recd.count page
    | none => page
  else if it.recd.layer = 0xFFFF then
    match it.spn.bind (pte d) with
    | some p => if (sess d p.owner).ctrlAway then page else Config.ctrlBytes (sess d p.owner).ctrl
    | none => page
  else page

/-- The head of the work is done with. -/
def popWork (d : Dev) : Dev := { d with lah.work := d.lah.work.drop 1 }

/-- A page's record is sent, and the page is captured. -/
def emitPage (d : Dev) (it : CapItem) (spn : Nat) (page : List Byte) : Dev :=
  popWork (captureFinish (sendRec d false { it.recd with body := itemBody d it page }) spn)

/-- R512: the record of a page that cannot be read. -/
def emitLost (d : Dev) (it : CapItem) (spn : Nat) (c : Option CwAddr) : Dev :=
  let d := match c with
    | some c => noteUncorrectable d c
    | none => d
  popWork (captureFinish (sendRec d false { it.recd with lost := true }) spn)

/-- One item of the work; `none` when it waits for a read of a target (R529: the page is not thawed). -/
def captureItem (d : Dev) (it : CapItem) : Option Dev :=
  match it.spn, it.obj with
  | some spn, _ =>
    if it.recd.rtype = 0x06 then some (popWork (captureFinish (sendRec d false it.recd) spn))
    else match capRead d spn with
      | .bytes l => some (emitPage d it spn l)
      | .lost c => some (emitLost d it spn c)
      | .away _ => none
  | none, some f =>
    if it.recd.handle / 2 ^ 56 = 3 then
      some (popWork (sendRec d false { it.recd with body := objectBytes d it.recd.handle 0 0 }))
    else match (badCws d).find? fun c => c.frame == f with
      | some c => some (popWork (sendRec (noteUncorrectable d c) false { it.recd with lost := true }))
      | none => some (popWork (sendRec d false { it.recd with body := objectBytes d it.recd.handle it.recd.first f }))
  | none, none => some (popWork (sendRec d false it.recd))

/-- The TIER_READ that the head of the work waits for. -/
def captureRead (d : Dev) (it : CapItem) : Dev :=
  match it.spn with
  | some spn => match capRead d spn with
    | .away a =>
      if d.pg.xfers.any fun x => x.kind == .capture && x.spns == [spn] then d
      else issueRead d (match desc d a with
        | some x => x.own
        | none => 0) (mkXfer .capture 0 a [spn] 0)
    | _ => d
  | none => d

/-- R513: END, once everything uncaptured is captured. -/
def sendEnd (d : Dev) : Dev :=
  if d.lah.work.isEmpty && d.lah.endDue then
    sendRecAt { d with lah.endDue := false, lah.pObjs := [] } false d.lah.closing
      { LahRec.base 0x0A 0 0 with body := leBytes 8 d.lah.sinceCut }
  else d

/-- R511: the item waits for a slot of this tick: rows of a page in HBM for a BG slot of page-summary upkeep on its stack, in which a
Mudpot core forms them, everything else for an SVC slot of the engine that admits the partition. -/
def captureWaits (d : Dev) (it : CapItem) : Bool :=
  match (if it.recd.rtype = 0x03 then it.spn.bind (residentFrame d) else none) with
  | some f => !((bgSlotsNow d).any fun x => x.activity == 4 && onStack x (stackOf f))
  | none => !svcSlot d .snapshotEngine it.recd.part

/-- Up to n items of the work. -/
def captureSome (d : Dev) : Nat → Dev
  | 0 => d
  | n + 1 => match d.lah.work with
    | [] => d
    | it :: _ => if captureWaits d it then d else match captureItem d it with
      | some d1 => captureSome d1 n
      | none => captureRead d it

/-- CAPTURE (R511 to R513). -/
def capture (d : Dev) (n : Nat) : Dev := sendEnd (captureSome d n)

def execCapture (n : Nat) (s : State) : Host.Outcome State Fault Refusal := serve s fun d => capture d n

/-- The unit that a capture read arrives, or cannot be read. -/
def captureArrived (d : Dev) (x : Xfer) (data : Option (List Byte)) : Dev :=
  match d.lah.work with
  | it :: _ =>
    if it.spn.isSome && it.spn.toList == x.spns then
      match it.spn, data with
      | some spn, some l => sendEnd (emitPage d it spn l)
      | some spn, none => sendEnd (emitLost d it spn none)
      | none, _ => d
    else d
  | [] => d

/-! ## Timers and cuts (R505 to R508, R514, R529) -/

/-- R505: the device is a ring member that takes cuts. -/
def cutting (d : Dev) : Bool := d.lah.st == 1 || d.lah.st == 2 || d.lah.st == 3

/-- The timer of the next epoch: the leader's, or the one of a member that stamps no CUT. -/
def armEpoch (d : Dev) : Dev :=
  let d := dropTimer (dropTimer d .epoch 0) .epochOwn 0
  let t := lim d Addr.LAH_EPOCH_TICKS
  if d.lah.self = 0 then addTimer d .epoch (d.lah.lastCut + t - 1) 0 ((d.lah.epoch + 1) % 2 ^ 40)
  else addTimer d .epochOwn (d.lah.lastCut + t + 1023) 0 ((d.lah.epoch + 1) % 2 ^ 40)

/-- R506: a cut to epoch f, when f is later than the current epoch and than any cut that waits. -/
def proposeCut (d : Dev) (f : Nat) : Dev :=
  if f ≤ d.lah.epoch then d
  else match d.lah.cutTo with
    | some g => if g < f then { d with lah.cutTo := some f } else d
    | none => { d with lah.cutTo := some f, lah.cutWaits := false }

/-- EPOCH_TIMER. -/
def epochTimer (d : Dev) : Dev :=
  if cutting d && (expiredAt d .epoch 0).isSome then proposeCut (dropTimer d .epoch 0) (d.lah.epoch + 1) else d

def execEpochTimer (s : State) : Host.Outcome State Fault Refusal := serve s epochTimer

/-- EPOCH_OWN_TIMER. -/
def epochOwnTimer (d : Dev) : Dev :=
  if cutting d && (expiredAt d .epochOwn 0).isSome then proposeCut (dropTimer d .epochOwn 0) (d.lah.epoch + 1) else d

def execEpochOwnTimer (s : State) : Host.Outcome State Fault Refusal := serve s epochOwnTimer

/-- Partitions that hold state on this member. -/
def statePartitions (d : Dev) : List Nat :=
  dedup ((liveEntries d).map (ownerOf d) ++ (objectsOf d).map fun o => o.2.2.1)

/-- R514: a CUT_NOTICE to each of them, in flow group 0. -/
def cutNotices (d : Dev) : Dev :=
  (statePartitions d).foldl (fun d p =>
    sendHost d 0x0680 p 0 5 (noticeChan d p) 0 stOk (leBytes 5 d.lah.epoch ++ leBytes 11 0)) d

/-- The cut to epoch f (R507, R508): D becomes P, the CUT record goes out, and the work of the capture is known. -/
def takeCut (d : Dev) (f : Nat) : Dev :=
  let all := d.lah.baseDue
  let d := if all then { d with lah.sent := [] } else d
  let work := captureWork d all d.lah.dPages d.lah.dObjs
  let pages := work.filterMap (·.spn)
  let base := if all then some d.lah.epoch else d.lah.baseEpoch
  let d := { d with
    lah.closing := d.lah.epoch, lah.epoch := f, lah.cutTo := none, lah.cutWaits := false, lah.lastCut := d.tick,
    lah.pPages := pages, lah.pObjs := d.lah.dObjs, lah.dPages := [], lah.dObjs := [], lah.work := work,
    lah.sent := shardCoords d, lah.endDue := true, lah.baseEpoch := base, lah.baseDue := false }
  let d := sendRec d false { LahRec.base 0x09 0 0 with body := leBytes 8 f }
  cutNotices (armEpoch { d with lah.sinceCut := 0 })

/-- EPOCH_CUT. R507: not before END of the epoch before has been sent; a cut that waits is counted once. -/
def epochCut (d : Dev) : Dev :=
  match d.lah.cutTo with
  | some f =>
    if !cutting d then d
    else if !d.lah.work.isEmpty || d.lah.endDue then
      if d.lah.cutWaits then d else bump { d with lah.cutWaits := true } Addr.LAH_CUT_DEFER_CNT
    else takeCut d f
  | none => d

def execEpochCut (s : State) : Host.Outcome State Fault Refusal := serve s epochCut

/-! ## Resends, acknowledgements and silence (R513, R515, R516, R522, R524, R538) -/

/-- R522, R538. -/
def loseBuddy (d : Dev) : Dev :=
  if d.lah.buddyLost then d
  else alert { d with lah.buddyLost := true, lah.backTo := d.lah.st, lah.st := 3 } 4 (buddyAddr d) 0xFF

/-- R516: an expiry of a record's timer that precedes its acknowledgement. -/
def resend (d : Dev) (rel : Bool) (seq : Nat) : Dev :=
  match d.lah.unacked.find? fun u => u.rel == rel && u.seq == seq with
  | some u =>
    if (expiredAt d (resendKind rel) seq).isSome then
      let d := bump (dropTimer d (resendKind rel) seq) Addr.LAH_RESEND_CNT
      let d := { d with lah.unacked := d.lah.unacked.map fun q =>
        if q.rel = rel ∧ q.seq = seq then { q with expiries := q.expiries + 1 } else q }
      let d := sendLah d rel u.recd.part seq u.epoch (some u.recd)
      if rel && decide (lim d Addr.LAH_RESEND_MAX ≤ u.expiries + 1) && cutting d then loseBuddy d else d
    else d
  | none => d

/-- RELEASE_TIMER_EXPIRY. -/
def execReleaseTimerExpiry (recSeq : Nat) (s : State) : Host.Outcome State Fault Refusal :=
  serve s fun d => resend d true recSeq

/-- DELTA_TIMER_EXPIRY. -/
def execDeltaTimerExpiry (recSeq : Nat) (s : State) : Host.Outcome State Fault Refusal :=
  serve s fun d => resend d false recSeq

/-- LAHAR_KEEPALIVE (R516). -/
def laharKeepalive (d : Dev) : Dev :=
  if cutting d && decide (d.lah.lastSent + lim d Addr.LAH_SUSPECT_TICKS / 4 ≤ d.tick) then
    sendLah { d with lah.lastSent := d.tick } false 0 d.lah.dSeq d.lah.epoch none
  else d

def execLaharKeepalive (s : State) : Host.Outcome State Fault Refusal := serve s laharKeepalive

/-- PRED_SUSPECT (R524). -/
def predSuspectStep (d : Dev) : Dev :=
  if cutting d && !d.lah.fencedPred && !d.lah.predSuspect &&
      decide (d.lah.predTick + lim d Addr.LAH_SUSPECT_TICKS ≤ d.tick) then
    alert { d with lah.predSuspect := true } 5 (predAddr d) 0xFF
  else d

def execPredSuspect (s : State) : Host.Outcome State Fault Refusal := serve s predSuspectStep

/-- A buddy message on an UP port (R460, R455, R472), as the other messages' arrivals see it. -/
def lahHeader (m : LahMsg) : FabMsg :=
  { dest := 0, src := m.src, type := m.type, part := m.part, sub := m.sub, length := 0, tag := m.tag, status := 0,
    handle := 0, body := [] }

/-- R524: a message of the predecessor has been stamped. -/
def notePred (d : Dev) (src : Nat) : Dev :=
  if src = predAddr d then { d with lah.predTick := d.tick, lah.predSuspect := false } else d

/-- R472: a message that does not open, or that names a partition without a replication key. -/
def lahArrive (d : Dev) (p : Nat) (m : LahMsg) (type : Nat) (k : Dev → Dev) : Dev :=
  accept d p (lahHeader m) type 3 id fun d =>
    if !m.opens || (part d m.part).replKeys.isEmpty then
      errEvent (bump d Addr.FAB_GCM_FAIL_CNT) (portInput p) (stw stSignature 0) m.part p p
    else k d

/-- The tokens whose records the acknowledgement covers may be released from the next tick on (R520). -/
def ackTokens (d : Dev) (seqs : List Nat) : Dev :=
  if seqs.isEmpty then d
  else { d with sess := tmap (fun e => if e.ctrl.pend.isEmpty then e else { e with ctrl := { e.ctrl with
      pend := e.ctrl.pend.map fun t =>
        if t.acked = false ∧ t.recSeq ≠ 0 ∧ seqs.contains (t.recSeq - 1) then { t with acked := true, ackTick := d.tick } else t } }) d.sess }

/-- R538: an acknowledgement from the buddy ends UNPROTECTED. -/
def buddyBack (d : Dev) : Dev :=
  if d.lah.buddyLost then { d with lah.buddyLost := false, lah.st := if d.lah.st = 3 then d.lah.backTo else d.lah.st } else d

/-- R513, R529: the buddy has committed the epoch that an END closed. -/
def buddyCommitted (d : Dev) (e : Nat) : Dev :=
  let d := { d with lah.commit := max d.lah.commit e }
  if d.lah.baseEpoch = some e then { d with lah.baseEpoch := none, lah.st := if d.lah.st = 2 then 1 else d.lah.st } else d

/-- LAHAR_ACK (R515). -/
def laharAck (d : Dev) (p cycle : Nat) (m : LahMsg) : Dev :=
  lahArrive d p m 0x21 fun d =>
    let d := notePred (stampAt d (portInput p) 0x05 0 0 m.seq cycle) m.src
    if m.src ≠ buddyAddr d then d
    else
      let rel := m.sub == 1
      let done := d.lah.unacked.filter fun u => u.rel == rel && !precedes 32 m.seq u.seq
      let d := { d with lah.unacked := d.lah.unacked.filter fun u => !(u.rel == rel && !precedes 32 m.seq u.seq) }
      let d := done.foldl (fun d u => dropTimer d (resendKind rel) u.seq) d
      let d := buddyBack d
      if rel then ackTokens d (done.map (·.seq))
      else done.foldl (fun d u => if u.recd.rtype = 0x0A then buddyCommitted d u.epoch else d) d

def execLaharAck (port cycle : Nat) (m : LahMsg) (s : State) : Host.Outcome State Fault Refusal :=
  serve s fun d => laharAck d port cycle m

end Sys2Proof.Machine
end

