-- ==== Sys2Proof/Machine/Shadow.lean ====
section
/-!
DEFINITION. Sys2Proof/Machine/Shadow.lean: a buddy's side of the Lahar streams: the shadow of the predecessor, commits,
the emitted-token log (R513, R515, R519, R523), and RECOVERY_GROUP_SET and FAILOVER (R503, R504, R525, R529). The last
part installs sessions and objects from records (R526, R534).
-/

namespace Sys2Proof.Machine

/-! ## The shadow (R513, R519) -/

/-- What a record stands for in an image: a session's entry, a page, a summary entry or an object frame at a coordinate. -/
def coordKey (r : LahRec) : Nat × Nat × Nat × Nat :=
  (match r.rtype with
    | 0x01 => 1
    | 0x05 => 5
    | 0x08 => 8
    | _ => 2, r.handle, r.layer, r.first)

/-- A coordinate given its record and unit. -/
def putRec (l : List (LahRec × Option Nat)) (r : LahRec) (u : Option Nat) : List (LahRec × Option Nat) :=
  l.filter (fun q => coordKey q.1 != coordKey r) ++ [(r, u)]

/-- The units that the retained images, the ones under way and the checkpoint images name. -/
def namedUnits (d : Dev) : List Nat :=
  let of := fun (l : List (LahRec × Option Nat)) => l.filterMap (·.2)
  of d.lah.building ++ (d.lah.ended.flatMap fun e => of e.2.recs) ++ (d.lah.images.flatMap fun i => of i.recs) ++
  (d.lah.ckpt.flatMap (·.units)) ++ d.lah.jobs.flatMap fun j => of j.need

/-- R513: shadow units that nothing names are freed. -/
def sweepShadow (d : Dev) : Dev :=
  let keep := namedUnits d
  let gone := (d.pg.descs.filter fun q => bit d.lah.shadowSlots (slotOf q.1) && !keep.contains q.1 &&
    !(d.pg.xfers.any fun x => x.addr == q.1)).map (·.1)
  gone.foldl releaseUnit d

/-- A unit in SHADOW_SLOTS, charged to partition 0. -/
def takeShadow (d : Dev) : Option (Nat × Dev) :=
  ((List.range 16).findSome? fun n =>
    if bit d.lah.shadowSlots n then (freeUnit d n).map (addrOf n) else none).map
    fun a => (a, setDesc d a ⟨1, .incoming, false, 0, 0, 0⟩)

/-- The layer entry of a coordinate, where this controller holds the session's model. -/
def recLayer (d : Dev) (recs : List (LahRec × Option Nat)) (h l : Nat) : Option LayerDesc :=
  ((recs.find? fun q => q.1.rtype == 0x01 && q.1.handle == h).bind fun q => modelDesc d (field q.1.body 8 1)).bind
    fun m => nth m.layers l

/-- R519: the contents of the unit that a record makes. Rows become a page where the layer's geometry is known. -/
def unitPlain (d : Dev) (recs : List (LahRec × Option Nat)) (r : LahRec) : List Byte :=
  if r.rtype = 0x03 then match recLayer d recs r.handle r.layer with
    | some ld => pageOfRows ld r.count r.body
    | none => fillTo 65536 r.body
  else fillTo 65536 r.body

/-- The record that a unit's contents give back. -/
def recOfUnit (d : Dev) (recs : List (LahRec × Option Nat)) (r : LahRec) (plain : List Byte) : LahRec :=
  if r.rtype = 0x03 then match recLayer d recs r.handle r.layer with
    | some ld => { r with body := rowsBody ld r.count plain }
    | none => { r with body := plain }
  else { r with body := plain }

/-- A page or object record written into a new shadow unit; `none` when no unit or no tier key can be had. -/
def shadowWrite (d : Dev) (r : LahRec) : Option Dev :=
  let bare := { r with body := [] }
  if r.lost then some { d with lah.building := putRec d.lah.building bare none }
  else match sealKey d r.part, takeShadow d with
    | some key, some (a, d1) =>
      let d2 := issueWrite d1 r.part (formByte r.fmt r.cmp) key (unitPlain d d.lah.building r) (mkXfer .shadow 0 a [] 0)
      some { d2 with lah.building := putRec d2.lah.building bare (some a) }
    | _, _ => none

/-- R519: a record of the predecessor's delta stream applied; `epoch` is the number that its message carries. -/
def applyRec (d : Dev) (seq epoch : Nat) (r : LahRec) : Option Dev :=
  match r.rtype with
  | 0x01 =>
    if r.destroy then
      some { d with lah.building := d.lah.building.filter fun q => !(q.1.handle == r.handle && q.1.rtype != 0x08) }
    else some { d with lah.building := putRec d.lah.building r none }
  | 0x02 | 0x03 | 0x08 => shadowWrite d r
  | 0x05 => some { d with lah.building := putRec d.lah.building r none }
  | 0x06 =>
    let key := (2, field r.body 0 8, field r.body 8 2, field r.body 10 4)
    match d.lah.building.find? fun q => coordKey q.1 == key with
    | some (o, u) =>
      let o := { o with handle := r.handle, layer := r.layer, first := r.first, part := r.part }
      some { d with lah.building := putRec d.lah.building o u }
    | none => some d
  | 0x07 => some { d with lah.building := d.lah.building.filter fun q =>
      !(q.1.handle == r.handle && q.1.layer == r.layer && q.1.first == r.first && q.1.rtype != 0x08 && q.1.rtype != 0x01) }
  | 0x09 => some (proposeCut d (field r.body 0 5))
  | 0x0A => some { d with lah.ended := d.lah.ended ++ [(seq, ⟨epoch, d.lah.building⟩)] }
  | _ => some d

/-- R515: the early records that are now next are applied. -/
def drainEarly (d : Dev) : Nat → Dev
  | 0 => d
  | fuel + 1 => match d.lah.early.find? fun u => !u.rel && u.seq == d.lah.inSeq with
    | some u => match applyRec d u.seq u.epoch u.recd with
      | some d1 => drainEarly { d1 with lah.inSeq := (d.lah.inSeq + 1) % 2 ^ 32,
                                        lah.early := d1.lah.early.filter fun q => q != u } fuel
      | none => d
    | none => d

/-- The records of a message: each waits in the early ones until its turn; what has been applied is discarded. -/
def takeRecs (d : Dev) (rel : Bool) (next seq epoch : Nat) (rs : List LahRec) : Dev :=
  let us : List Unacked := rs.zipIdx.map fun (r, k) => ⟨(seq + k) % 2 ^ 32, rel, 0, r, epoch⟩
  let fresh := us.filter fun u => !precedes 32 u.seq next && !(d.lah.early.any fun q => q.rel == rel && q.seq == u.seq)
  { d with lah.early := d.lah.early ++ fresh }

/-- R513: the highest sequence that a LAHAR_ACK may cover: short of an END whose epoch is not committed. -/
def ackableSeq (d : Dev) : Nat := match d.lah.ended with
  | (q, _) :: _ => (q + 2 ^ 32 - 1) % 2 ^ 32
  | [] => (d.lah.inSeq + 2 ^ 32 - 1) % 2 ^ 32

/-- The newest epoch this buddy has committed. -/
def newestImage (d : Dev) : Nat := match d.lah.images with
  | i :: _ => i.epoch
  | [] => 0

/-- The LAHAR_ACK of the delta stream, once something is applied. -/
def ackDelta (d : Dev) : Dev :=
  if ackableSeq d = 2 ^ 32 - 1 then d else sendAck d false (ackableSeq d) (newestImage d)

/-! ## RELEASE_LOG (R523, R526, R528) -/

/-- A TOKEN record in the emitted-token log: handle, position, token, epoch. -/
def tokEntry (r : LahRec) : Nat × Nat × Nat × Nat := (r.handle, r.first, field r.body 0 4, field r.body 8 5)

/-- The release-log records that are next, in order. -/
def drainTokens (d : Dev) : Nat → Dev
  | 0 => d
  | fuel + 1 => match d.lah.early.find? fun u => u.rel && u.seq == d.lah.inRel with
    | some u => drainTokens { d with
        lah.inRel := (d.lah.inRel + 1) % 2 ^ 32, lah.early := d.lah.early.filter fun q => q != u,
        lah.tokLog := d.lah.tokLog ++ [tokEntry u.recd] } fuel
    | none => d

/-- R528: the tokens of the log with an epoch after E are forced on session h. -/
def forcedOf (d : Dev) (h e : Nat) : List (Nat × Nat) :=
  (d.lah.tokLog.filter fun t => t.1 == h && decide (e < t.2.2.2)).map fun t => (t.2.1, t.2.2.1)

/-- On a device that was filled by a TAKEOVER of epoch e, the log's tokens reach the sessions that stand. -/
def forceTokens (d : Dev) (e : Nat) : Dev :=
  (dedup (d.lah.tokLog.map (·.1))).foldl (fun d h => match live d h with
    | some i => modSess d i fun s => { s with ctrl := { s.ctrl with
        forced := s.ctrl.forced ++ (forcedOf d h e).filter fun f => !s.ctrl.forced.any fun g => g.1 == f.1 } }
    | none => d) d

/-- RELEASE_LOG: at a buddy the records join the emitted-token log and are acknowledged; at a spare under TAKEOVER they
are the log that the buddy passes on. -/
def releaseLog (d : Dev) (p cycle : Nat) (m : LahMsg) : Dev :=
  lahArrive d p m 0x22 fun d =>
    let d := notePred (stampAt d (portInput p) 0x06 0 m.part m.seq cycle) m.src
    let spare := d.lah.st == 4 || d.lah.st == 0
    if m.src = (if spare then buddyAddr d else predAddr d) then
      let d := takeRecs d true d.lah.inRel m.seq m.epoch m.recs
      let d := drainTokens d (d.lah.early.length + 1)
      if spare then (match d.lah.takeover with
        | some (_, e) => if d.lah.st = 0 then forceTokens d e else d
        | none => d)
      else if m.recs.isEmpty then d
      else sendAck d true ((d.lah.inRel + 2 ^ 32 - 1) % 2 ^ 32) (newestImage d)
    else d

def execReleaseLog (port cycle : Nat) (m : LahMsg) (s : State) : Host.Outcome State Fault Refusal :=
  serve s fun d => releaseLog d port cycle m

/-! ## EPOCH_COMMIT (R513, R523) -/

/-- EPOCH_COMMIT: the oldest ended epoch, once no shadow unit of its image awaits a TIER_ACK. -/
def epochCommit (d : Dev) (epoch : Nat) : Dev :=
  match d.lah.ended with
  | (q, i) :: rest =>
    let us := i.recs.filterMap (·.2)
    if i.epoch ≠ epoch ∨ (d.pg.xfers.any fun x => x.kind == .shadow && us.contains x.addr) then d
    else
      let d := { d with lah.ended := rest, lah.images := i :: d.lah.images.take 1,
                        lah.tokLog := d.lah.tokLog.filter fun t => decide (epoch < t.2.2.2) }
      let d := sweepShadow d
      sendAck d false (match rest with
        | [] => ackableSeq d
        | _ => q) epoch
  | [] => d

def execEpochCommit (epoch : Nat) (s : State) : Host.Outcome State Fault Refusal := serve s fun d => epochCommit d epoch

/-- A shadow unit that its target could not take: the image holds its coordinate as lost. -/
def shadowLost (d : Dev) (a : Nat) : Dev :=
  let f := fun (l : List (LahRec × Option Nat)) => l.map fun q =>
    if q.2 = some a then ({ q.1 with lost := true }, none) else q
  { d with lah.building := f d.lah.building,
           lah.ended := d.lah.ended.map fun e => (e.1, { e.2 with recs := f e.2.recs }),
           lah.images := d.lah.images.map fun i => { i with recs := f i.recs } }

/-! ## RECOVERY_GROUP_SET (R503, R504, R529, R538, R701) -/

/-- A route entry written or removed. -/
def setRoute (d : Dev) (n : Nat) (r : Option Route) : Dev :=
  { d with fab.routes := match r with
      | some r => tset d.fab.routes n r
      | none => tdel d.fab.routes n }

/-- The capture in progress is given up: a base follows it. -/
def dropCapture (d : Dev) : Dev :=
  let spns := dedup (d.lah.pPages ++ d.lah.holds.map (·.spn))
  let d := spns.foldl captureFinish d
  { d with lah.work := [], lah.endDue := false, lah.pPages := [], lah.pObjs := [], lah.sent := [] }

/-- R529: the streams to a new buddy start at 0 with a base; release-log records that no buddy has acknowledged go
out again, and the tokens that wait on them with their new numbers. -/
def startStreams (d : Dev) : Dev :=
  let d := dropCapture d
  let old := d.lah.unacked
  let d := old.foldl (fun d u => dropTimer d (resendKind u.rel) u.seq) d
  let toks := old.filter (·.rel)
  let d := { d with lah.unacked := [], lah.dSeq := 0, lah.rSeq := 0, lah.sinceCut := 0, lah.baseDue := true, lah.st := 2,
                    lah.buddyLost := false, lah.baseEpoch := none, lah.lastSent := d.tick }
  let num := fun (n : Nat) => (toks.findIdx? fun u => u.seq + 1 == n).map (· + 1)
  let d := { d with sess := tmap (fun e => if e.ctrl.pend.isEmpty then e else { e with ctrl := { e.ctrl with
    pend := e.ctrl.pend.map fun t => if t.acked then t else { t with recSeq := (num t.recSeq).getD t.recSeq } } }) d.sess }
  toks.foldl (fun d u => sendRecAt d true u.epoch u.recd) d

/-- The incoming streams and the shadow begin anew. -/
def startShadow (d : Dev) : Dev :=
  sweepShadow { d with lah.inSeq := 0, lah.inRel := 0, lah.early := [], lah.building := [], lah.images := [],
                       lah.ended := [], lah.tokLog := [], lah.fencedPred := false, lah.predSuspect := false,
                       lah.predTick := d.tick, lah.takeover := none }

/-- R504: the slots of a mask are bound and in no partition's SLOT_MASK. -/
def shadowSlotsOk (d : Dev) (mask : Nat) : Bool :=
  (List.range 16).all fun n => !bit mask n ||
    ((slot d n).st != 0 && !(d.parts.any fun q => bit q.2.cfg.slotMask n))

/-- RECOVERY_GROUP_SET. -/
def recoveryGroupSet (d : Dev) (h : CmdHdr) (ring n self slots pred buddy rel : Nat) : Dev :=
  onChannel d h 0x0601 true fun d =>
    checked d h 0x0601
      [(decide (n < 2) || decide (64 < n), stw stParam 7), (decide (n ≤ self), stw stParam 8),
       (!shadowSlotsOk d slots, stw stParam 9), (decide (2 ^ 24 ≤ pred), stw stParam 10),
       (decide (2 ^ 24 ≤ buddy), stw stParam 11), (rel == 0 || decide (1024 < rel), stw stParam 12),
       ((part d 0).tierKeys.isEmpty || (part d 0).replKeys.isEmpty || d.pwr.fumarole || d.lah.st == 4, stw stRetry 0)]
      fun d =>
        let alone := d.lah.st == 0
        let newBuddy := alone || buddyAddr d != buddy
        let newPred := alone || d.lah.fencedPred || predAddr d != pred || d.lah.shadowSlots != slots
        let d := setRoute (setRoute d 4080 (some ⟨pred, 3, 0xFF⟩)) 4081 (some ⟨buddy, 3, 0xFF⟩)
        let d := { d with lah.ringId := ring, lah.members := n, lah.self := self, lah.shadowSlots := slots,
                          lah.releaseTicks := rel, lah.lastCut := if alone then d.tick else d.lah.lastCut }
        let d := if newPred then startShadow d else d
        let d := if newBuddy then startStreams d else d
        reply (armEpoch d) h 0x0601 stOk

def execRecoveryGroupSet (h : CmdHdr) (ringId members self shadowSlots predAddr buddyAddr releaseTicks : Nat) (s : State) :
    Host.Outcome State Fault Refusal :=
  serve s fun d => recoveryGroupSet d h ringId members self shadowSlots predAddr buddyAddr releaseTicks

/-! ## FAILOVER (R525) -/

/-- The sessions of an image. -/
def imageSessions (recs : List (LahRec × Option Nat)) : Nat := (recs.filter fun q => q.1.rtype == 0x01).length

/-- FAILOVER. -/
def failover (d : Dev) (h : CmdHdr) : Dev :=
  onChannel d h 0x0602 true fun d =>
    if d.pwr.fumarole then reply d h 0x0602 (stw stRetry 0) else
    match d.lah.images with
    | [] => reply d h 0x0602 (stw stNoStep 0)
    | i :: _ =>
      let d := setRoute d 4080 none
      let d := sweepShadow { d with lah.fencedPred := true, lah.building := i.recs, lah.ended := [],
                                    lah.early := [], lah.predSuspect := false }
      replyBody d h 0x0602 stOk (leBytes 5 i.epoch ++ leBytes 3 0 ++ leBytes 4 (imageSessions i.recs) ++ leBytes 4 0)

def execFailover (h : CmdHdr) (s : State) : Host.Outcome State Fault Refusal := serve s fun d => failover d h

/-! ## Sessions and objects installed from records (R271, R526, R531, R534) -/

/-- The address that no target holds: a page that an image has lost. -/
def lostAddr : Nat := 2 ^ 40

/-- One more coordinate on the unit at a. -/
def refUnit (d : Dev) (a own : Nat) : Dev :=
  if a = lostAddr then d
  else match desc d a with
    | some x => if x.refcnt = 0 ∧ x.st = .incoming then modDesc d a fun x => { x with refcnt := 1 } else incDesc d a
    | none => setDesc d a ⟨1, .valid, false, 0, own, 0⟩

/-- A page of entry i that stands in Tephra on the unit at a. -/
def parkedPage (d : Dev) (i own a : Nat) (r : LahRec) (l : Bool) : Res (Nat × Dev) :=
  match allocSpn d i with
  | .error e => .error e
  | .ok (n, d1) =>
    let shared := (desc d a).isSome && decide (1 ≤ ((desc d a).map (·.refcnt)).getD 0)
    .ok (n, refUnit (setPte d1 n ⟨.tephra, r.cmp, false, shared, false, l, r.fmt, a, i⟩) a own)

/-- The page list of a layer. -/
def installLayer (d : Dev) (i own : Nat) (ld : LayerDesc) (sums : List LahRec) :
    List (LahRec × Option Nat) → Res (List PageEnt × Dev)
  | [] => .ok ([], d)
  | (r, u) :: rest => match parkedPage d i own (u.getD lostAddr) r true with
    | .error e => .error e
    | .ok (n, d1) => match installLayer d1 i own ld sums rest with
      | .error e => .error e
      | .ok (ps, d2) =>
        let se := match sums.find? fun s => s.layer == r.layer && s.first == r.first with
          | some s => sumOfBytes ld n s.body
          | none => SumEnt.none' n
        .ok (⟨n, if ld.kind = 2 then 0 else r.first, if ld.kind = 2 then SumEnt.none' n else se⟩ :: ps, d2)

/-- Every layer; what an image holds at or above LENGTH of a key-value layer is left out. -/
def installLayers (d : Dev) (i own len : Nat) (pages : List (LahRec × Option Nat)) (sums : List LahRec) :
    List (LayerDesc × Nat) → Res (List LayerSt × Dev)
  | [] => .ok ([], d)
  | (ld, l) :: r =>
    let mine := sortBy (fun a b : LahRec × Option Nat => decide (a.1.first ≤ b.1.first))
      (pages.filter fun q => q.1.layer == l && (ld.kind == 2 || decide (q.1.first < len)))
    match installLayer d i own ld sums mine with
    | .error e => .error e
    | .ok (ps, d1) => match installLayers d1 i own len pages sums r with
      | .error e => .error e
      | .ok (ls, d2) => .ok (⟨len, ps, []⟩ :: ls, d2)

/-- The directory, the control page on its unit, and the further list pages. -/
def installMeta (d : Dev) (i own : Nat) (ctl : Option (LahRec × Option Nat)) : Res Dev :=
  match newPage d i own fun d n => modSess d i fun e => { e with dirSpn := n } with
  | .error e => .error e
  | .ok d1 =>
    let c := ctl.getD (LahRec.base 0x02 own 0, none)
    match parkedPage d1 i own (c.2.getD lostAddr) c.1 false with
    | .error e => .error e
    | .ok (n, d2) =>
      let d2 := modSess d2 i fun e => { e with ctrlSpn := n, ctrlAway := true }
      (List.range (metaNeeded (sess d2 i))).foldl (fun acc _ => match acc with
        | .error e => .error e
        | .ok d => newPage d i own fun d n => modSess d i fun e => { e with metaSpns := e.metaSpns ++ [n] }) (.ok d2)

/-- A session's records installed in entry i with generation `gen`: PARKED, or DEGRADED under R531. `bad`: some page of
it cannot be read. -/
def installSession (d : Dev) (i gen : Nat) (sr : LahRec) (pages : List (LahRec × Option Nat)) (sums : List LahRec)
    (taken : Bool) : Res Dev :=
  let b := sr.body
  let own := sr.part
  let model := field b 8 1
  let fl := field b 5 1
  let len := field b 12 4
  let ls := match modelDesc d model with
    | some m => m.layers
    | none => []
  let bad := ls.isEmpty || pages.any fun q => q.2.isNone
  let was := SessSt.ofCode (field b 4 1)
  let reason :=
    if bad then stTierLost
    else if was = .degraded ∧ field b 7 1 ≠ stDegraded then field b 7 1
    else if taken && !bit fl 2 then stRolledBack else 0
  let st : SessSt := if reason = 0 then .parked else .degraded
  let fenc := fenced d own
  let e : SessEnt :=
    { SessEnt.free gen with
      st := if fenc then .fenced else st, prev := if fenc then st else .free, clsD := bit fl 1, gate := gated d own,
      degReason := reason, degPrev := if reason = 0 then .free else .parked, model := model, select := field b 9 1,
      length := len, adapter := field b 24 4, adpVersion := field b 56 4, lastTick := d.tick, born := field b 40 5,
      ctrl := Ctrl.initial 0 (noticeChan d own) }
  match installLayers (setSess d i { e with layers := ls.map fun _ => ⟨0, [], []⟩ }) i own len
      (pages.filter fun q => q.1.layer != 0xFFFF) sums ls.zipIdx with
  | .error c => .error c
  | .ok (lay, d1) => match installMeta (modSess d1 i fun e => { e with layers := lay }) i own
      (pages.find? fun q => q.1.layer == 0xFFFF) with
    | .error c => .error c
    | .ok d2 => match forkSummaries d2 i own with
      | .error c => .error c
      | .ok d3 => .ok (holdVersion d3 (field b 24 4) (field b 56 4))

/-- n frames for an object of partition p. -/
def objectFrames (d : Dev) (p : Nat) : Nat → Res (List Nat × Dev)
  | 0 => .ok ([], d)
  | n + 1 => match allocFrame d p false 0 with
    | .error e => .error e
    | .ok (f, d1) => match objectFrames d1 p n with
      | .error e => .error e
      | .ok (fs, d2) => .ok (f :: fs, d2)

/-- R526, R534: an object from its frames' contents; one that cannot be read or placed is left out. -/
def installObject (d : Dev) (p h : Nat) (bodies : List (List Byte)) : Dev :=
  let id := h % 2 ^ 32
  match h / 2 ^ 56 with
  | 3 => match (bodies.head?).bind Config.adapterOf with
    | some x => setAdp d id x
    | none => d
  | cls => match objectFrames d p bodies.length with
    | .error _ => d
    | .ok (fs, d1) =>
      match cls with
      | 0 => match Config.storeOf bodies with
        | some x => setStore d1 id { x with frames := fs }
        | none => d
      | 1 => match Config.bookOf bodies with
        | some x =>
          let b := bookAt d1 (id / 2)
          let x := { x with frames := fs }
          let b := if id % 2 = 0 then { b with s0 := x } else { b with s1 := x }
          { d1 with snt.books := tset d1.snt.books (id / 2) b }
        | none => d
      | _ =>
        let d2 := (fs.zip bodies).foldl (fun d q => writeFrame d q.1 0 q.2) d1
        let n := Config.imageLength bodies
        let b := bodies.flatten
        setGram d2 (id / 65536) (id % 65536) (grammarOf { st := 2, length := n, frames := fs, digest := sha256 (b.take n) } b)

/-- The objects of a list of records: each with all its frames in order. -/
def installObjects (d : Dev) (recs : List LahRec) : Dev :=
  let os := recs.filter fun r => r.rtype == 0x08
  (dedup (os.map fun r => (r.handle, r.part))).foldl (fun d (h, p) =>
    let mine := sortBy (fun a b : LahRec => decide (a.first ≤ b.first)) (os.filter fun r => r.handle == h)
    if mine.any (·.lost) then d else installObject d p h (mine.map (·.body))) d

end Sys2Proof.Machine
end

