-- ==== Sys2Proof/Machine/Recovery.lean ====
section
/-!
DEFINITION. Sys2Proof/Machine/Recovery.lean: LAHAR_DELTA at a buddy and at a spare, TAKEOVER, CHECKPOINT_WRITE and
CHECKPOINT_RESTORE (R515, R519, R526 to R528, R531 to R536).
-/

namespace Sys2Proof.Machine

/-! ## TAKEOVER (R526 to R528, R538) -/

/-- A spare: it belongs to no ring and holds no sessions (R502). -/
def isSpare (d : Dev) : Bool := d.lah.st == 0 && (liveEntries d).isEmpty

/-- TAKEOVER. How its request reaches the buddy stands in no file of the spec (log 29). -/
def takeover (d : Dev) (h : CmdHdr) (buddy ring epoch self : Nat) : Dev :=
  onChannel d h 0x0603 true fun d =>
    checked d h 0x0603 [(decide (2 ^ 24 ≤ buddy), stw stParam 6), (!isSpare d || d.pwr.fumarole, stw stRetry 0)] fun d =>
      let d := setRoute d 4081 (some ⟨buddy, 3, 0xFF⟩)
      { d with lah.st := 4, lah.ringId := ring, lah.self := self, lah.inSeq := 0, lah.inRel := 0, lah.early := [],
               lah.building := [], lah.ended := [], lah.tokLog := [], lah.takeover := some (h, epoch) }

def execTakeover (h : CmdHdr) (buddyAddr ringId epoch self : Nat) (s : State) : Host.Outcome State Fault Refusal :=
  serve s fun d => takeover d h buddyAddr ringId epoch self

/-- A record of the image that the buddy sends to a spare. -/
def takeRecord (d : Dev) (r : LahRec) : Dev :=
  match r.rtype with
  | 0x01 | 0x05 | 0x08 => { d with lah.building := putRec d.lah.building r none }
  | 0x04 => { d with lah.building := putRec d.lah.building { r with body := [] } (some (field r.body 0 5)) }
  | 0x06 =>
    let key := (2, field r.body 0 8, field r.body 8 2, field r.body 10 4)
    match d.lah.building.find? fun q => coordKey q.1 == key with
    | some (o, u) =>
      let o := { o with handle := r.handle, layer := r.layer, first := r.first, part := r.part }
      { d with lah.building := putRec d.lah.building o u }
    | none => d
  | _ => d

/-- One session of the image at its own handle; one that cannot be placed is left out. -/
def takeSession (d : Dev) (recs : List (LahRec × Option Nat)) (sr : LahRec) : Dev :=
  let c := (part d (hPart sr.handle)).cfg
  let i := c.sessBase + hLocal sr.handle
  let mine := recs.filter fun q => q.1.handle == sr.handle
  if c.sessCount ≤ hLocal sr.handle then d
  else match installSession d i (hGen sr.handle) sr (mine.filter fun q => (coordKey q.1).1 == 2)
      ((mine.filter fun q => q.1.rtype == 0x05).map (·.1)) true with
    | .ok d1 => match thawPage d1 i (hPart sr.handle) (sess d1 i).ctrlSpn with
      | .ok d2 => d2
      | .error _ => d1
    | .error _ => d

/-- The image is through: sessions, objects, forced tokens, the notices and the reply. -/
def endTakeover (d : Dev) : Dev :=
  match d.lah.takeover with
  | some (h, e) =>
    let recs := d.lah.building
    let srs := (recs.filter fun q => q.1.rtype == 0x01).map (·.1)
    let d := srs.foldl (fun d r => takeSession d recs r) d
    let d := installObjects d (recs.map (·.1))
    let d := forceTokens d e
    let d := { d with lah.st := 0, lah.building := [] }
    let ps := dedup (recs.map fun q => q.1.part)
    let d := ps.foldl (fun d p =>
      sendHost d 0x0681 p 0 5 (noticeChan d p) 0 (stw stRolledBack 0) (leBytes 5 e ++ leBytes 11 0)) d
    replyBody d h 0x0603 stOk (leBytes 4 srs.length ++ leBytes 12 0)
  | none => d

/-- The image's records that are next, in order. -/
def drainImage (d : Dev) : Nat → Dev
  | 0 => d
  | fuel + 1 => match d.lah.early.find? fun u => !u.rel && u.seq == d.lah.inSeq with
    | some u =>
      let d := { d with lah.inSeq := (d.lah.inSeq + 1) % 2 ^ 32, lah.early := d.lah.early.filter fun q => q != u }
      if u.recd.rtype = 0x0A then endTakeover d else drainImage (takeRecord d u.recd) fuel
    | none => d

/-- LAHAR_DELTA: a buddy applies its predecessor's records and acknowledges them; a spare under TAKEOVER takes the image
from its buddy. -/
def laharDelta (d : Dev) (p cycle : Nat) (m : LahMsg) : Dev :=
  lahArrive d p m 0x20 fun d =>
    let d := notePred (stampAt d (portInput p) 0x06 0 m.part m.seq cycle) m.src
    if d.lah.st = 4 then
      if m.src = buddyAddr d then
        let d := takeRecs d false d.lah.inSeq m.seq m.epoch m.recs
        let d := drainImage d (d.lah.early.length + 1)
        sendDelta d
      else d
    else if d.lah.st ≠ 0 ∧ m.src = predAddr d then
      let d := takeRecs d false d.lah.inSeq m.seq m.epoch m.recs
      let d := drainEarly d (d.lah.early.length + 1)
      if m.recs.isEmpty then d else ackDelta d
    else d
where
  /-- The image's records are acknowledged to the buddy that sends them. -/
  sendDelta (d : Dev) : Dev :=
    if d.lah.inSeq = 0 then d
    else match (part d 0).replKeys.head? with
      | none => d
      | some k =>
        let (t, d) := newTag d
        let (b, d) := lahBody d (buddyAddr d) 0x21 0 0 (d.lah.inSeq - 1) 0 d.lah.epoch t k.2 []
        sendDirect d (fabMsg 0x21 0 1 (8 * subOf d 0 0 + 1) (buddyAddr d) 0 t 0 0 b 0)

def execLaharDelta (port cycle : Nat) (m : LahMsg) (s : State) : Host.Outcome State Fault Refusal :=
  serve s fun d => laharDelta d port cycle m

/-! ## CHECKPOINT_WRITE (R532, R533) -/

/-- The image's records with a SHARE where an earlier coordinate stands on the same unit (R532). -/
def shareRepeats : List (LahRec × Option Nat) → List (LahRec × Option Nat) → List (LahRec × Option Nat)
  | _, [] => []
  | seen, (r, u) :: rest =>
    match u with
    | some a => match seen.find? fun q => q.2 == some a with
      | some (o, _) =>
        ({ LahRec.base 0x06 r.part r.handle with
            layer := r.layer, first := r.first,
            body := leBytes 8 o.handle ++ leBytes 2 o.layer ++ leBytes 4 o.first ++ leBytes 2 0 }, none) ::
          shareRepeats seen rest
      | none => (r, u) :: shareRepeats (seen ++ [(r, u)]) rest
    | none => (r, u) :: shareRepeats seen rest

/-- One partition's record stream, ending with END. -/
def ckptStream (recs : List LahRec) (p : Nat) : List LahRec :=
  let mine := recs.filter fun r => r.part == p
  mine ++ [{ LahRec.base 0x0A p 0 with body := leBytes 8 mine.length }]

/-- A unit of slot n, charged to partition p. -/
def takeIn (d : Dev) (n p : Nat) : Option (Nat × Dev) :=
  (freeUnit d n).map fun u => (addrOf n u, setDesc d (addrOf n u) ⟨1, .incoming, false, 0, p, 0⟩)

/-- The pieces of a stream written to units of the image slot, in order; the addresses taken. -/
def ckptUnits (d : Dev) (n p cmd : Nat) (key : Nat × List Byte) : List (List Byte) → Option (List Nat × Dev)
  | [] => some ([], d)
  | b :: r => match takeIn d n p with
    | none => none
    | some (a, d1) => match ckptUnits (issueWrite d1 p 0 key (fillTo 65536 b) (mkXfer .image 0 a [] cmd)) n p cmd key r with
      | none => none
      | some (as, d2) => some (a :: as, d2)

/-- R533: every partition's stream; each gives an entry of the header unit. -/
def ckptStreams (d : Dev) (n cmd : Nat) (recs : List LahRec) : List Nat → Option (List Nat × List Byte × Dev)
  | [] => some ([], [], d)
  | p :: r => match sealKey d p with
    | none => none
    | some key =>
      let st := ckptStream recs p
      let l := (st.map recBytes).flatten
      match ckptUnits d n p cmd key (chunks 65536 (l.length + 1) l) with
      | none => none
      | some (as, d1) => match ckptStreams d1 n cmd recs r with
        | none => none
        | some (bs, ents, d2) =>
          some (as ++ bs, leBytes 1 p ++ leBytes 3 0 ++ leBytes 4 (unitOf (as.headD 0)) ++ leBytes 4 as.length ++
            leBytes 4 st.length ++ ents, d2)

/-- R532: an image slot keeps two images of each shard: the older of two gives way. -/
def dropOldImage (d : Dev) (sl shard : Nat) : Dev :=
  let mine := sortBy (fun a b : CkptImg => decide (a.epoch ≤ b.epoch))
    (d.lah.ckpt.filter fun c => c.slot == sl && c.shard == shard)
  match mine with
  | old :: _ :: _ => old.units.foldl releaseUnit { d with lah.ckpt := d.lah.ckpt.filter fun c => c != old }
  | _ => d

/-- The job is answered. -/
def endJob' (d : Dev) (j : CkptJob) : Dev :=
  let d := { d with lah.jobs := d.lah.jobs.filter fun q => q.cmd != j.cmd }
  let d := match j.img with
    | some i => { d with lah.ckpt := d.lah.ckpt ++ [i] }
    | none => d
  replyEntries d j.cmd j.op j.status (j.body.take 16) 24 (j.body.drop 16)

/-- The contents of every unit are there: the header unit and the streams are written. -/
def ckptEmit (d : Dev) (j : CkptJob) (i : CkptImg) : Dev :=
  let recs := j.need.map (·.1)
  let ps := sortBy (fun a b => decide (a ≤ b)) (dedup (recs.map (·.part)))
  let fail := fun (d : Dev) c => reply { d with lah.jobs := d.lah.jobs.filter fun q => q.cmd != j.cmd } j.cmd j.op c
  let d0 := dropOldImage d i.slot i.shard
  match takeIn d0 i.slot 0, sealKey d0 0 with
  | some (a, d1), some key => match ckptStreams d1 i.slot j.cmd.seq recs ps with
    | none => fail d (stw stNoCap 0)
    | some (as, ents, d2) =>
      let hd := leBytes 4 0x54484C4B ++ leBytes 4 i.ringId ++ leBytes 2 i.members ++ leBytes 2 i.shard ++
        leBytes 5 i.epoch ++ leBytes 3 0 ++ leBytes 2 ps.length ++ leBytes 6 0 ++ ents
      let d3 := issueWrite d2 0 0 key (fillTo 65536 hd) (mkXfer .image 0 a [] j.cmd.seq)
      let j' := { j with need := [], img := some { i with recs := recs, units := a :: as },
                         body := leBytes 5 i.epoch ++ leBytes 3 0 ++ leBytes 4 (as.length + 1) ++ leBytes 4 0 }
      { d3 with lah.jobs := d3.lah.jobs.map fun q => if q.cmd = j.cmd then j' else q }
  | _, _ => fail d (stw stNoCap 0)

/-- CHECKPOINT_WRITE; an EPOCH of all ones names the newest retained one (R557). -/
def checkpointWrite (d : Dev) (h : CmdHdr) (epoch sl : Nat) : Dev :=
  onChannel d h 0x0604 true fun d =>
    if d.pwr.fumarole then reply d h 0x0604 (stw stRetry 0) else
    let epoch := if epoch = 2 ^ 40 - 1 then newestImage d else epoch
    match d.lah.images.find? fun i => i.epoch == epoch with
    | none => reply d h 0x0604 (stw stParam 6)
    | some im =>
      if 16 ≤ sl ∨ (slot d sl).st = 0 then reply d h 0x0604 (stw stParam 7)
      else
        let i : CkptImg := ⟨sl, (slot d sl).addr, (d.lah.self + d.lah.members - 1) % d.lah.members, d.lah.ringId, d.lah.members, epoch, true, [], []⟩
        let need := shareRepeats [] im.recs
        let j : CkptJob := ⟨h, 0x0604, stOk, [], some i, need⟩
        let d := { d with lah.jobs := d.lah.jobs ++ [j] }
        let us := need.filterMap (·.2)
        if us.isEmpty then ckptEmit d j i
        else us.foldl (fun d a => issueRead d 0 (mkXfer .imageRead 0 a [] h.seq)) d

def execCheckpointWrite (h : CmdHdr) (epoch imageSlot : Nat) (s : State) : Host.Outcome State Fault Refusal :=
  serve s fun d => checkpointWrite d h epoch imageSlot

/-- A unit that a checkpoint reads has arrived, or cannot be read. -/
def imageArrived (d : Dev) (x : Xfer) (data : Option (List Byte)) : Dev :=
  match d.lah.jobs.find? fun j => j.cmd.seq == x.cmd with
  | none => d
  | some j =>
    let all := match j.img with
      | some i => match d.lah.images.find? fun m => m.epoch == i.epoch with
        | some m => m.recs
        | none => j.need
      | none => j.need
    let need := j.need.map fun q =>
      if q.2 = some x.addr then
        (match data with
          | some l => recOfUnit d all q.1 l
          | none => { q.1 with lost := true }, none)
      else q
    let j := { j with need := need }
    let d := { d with lah.jobs := d.lah.jobs.map fun q => if q.cmd = j.cmd then j else q }
    match j.img with
    | some i => if need.all fun q => q.2.isNone then ckptEmit d j i else d
    | none => d

/-- A job is answered once no transfer of it is outstanding. -/
def settleJobs (d : Dev) : Dev :=
  d.lah.jobs.foldl (fun d j =>
    if d.pg.xfers.any fun x => x.cmd == j.cmd.seq && (x.kind == .image || x.kind == .imageRead) then d else endJob' d j) d

/-! ## CHECKPOINT_RESTORE (R534, R535, R271) -/

/-- The complete images of ring `ring` of n members in a slot: those that this controller wrote to the target, and what others have
written there (log 41). -/
def imagesOf (d : Dev) (sl ring n : Nat) : List CkptImg :=
  (d.lah.ckpt.filter fun c => c.slot == sl && c.dest == (slot d sl).addr && c.ringId == ring && c.members == n && c.complete) ++
  (Config.foreignImages d.freeCnt sl ring n).map fun q => ⟨sl, (slot d sl).addr, q.1, ring, n, q.2.1, true, q.2.2, []⟩

/-- R535: the epochs for which every shard is complete. -/
def wholeEpochs (is : List CkptImg) (n : Nat) : List Nat :=
  (dedup (is.map (·.epoch))).filter fun e => (List.range n).all fun k => is.any fun c => c.shard == k && c.epoch == e

/-- The coordinate of the page that a SHARE record names (R518). -/
def shareKey (r : LahRec) : Nat × Nat × Nat × Nat := (2, field r.body 0 8, field r.body 8 2, field r.body 10 4)

/-- The pages of a shard's records written into own parked units of their partitions: the coordinates with their units. -/
def restoreUnits (cmd : Nat) (recs : List LahRec) :
    Dev → List LahRec → Res (List ((Nat × Nat × Nat × Nat) × Nat) × Dev)
  | d, [] => .ok ([], d)
  | d, r :: rest =>
    if (coordKey r).1 ≠ 2 ∨ r.rtype = 0x06 ∨ r.rtype = 0x0A ∨ r.lost then restoreUnits cmd recs d rest
    else match sealKey d r.part, takeUnit d r.part r.part with
      | some key, some (a, d1) =>
        if unitRoom d r.part = 0 then .error (if (part d r.part).cfg.capMode = 1 then stReserve else stNoCap) else
        let plain := unitPlain d1 (recs.map fun q => (q, none)) r
        let d1 := modDesc d1 a fun x => { x with book := if r.cmp then codedBook plain else 0 }
        match restoreUnits cmd recs (issueWrite d1 r.part (formByte r.fmt r.cmp) key plain (mkXfer .image 0 a [] cmd)) rest with
        | .error e => .error e
        | .ok (us, d2) => .ok ((coordKey r, a) :: us, d2)
      | _, _ => .error stNoCap

/-- A page's record with its unit; a SHARE stands on its source's, in its source's form. -/
def restoredPage (recs : List LahRec) (us : List ((Nat × Nat × Nat × Nat) × Nat)) (r : LahRec) : LahRec × Option Nat :=
  let unitAt := fun k => (us.find? fun q => q.1 == k).map (·.2)
  if r.rtype = 0x06 then
    let src := recs.find? fun q => coordKey q == shareKey r
    ({ r with body := [], fmt := (src.map (·.fmt)).getD 0, cmp := (src.map (·.cmp)).getD false,
              count := (src.map (·.count)).getD 0 }, unitAt (shareKey r))
  else ({ r with body := [] }, unitAt (coordKey r))

/-- Every session of a shard; the pairs (old handle, new handle). -/
def restoreSessions (recs : List LahRec) (us : List ((Nat × Nat × Nat × Nat) × Nat)) :
    Dev → List LahRec → Res (List (Nat × Nat) × Dev)
  | d, [] => .ok ([], d)
  | d, sr :: rest =>
    match freeEntryOf d sr.part with
    | none => .error stNoCap
    | some i =>
      let mine := recs.filter fun r => r.handle == sr.handle
      let pages := (mine.filter fun r => (coordKey r).1 == 2 && r.rtype != 0x0A).map (restoredPage recs us)
      match installSession d i (sess d i).gen sr pages (mine.filter fun r => r.rtype == 0x05) false with
      | .error e => .error e
      | .ok d2 => match restoreSessions recs us d2 rest with
        | .error e => .error e
        | .ok (l, d3) => .ok ((sr.handle, handleOf d2 i) :: l, d3)

/-- One shard: its pages, then its sessions. -/
def restoreShard (d : Dev) (cmd : Nat) (recs : List LahRec) : Res (List (Nat × Nat) × Dev) :=
  match restoreUnits cmd recs d recs with
  | .error e => .error e
  | .ok (us, d1) => restoreSessions recs us d1 (recs.filter fun q => q.rtype == 0x01)

/-- Every shard assigned to this controller; the reply's entries. -/
def restoreShards (d : Dev) (cmd : Nat) : List CkptImg → Res (List Byte × Dev)
  | [] => .ok ([], d)
  | c :: r => match restoreShard d cmd c.recs with
    | .error e => .error e
    | .ok (ps, d1) => match restoreShards (installObjects d1 c.recs) cmd r with
      | .error e => .error e
      | .ok (l, d2) =>
        .ok ((ps.map fun q => leBytes 8 q.1 ++ leBytes 8 q.2 ++ leBytes 1 c.shard ++ leBytes 7 0).flatten ++ l, d2)

/-- R535: restore from the images of the slot: the newest epoch for which those of all n shards are complete; R22. -/
def restoreFrom (d : Dev) (h : CmdHdr) (is : List CkptImg) (n m j : Nat) : Dev :=
  match (wholeEpochs is n).foldl (fun acc e => match acc with
      | none => some e
      | some x => some (max x e)) none with
  | none => reply d h 0x0605 (stw stNoStep 0)
  | some e =>
    let mine := is.filter fun c => c.epoch == e && c.shard % m == j
    if mine.any fun c => c.recs.any fun r => r.rtype == 0x01 && gatedAlone d r.part then reply d h 0x0605 (stw stRetry 0)
    else match restoreShards d h.seq mine with
      | .error c => reply d h 0x0605 (stw c 0)
      | .ok (ents, d1) =>
        let st := if 1 < (dedup (is.map (·.epoch))).length then stw stOk stMixed else stOk
        let body := leBytes 5 e ++ leBytes 3 0 ++ leBytes 4 (ents.length / 24) ++ leBytes 4 0 ++ ents
        settleJobs { d1 with lah.jobs := d1.lah.jobs ++ [⟨h, 0x0605, st, body, none, []⟩] }

/-- CHECKPOINT_RESTORE. -/
def checkpointRestore (d : Dev) (h : CmdHdr) (ring sl n m j : Nat) : Dev :=
  onChannel d h 0x0605 true fun d =>
    checked d h 0x0605
      [(decide (16 ≤ sl) || (slot d sl).st == 0, stw stParam 7), (decide (n < 2) || decide (64 < n), stw stParam 8),
       (decide (m < 2) || decide (64 < m), stw stParam 9), (decide (m ≤ j), stw stParam 10), (d.pwr.fumarole, stw stRetry 0)] fun d =>
      restoreFrom (freeNext d) h (imagesOf d sl ring n) n m j

def execCheckpointRestore (h : CmdHdr) (ringId imageSlot oldMembers newMembers newIndex : Nat) (s : State) :
    Host.Outcome State Fault Refusal :=
  serve s fun d => checkpointRestore d h ringId imageSlot oldMembers newMembers newIndex

end Sys2Proof.Machine
end

