-- ==== Sys2Proof/Machine/TierRows.lean ====
section
/-!
DEFINITION. Sys2Proof/Machine/TierRows.lean: TIER_ACK, SLOT_LOST and TIER_TARGET_CONFIG (R111 rows 17 to 19, 24, 25, 35;
R122 to R125, R133, R139, R157 to R161, R431, R469, R571).
-/

namespace Sys2Proof.Machine

/-! ## The copy to a replacement (R161) -/

/-- Messages of slot n's transfers that still wait in their queue go to the target that the slot is bound to now (R161). -/
def redirect (d : Dev) (n addr : Nat) : Dev :=
  let tags := (d.pg.xfers.filter fun x => slotOf x.addr == n && !x.sent).map (·.tag)
  { d with tsh.queues := tmap (fun q => q.map fun m =>
      if !m.host && (m.op == 0x10 || m.op == 0x11) && tags.contains m.tag then { m with dest := addr } else m) d.tsh.queues }

/-- The copy of slot n is through: the slot is rebound and its command answered. -/
def endCopy (d : Dev) (n status : Nat) (moved : Bool) : Dev :=
  let t := slot d n
  let d := if moved then
      let d := redirect (setSlot d n { t with st := 1, addr := t.newAddr, plane := t.newPlane, bad := [], copied := [], cmd := none })
        n t.newAddr
      setRoute d (4064 + n) (some ⟨t.newAddr, 2, t.newPlane⟩)
    else setSlot d n { t with st := if t.st = 2 then 1 else t.st, copied := [], cmd := none }
  match t.cmd with
  | some h => reply d h 0x0704 status
  | none => d

/-- R161: the next allocated unit is read for the copy, lowest first; what is freed before its turn is not copied. -/
def copyNext (d : Dev) (n : Nat) : Dev :=
  let t := slot d n
  if t.st ≠ 2 ∨ (d.pg.xfers.any fun x => (x.kind == .slotCopy || x.kind == .slotCopyWrite) && slotOf x.addr == n) then d
  else
    let mine := d.pg.descs.filter fun q => slotOf q.1 == n && !t.copied.contains (unitOf q.1)
    match mine.find? fun q => q.2.st == .valid with
    | some (a, q) => issueRead d q.own (mkXfer .slotCopy 0 a [] 0)
    | none => if mine.any fun q => q.2.st == .incoming then d else endCopy d n stOk true

/-- A unit read for the copy goes to the replacement, ciphertext and side record unchanged. -/
def copyWrite (d : Dev) (x : Xfer) (sealed : List Byte) : Dev :=
  let t := slot d (slotOf x.addr)
  let own := match desc d x.addr with
    | some q => q.own
    | none => 0
  let (g, d) := newTag d
  let d := { d with pg.xfers := d.pg.xfers ++ [{ mkXfer .slotCopyWrite 0 x.addr [] 0 with tag := g, issued := d.tick }],
                    obs.wCount := d.obs.wCount + 1 }
  meter (sendTier d 0x11 own t.newAddr g (unitOf x.addr) 65616 sealed) own 6 1

/-- A unit of the copy is done with. -/
def copied (d : Dev) (a : Nat) : Dev :=
  let n := slotOf a
  copyNext (setSlot d n { slot d n with copied := unitOf a :: (slot d n).copied }) n

/-! ## What the end of a transfer does -/

/-- R139: a lost park is issued again, its slot counting as used for the rotation. -/
def reissuePark (d : Dev) (x : Xfer) : Dev :=
  let own := match frame d x.frame with
    | some f => f.own
    | none => 0
  let outs := x.spns.filter fun n => pageSt d n == .out
  let by' := match outs.head?.bind (pte d) with
    | some p => ownerOf d p.owner
    | none => own
  let d := modPart (losePark d x) by' fun c => { c with lastSlot := slotOf x.addr }
  retryParks d (outs.map (fun n => (n, x.cmd)) ++ x.later)

/-- A TIER_WRITE acknowledged as durable (rows 17 and 18). -/
def writeDone (d : Dev) (x : Xfer) : Dev :=
  match x.kind with
  | .park =>
    let d := noteMoved (commitPark d x) x.cmd (x.spns.filter fun n => pageSt d n == .out).length
    settleParks (retryParks d x.later)
  | .adapterWrite => adapterAcked d x.cmd x.addr
  | .shadow => modDesc d x.addr fun q => { q with st := .valid }
  | .image => settleJobs (modDesc d x.addr fun q => { q with st := .valid })
  | .slotCopyWrite => copied d x.addr
  | _ => d

/-- R533: an image with a unit that its target could not take is not complete. -/
def ckptBroken (d : Dev) (seq : Nat) : Dev :=
  { d with lah.jobs := d.lah.jobs.map fun j => if j.cmd.seq = seq then { j with img := j.img.map fun i => { i with complete := false } } else j }

/-- A TIER_WRITE whose unit the target could not take (R158). -/
def writeFailed (d : Dev) (x : Xfer) : Dev :=
  match x.kind with
  | .park => settleParks (reissuePark (loseUnit d x.addr) x)
  | .adapterWrite => releaseUnit (adapterLost (loseUnit d x.addr) x.cmd x.frame x.addr) x.addr
  | .shadow => releaseUnit (loseUnit (shadowLost d x.addr) x.addr) x.addr
  | .image => settleJobs (ckptBroken (loseUnit d x.addr) x.cmd)
  | .slotCopyWrite => copied (loseUnit d x.addr) x.addr
  | _ => d

/-- R115: the control page that a fork copies has been read, or cannot be: the fork begins, or its command ends and the parent becomes
DEGRADED. -/
def forkRead (d : Dev) (seq : Nat) (data : Option (List Byte)) : Dev := match forkOf d seq with
  | none => d
  | some f =>
    let r : Dev × Option Nat := match data with
      | some b => forkStep d f.cmd f.parent f.seed (some b)
      | none => (degrade d f.parent stTierLost, some stTierLost)
    match r.2, d.pfx.jobs.find? fun j => j.cmd == f.cmd with
    | none, _ => r.1
    | some c, some j => failJob (endFork r.1 f.cmd f.parent) j (stw c 0)
    | some c, none => reply (endFork r.1 f.cmd f.parent) f.cmd 0x0103 (stw c 0)

/-- A TIER_READ whose unit cannot be had (row 25, R158, R306, R512). -/
def readFailed (d : Dev) (x : Xfer) : Dev :=
  match x.kind with
  | .thaw => loseThaw d x
  | .adapterRead => unitUnreadable d x
  | .slotCopy => copied (loseUnit d x.addr) x.addr
  | .refill => refillEnds d x.frame
  | .capture => captureArrived d x none
  | .imageRead => imageArrived d x none
  | .forkCtrl => forkRead d x.cmd none
  | _ => d

/-- R431: the frame is rewritten whole from its twin when TV is still 1. -/
def refillArrived (d : Dev) (x : Xfer) (data : List Byte) : Dev :=
  match frame d x.frame with
  | some f =>
    if f.tv && f.twin == x.addr then
      bump (writeFrame { d with hbm.refills := d.hbm.refills.filter (· != x.frame) } x.frame 0 data) Addr.TMC_SCRUB_REFILL_CNT
    else refillEnds d x.frame
  | none => refillEnds d x.frame

/-- A unit read back that opens (row 24). -/
def readDone (d : Dev) (x : Xfer) (data : List Byte) : Dev :=
  match x.kind with
  | .thaw => settleParks (arrive d x data)
  | .adapterRead => unitArrived d x data
  | .refill => refillArrived d x data
  | .capture => captureArrived d x (some data)
  | .imageRead => imageArrived d x (some data)
  | .forkCtrl => forkRead d x.cmd (some data)
  | _ => d

/-- R133: the unit is read once more; the second failure loses it. -/
def tagFailed (d : Dev) (x : Xfer) : Dev :=
  let d := bump d Addr.TMC_TAG_FAIL_CNT
  if x.retried then readFailed d x
  else issueRead d (match desc d x.addr with
    | some q => q.own
    | none => 0) { x with retried := true, sent := false }

/-! ## SLOT_LOST (R157) -/

/-- R157, R126: slot n is LOST: its transfers fail and its copies are lost. -/
def loseSlot (d : Dev) (n : Nat) : Dev :=
  let t := slot d n
  if t.st = 0 ∨ t.st = 3 then d
  else
    let d := errEvent d 11 (stw stTierLost 0) 0xFF n n
    let xs := d.pg.xfers.filter fun x => slotOf x.addr == n
    let d := { d with pg.xfers := d.pg.xfers.filter fun x => slotOf x.addr != n }
    let d := if t.cmd.isSome then endCopy d n (stw stTierLost 0) false else d
    let d := setSlot d n { slot d n with st := 3 }
    let d := xs.foldl (fun d x =>
      match x.kind with
      | .park => reissuePark d x
      | .adapterWrite => releaseUnit (adapterLost d x.cmd x.frame x.addr) x.addr
      | .shadow => releaseUnit (shadowLost d x.addr) x.addr
      | .image => ckptBroken d x.cmd
      | _ => readFailed d x) d
    settleJobs (settleParks (loseCopies d n))

/-- SLOT_LOST: no answer to the oldest outstanding transfer for TMC_TIER_TIMEOUT ticks, the target's own report, or every
path down. -/
def slotLost (d : Dev) (n : Nat) (reported pathsDown : Bool) : Dev :=
  let late := d.pg.xfers.any fun x => slotOf x.addr == n && x.sent && decide (x.issued + lim d Addr.TMC_TIER_TIMEOUT ≤ d.tick)
  if late || reported || (pathsDown && (upPorts d (slot d n).plane).isEmpty) then serveHeld (loseSlot d n) else d

def execSlotLost (n : Nat) (reported pathsDown : Bool) (s : State) : Host.Outcome State Fault Refusal :=
  serve s fun d => slotLost d n reported pathsDown

/-! ## TIER_ACK (R455, R460, R469) -/

/-- What TIER_ACK answers. -/
def tierAckFor (d : Dev) (p cycle : Nat) (m : FabMsg) (x : Xfer) : Dev :=
  let op := bodyAt m 4 1
  let res := bodyAt m 5 1
  let d := endXfer d x.tag
  let write := x.kind == .park || x.kind == .adapterWrite || x.kind == .shadow || x.kind == .image || x.kind == .slotCopyWrite
  let own := match desc d x.addr with
    | some q => q.own
    | none => 0xFF
  let d := if write then stampAt d (portInput p) 0x08 0 own x.addr cycle else d
  if res = 2 then
    (if x.kind = .slotCopyWrite then endCopy d (slotOf x.addr) (stw stTierLost 0) false
     else loseSlot { d with pg.xfers := d.pg.xfers ++ [x] } (slotOf x.addr))
  else if write then (if res = 0 ∧ op = 0 then writeDone d x else writeFailed d x)
  else if res = 0 ∧ op = 1 then
    let side := slice m.body 16 32
    let cipher := slice m.body 48 65536
    if x.kind = .slotCopy then copyWrite d x (side ++ cipher)
    else match openUnit d x.addr side cipher with
      | some (_, _, data) => readDone d x data
      | none => tagFailed d x
  else
    let d := if x.kind = .slotCopy then d else loseUnit d x.addr
    settleParks (readFailed d x)

/-- TIER_ACK: an answer whose TAG matches no outstanding transfer is counted and discarded. -/
def tierAck (d : Dev) (p cycle : Nat) (m : FabMsg) : Dev :=
  serveHeld <| accept d p m 0x12 2 id fun d =>
    match d.pg.xfers.find? fun x => x.tag == m.tag with
    | some x => copyNext (tierAckFor d p cycle m x) (slotOf x.addr)
    | none => bump d Addr.FAB_DUP_CNT

def execTierAck (port cycle : Nat) (m : FabMsg) (s : State) : Host.Outcome State Fault Refusal :=
  serve s fun d => tierAck d port cycle m

/-! ## TIER_TARGET_CONFIG (R122, R125, R160, R161, R571) -/

/-- R125: frames of the descriptors and of the free map of n units. -/
def tableFramesOf (n : Nat) : Nat := ceilDiv (8 * n) 65536 + ceilDiv n 524288

/-- The frames of a slot made to cover n units; R695. -/
def slotFrames (d : Dev) (sl n : Nat) : Res Dev :=
  let t := slot d sl
  let want := tableFramesOf n
  if t.frames.length ≤ want then
    match allocOwnMany d false 0 (want - t.frames.length) with
    | .error e => .error e
    | .ok (fs, d1) => .ok (setSlot d1 sl { slot d1 sl with frames := t.frames ++ fs })
  else
    let d1 := (t.frames.drop want).foldl decFrame d
    .ok (setSlot d1 sl { slot d1 sl with frames := t.frames.take want })

/-- R122: the other slots' units and these make at most 2^30. -/
def capSumOk (d : Dev) (sl cap : Nat) : Bool :=
  decide (((d.tier.filter fun t => t.1 != sl).map fun t => t.2.cap).sum + cap ≤ 2 ^ 30)

/-- A slot bound or rebound. -/
def bindSlot (d : Dev) (h : CmdHdr) (sl mask addr cap : Nat) : Dev :=
  match slotFrames d sl cap with
  | .error c => reply d h 0x0704 (stw c 0)
  | .ok d1 =>
    let t := slot d1 sl
    let d2 := setSlot d1 sl { t with st := 1, addr := addr, plane := mask, cap := cap, bad := [], copied := [], cmd := none }
    reply (setRoute d2 (4064 + sl) (some ⟨addr, 2, mask⟩)) h 0x0704 stOk

/-- An ONLINE slot with no unit allocated becomes ABSENT. -/
def unbindSlot (d : Dev) (h : CmdHdr) (sl : Nat) : Dev :=
  if d.pg.descs.any fun q => slotOf q.1 == sl then reply d h 0x0704 (stw stRetry 0)
  else
    let d1 := (slot d sl).frames.foldl decFrame d
    let d2 := { d1 with tier := tdel d1.tier sl }
    reply (setRoute d2 (4064 + sl) none) h 0x0704 stOk

/-- The highest unit that a LOST descriptor holds lies below the capacity (R160). -/
def lostFits (d : Dev) (sl cap : Nat) : Bool := d.pg.descs.all fun q => slotOf q.1 != sl || decide (unitOf q.1 < cap)

/-- TIER_TARGET_CONFIG; not in fumarole service (R657). -/
def tierTargetConfig (d : Dev) (h : CmdHdr) (sl mask addr cap : Nat) : Dev :=
  onChannel d h 0x0704 true fun d =>
    checked d h 0x0704
      [(decide (16 ≤ sl), stw stParam 6), (decide (2 ^ 24 ≤ addr), stw stParam 9), (d.pwr.fumarole, stw stRetry 0)] fun d =>
      let t := slot d sl
      let bound := 1 ≤ cap ∧ cap ≤ 2 ^ 30 ∧ capSumOk d sl cap
      match t.st with
      | 0 => if bound then bindSlot d h sl mask addr cap else reply d h 0x0704 (stw stParam 10)
      | 3 =>
        if bound ∧ lostFits d sl cap then bindSlot d h sl mask addr cap else reply d h 0x0704 (stw stParam 10)
      | 1 =>
        if cap = 0 then unbindSlot d h sl
        else if addr = t.addr then reply d h 0x0704 (stw stParam 9)
        else if cap < t.cap ∨ ¬capSumOk d sl cap then reply d h 0x0704 (stw stParam 10)
        else copyNext (setSlot d sl { t with st := 2, newAddr := addr, newPlane := mask, copied := [], cmd := some h }) sl
      | _ => reply d h 0x0704 (stw stParam 9)

def execTierTargetConfig (h : CmdHdr) (n planeMask addr capacity : Nat) (s : State) : Host.Outcome State Fault Refusal :=
  serve s fun d => tierTargetConfig d h n planeMask addr capacity

end Sys2Proof.Machine
end

