-- ==== Sys2Proof/Machine/Partition.lean ====
section
/-!
DEFINITION. Sys2Proof/Machine/Partition.lean: PARTITION_CONFIG, PARTITION_FENCE and PARTITION_RESET (R82, R86, R95,
R145 to R147, R231, R260 to R262, R295, R301, R347, R413, R504, R544, R546, R569, R570, R615 to R619, R630, R631).
-/

namespace Sys2Proof.Machine

/-! ## PARTITION_CONFIG (R569, R570) -/

/-- Stores, sessions, adapters or grammar images of p. -/
def storesOf (d : Dev) (p : Nat) : List (Nat × Store) := d.rtv.stores.filter fun q => q.1 / 64 == p

def inRange (base count i : Nat) : Bool := decide (base ≤ i) && decide (i < base + count)

/-- The session table entries of p that nothing left FREE. -/
def entriesOf (d : Dev) (p : Nat) : List Nat :=
  let c := (part d p).cfg
  (d.sess.filter fun q => inRange c.sessBase c.sessCount q.1 && q.2.st != .free).map (·.1)

/-- The adapter ids of p under which anything stands. -/
def adaptersOf (d : Dev) (p : Nat) : List Nat :=
  let c := (part d p).cfg
  (d.adp.ids.filter fun q => inRange c.adpBase c.adpCount q.1 && (!q.2.vers.isEmpty || q.2.stage.isSome)).map (·.1)

def grammarsOf (d : Dev) (p : Nat) : List (Nat × Gram) :=
  d.tok.grams.filter fun q => q.1 / 65536 == p && q.2.img.st != 0

/-- R570: p holds a session, a store, an adapter or a grammar image. -/
def holdsAny (d : Dev) (p : Nat) : Bool :=
  !(entriesOf d p).isEmpty || !(storesOf d p).isEmpty || !(adaptersOf d p).isEmpty || !(grammarsOf d p).isEmpty

/-- The other partitions' configurations. -/
def others (d : Dev) (p : Nat) : List PartCfg := (d.parts.filter fun q => q.1 != p).map fun q => q.2.cfg

/-- Two ranges share a number. -/
def overlap (b1 n1 b2 n2 : Nat) : Bool := n1 != 0 && n2 != 0 && decide (b1 < b2 + n2) && decide (b2 < b1 + n1)

/-- R570: which field a configuration may not change. -/
def frozen (d : Dev) (p : Nat) (same : Bool) : Bool := holdsAny d p && !same

/-- The checks of the fields in their order. -/
def partitionChecks (d : Dev) (p : Nat) (c : PartCfg) : List (Bool × Nat) :=
  let o := (part d p).cfg
  let os := others d p
  let conf := bit c.pflags 0
  let fr := frozen d p
  [(decide (15 < c.pflags), stw stReserved 7),
   ((conf && bit c.pflags 3) || fr (c.pflags == o.pflags), stw stParam 7),
   (decide (1 < c.capMode) || (conf && c.capMode != 1), stw stParam 8),
   (c.publicDomain != 255 && (decide (15 < c.publicDomain) || (tget d.pfx.tables (256 + c.publicDomain)).isNone || conf),
    stw stParam 9),
   (decide (64 < c.rtvStores) || decide (c.rtvStores < (storesOf d p).length) ||
    decide (1024 < c.rtvStores + (os.map (·.rtvStores)).sum), stw stParam 10),
   (c.slotMask == 0, stw stParam 12),
   ((os.any fun q => overlap c.sessBase c.sessCount q.sessBase q.sessCount) || fr (c.sessBase == o.sessBase), stw stParam 13),
   (decide (2 ^ 24 < c.sessBase + c.sessCount) || fr (c.sessCount == o.sessCount), stw stParam 14),
   (decide (6291456 < c.hbmFrames) || (c.capMode == 1 && decide (c.hbmFrames < charged d p)), stw stParam 15),
   (decide (2 ^ 30 < c.tephraUnits) || (c.capMode == 1 && decide (c.tephraUnits < chargedUnits d p)), stw stParam 16),
   (c.pfxBuckets != 0 && !bucketCountOk c.pfxBuckets, stw stParam 17),
   ((c.adpCount != 0 && c.adpBase == 0) || (os.any fun q => overlap c.adpBase c.adpCount q.adpBase q.adpCount) ||
    fr (c.adpBase == o.adpBase), stw stParam 18),
   (decide (2 ^ 20 < c.adpBase + c.adpCount) || fr (c.adpCount == o.adpCount), stw stParam 19),
   (decide (lim d Addr.ADP_CACHE_FRAMES < c.adpQuota + (os.map (·.adpQuota)).sum), stw stParam 20),
   ((os.any fun q => overlap c.chanBase c.chanCount q.chanBase q.chanCount) || (p == 0 && c.chanBase != 0) ||
    fr (c.chanBase == o.chanBase), stw stParam 21),
   (c.chanCount == 0 || decide (64 < c.chanCount) || decide (1024 < c.chanBase + c.chanCount) ||
    (p == 0 && c.chanCount != 4) || fr (c.chanCount == o.chanCount), stw stParam 22),
   (c.cmdShare == 0 || decide (64 < c.cmdShare), stw stParam 23)]

/-- R147: the pool that the other partitions leave. -/
def poolWithout (d : Dev) (p : Nat) : Nat × Nat :=
  let d' := modPart d p fun q => { q with cfg := { q.cfg with capMode := 0 } }
  (poolFree d' + charged d p, poolUnits d' + chargedUnits d p)

/-- R147: the reservation can be had. -/
def reserveOk (d : Dev) (p : Nat) (c : PartCfg) : Bool :=
  let w := poolWithout d p
  c.capMode != 1 || (decide (c.hbmFrames ≤ w.1) && decide (c.tephraUnits ≤ w.2))

/-- The 48-byte body of a PARTITION_CONFIG (R569, R642). -/
def configBytes (p : Nat) (c : PartCfg) : List Byte :=
  leBytes 1 p ++ leBytes 1 c.pflags ++ leBytes 1 c.capMode ++ leBytes 1 c.publicDomain ++ leBytes 1 c.rtvStores ++
  leBytes 1 0 ++ leBytes 2 c.slotMask ++ leBytes 4 c.sessBase ++ leBytes 4 c.sessCount ++ leBytes 4 c.hbmFrames ++
  leBytes 4 c.tephraUnits ++ leBytes 4 c.pfxBuckets ++ leBytes 4 c.adpBase ++ leBytes 4 c.adpCount ++
  leBytes 4 c.adpQuota ++ leBytes 2 c.chanBase ++ leBytes 2 c.chanCount ++ leBytes 1 c.cmdShare ++ leBytes 3 0

/-- R616, R618: a new prefix salt and a new ML-KEM key pair. -/
def drawIdentity (d : Dev) (p : Nat) : Dev :=
  let r := drawSalt d
  let k := r.2.obs.drbg
  let d := (drawNext r.2).2
  let d := modPart d p fun q => { q with salt := r.1, kem := some k }
  { d with pfx.tables := tmod d.pfx.tables p fun t => { t with salt := r.1 } }

/-- R262: the partition's table for a new bucket count; every entry of the old one is discarded. -/
def resizeTable (d : Dev) (p n : Nat) : Res Dev :=
  let old := (part d p).cfg.pfxBuckets
  if n = old then .ok d
  else
    let fs := match tget d.pfx.tables p with
      | some t => t.frames
      | none => []
    let d := freeFrames { d with pfx.tables := tdel d.pfx.tables p } fs
    if n = 0 then .ok d
    else match allocMany d p (tableFrames n) with
      | .error e => .error e
      | .ok (fs, d1) => .ok { d1 with pfx.tables := tset d1.pfx.tables p ⟨(part d1 p).salt, n, fs, []⟩ }

/-- R546: a channel assigned to p with its 32 buffer frames, its in-window whole and its out-window 0. -/
def addChannel (d : Dev) (p n : Nat) : Res Dev :=
  match tget d.host.chans n with
  | some c => if c.part = p then .ok d else .error stNoCap
  | none => match allocOwnMany d false 0 32 with
    | .error e => .error e
    | .ok (fs, d1) => .ok { d1 with host.chans := tset d1.host.chans n ⟨p, 0, 0, fs⟩ }

/-- R544: the channels of p become the range given. -/
def setChannels (d : Dev) (p base count : Nat) : Res Dev :=
  let gone := d.host.chans.filter fun q => q.2.part == p && !inRange base count q.1
  let d := gone.foldl (fun d q => freeFrames { d with host.chans := tdel d.host.chans q.1 } q.2.bufs) d
  (List.range count).foldl (fun acc k => match acc with
    | .error e => .error e
    | .ok d => addChannel d p (base + k)) (.ok d)

/-- The configuration takes effect. -/
def applyConfig (d : Dev) (p : Nat) (c : PartCfg) : Res Dev :=
  let first := (part d p).st == .unconfigured
  let d := if first then drawIdentity (modPart d p fun q => { q with st := .opened }) p else d
  match setChannels d p c.chanBase c.chanCount with
  | .error e => .error e
  | .ok d1 =>
    -- the table is charged under the new capacity fields
    let d2 := modPart d1 p fun q => { q with
      cfg := { c with pfxBuckets := (part d1 p).cfg.pfxBuckets }, config := configBytes p c }
    match resizeTable d2 p c.pfxBuckets with
    | .error e => .error e
    | .ok d3 => .ok (modPart d3 p fun q => { q with cfg := c })

/-- R630: the straps select production test. -/
def productionTest (d : Dev) : Bool := bit d.pwr.straps.toNat 0

/-- PARTITION_CONFIG. -/
def partitionConfig (d : Dev) (h : CmdHdr) (p : Nat) (c : PartCfg) : Dev :=
  onChannel d h 0x0701 true fun d =>
    if productionTest d ∧ p ≠ 0 then reply d h 0x0701 (stw stPrivilege 6)
    else if (part d p).st = .resetting then reply d h 0x0701 (stw stRetry 0)
    else checked d h 0x0701 (partitionChecks d p c ++
        [(!reserveOk d p c, stw stNoCap 0),
         (decide (2 ^ 21 < bucketsUsed d - (part d p).cfg.pfxBuckets + c.pfxBuckets), stw stNoCap 0)]) fun d =>
      match applyConfig d p c with
      | .error e => reply d h 0x0701 (stw e 0)
      | .ok d1 => reply d1 h 0x0701 stOk

def execPartitionConfig (h : CmdHdr) (partitionT : Nat) (c : PartCfg) (s : State) : Host.Outcome State Fault Refusal :=
  serve s fun d => partitionConfig d h partitionT c

/-! ## PARTITION_FENCE (R95, R617) -/

/-- R95: every session of p is FENCED. Its requests that have not been admitted end; those admitted, and the LOGITS accepted, complete
with ST_PARTITION_FENCED, whenever the fence is lifted. -/
def fenceSessions (d : Dev) (p : Nat) : Dev :=
  let is := entriesOf d p
  let d := is.foldl (fun d i => modSess d i fun e =>
    if e.st = .fenced then e else { e with prev := e.st, st := .fenced }) d
  let d := (d.reqs.filter fun r => is.contains r.entry && r.phase == .waiting).foldl (fun d r => endWaiting d r stFenced) d
  { d with reqs := d.reqs.map fun r => if is.contains r.entry then { r with fenced := true } else r,
           tok.logits := d.tok.logits.map fun l => if is.contains l.entry then { l with fenced := !l.sent } else l }

/-- R95: a session returns to its state before the fence. -/
def unfenceSession (d : Dev) (i : Nat) : Dev :=
  let e := sess d i
  if e.st ≠ .fenced then d
  else if e.prev = .awaitHost then
    let d := modSess d i fun e => { e with st := .active, prev := .free }
    match d.tok.logits.find? fun l => l.entry == i && l.sent with
    | some l => hostTimeout d l
    | none => d
  else activate (modSess d i fun e => { e with st := e.prev, prev := .free }) i

/-- PARTITION_FENCE. -/
def partitionFence (d : Dev) (h : CmdHdr) (p fence : Nat) : Dev :=
  onChannel d h 0x0703 true fun d =>
    match (part d p).st, fence with
    | .resetting, _ => reply d h 0x0703 (stw stRetry 0)
    | .unconfigured, _ => reply d h 0x0703 (stw stParam 6)
    | .opened, 1 =>
      if p = 0 then reply d h 0x0703 (stw stParam 7)
      else reply (fenceSessions (modPart d p fun q => { q with st := .fenced }) p) h 0x0703 stOk
    | .fenced, 0 =>
      let d := modPart d p fun q => { q with st := .opened }
      reply ((entriesOf d p).foldl unfenceSession d) h 0x0703 stOk
    | _, _ => reply d h 0x0703 (stw stParam 7)

def execPartitionFence (h : CmdHdr) (partitionT fence : Nat) (s : State) : Host.Outcome State Fault Refusal :=
  serve s fun d => partitionFence d h partitionT fence

/-! ## PARTITION_RESET (R86, R106, R618, R619) -/

/-- R619: commands of p stamped before `seq` are not all served. -/
def earlierOpen (d : Dev) (p seq : Nat) : Bool :=
  let of := fun (h : CmdHdr) => h.part == p && before h.seq seq
  (d.host.taken.any fun t => of t.h) || (d.host.stamped.any fun t => before t.seq seq && match tget d.host.chans t.chan with
    | some c => c.part == p
    | none => false) ||
  (d.pg.parks.any fun j => of j.1) || (d.pg.forks.any fun j => of j.cmd) || (d.pfx.jobs.any fun j => of j.cmd) ||
  (d.rtv.queries.any fun q => of q.cmd) || (d.vnt.launches.any fun l => of l.cmd) ||
  (d.rtv.stores.any fun s => match s.2.mergeCmd with
    | some h => of h
    | none => false) || d.adp.ids.any fun x => match x.2.commit with
    | some h => of h
    | none => false

/-- PARTITION_RESET: the fence of step 1. It waits for the commands that came before it. -/
def partitionReset (d : Dev) (h : CmdHdr) (p : Nat) : Dev :=
  onChannel d h 0x0702 true fun d =>
    match (part d p).st with
    | .resetting => reply d h 0x0702 (stw stRetry 0)
    | .unconfigured => reply d h 0x0702 (stw stParam 6)
    | _ =>
      if p = 0 then reply d h 0x0702 (stw stParam 6)
      else if earlierOpen d p h.seq then d
      else fenceSessions (modPart d p fun q => { q with st := .resetting, resetCmd := some h }) p

def execPartitionReset (h : CmdHdr) (partitionT : Nat) (s : State) : Host.Outcome State Fault Refusal :=
  serve s fun d => partitionReset d h partitionT

/-- Step 3 for one session: its references go and its entry is FREE. -/
def wipeSession (d : Dev) (i : Nat) : Dev :=
  let e := sess d i
  let d := { d with tok.logits := d.tok.logits.filter fun l => l.entry != i }
  if e.st = .free then d else releaseVersion (dropPages d (allSpns e)) e.adapter e.adpVersion

/-- R86: every entry of the range FREE, with generation 0 and QUAR clear. -/
def wipeEntries (d : Dev) (p : Nat) : Dev :=
  let c := (part d p).cfg
  (d.sess.filter fun q => inRange c.sessBase c.sessCount q.1).foldl (fun d q =>
    let d := noteObj (wipeSession d q.1) q.1
    { d with sess := tdel d.sess q.1 }) d

/-- Step 3: stores, adapter versions, grammar images, prefix entries. -/
def wipeObjects (d : Dev) (p : Nat) : Dev :=
  let d := (storesOf d p).foldl (fun d q => freeFrames { d with rtv.stores := tdel d.rtv.stores q.1 } q.2.frames) d
  let d := { d with rtv.gens := d.rtv.gens.filter fun q => q.1 / 64 != p }
  let d := (grammarsOf d p).foldl (fun d q => freeFrames { d with tok.grams := tdel d.tok.grams q.1 } q.2.img.frames) d
  let d := (adaptersOf d p).foldl (fun d id =>
    let x := adpId d id
    let d := match x.stage with
      | some i => freeFrames d i.frames
      | none => d
    let d := x.vers.foldl (fun d v => freeVersion d id v.ver) d
    { d with adp.ids := tdel d.adp.ids id }) d
  { d with pfx.tables := tmod d.pfx.tables p fun t => { t with ways := [] } }

/-- Step 4: the book slots, and every frame and unit whose OWNER is p, sticky ones included; its table's frames stay. -/
def wipeStorage (d : Dev) (p : Nat) : Dev :=
  let bs := d.snt.books.filter fun q => q.1 / 8192 == p
  let d := bs.foldl (fun d q =>
    freeFrames { d with snt.books := tdel d.snt.books q.1 } (q.2.s0.frames ++ q.2.s1.frames)) d
  let keep := match tget d.pfx.tables p with
    | some t => t.frames
    | none => []
  let us := (d.pg.descs.filter fun q => q.2.own == p).map (·.1)
  let d := { d with pg.xfers := d.pg.xfers.filter fun x => !us.contains x.addr }
  let d := us.foldl releaseUnit d
  let fs := (d.pg.frames.filter fun q => q.2.own == p && q.2.st != .retired && !keep.contains q.1).map (·.1)
  let d := { d with lah.holds := d.lah.holds.filter fun h => !(fs.contains h.at' && !h.tephra) && !(us.contains h.at' && h.tephra) }
  fs.foldl freeFrame d

/-- R546: each channel's in-window is made whole. -/
def wholeWindows (d : Dev) (p : Nat) : Dev :=
  { d with host.chans := tmap (fun c => if c.part = p then { c with inHeld := 0 } else c) d.host.chans }

/-- R618, step 2: a request of p is not answered; the token of a LOGITS may still wait for its release (R89, R617). -/
def unanswered (d : Dev) (p : Nat) : Bool :=
  (d.reqs.any fun r => r.part == p) || (d.tok.logits.any fun l => hPart l.handle == p) || (entriesOf d p).any (logitsOpen d)

/-- PARTITION_RESET_RESUME: steps 3 to 6, once every admitted request of p is answered; the tolerance is 0 again (R649). -/
def partitionResetResume (d : Dev) (p : Nat) : Dev :=
  match (part d p).st, (part d p).resetCmd with
  | .resetting, some h =>
    if unanswered d p then d
    else
      let d := wipeStorage (wipeObjects (wipeEntries d p) p) p
      let d := modPart d p fun q => { q with tierKeys := [], replKeys := [], kem := none }
      let d := wholeWindows (drawIdentity d p) p
      reply (modPart d p fun q => { q with st := .opened, resetCmd := none, tol := 0 }) h 0x0702 stOk
  | _, _ => d

def execPartitionResetResume (partitionT : Nat) (s : State) : Host.Outcome State Fault Refusal :=
  serve s fun d => partitionResetResume d partitionT

end Sys2Proof.Machine
end

