-- ==== Sys2Proof/Machine/Links.lean ====
section
/-!
DEFINITION. Sys2Proof/Machine/Links.lean: the fabric ports and the host link: lanes, widths, training, replay, credits
(R445 to R457, R476, R477, R539 to R543, R576 to R578, R651, R667), and FABRIC_ROUTE_SET.
-/

namespace Sys2Proof.Machine

/-! ## Lanes and widths (R449, R453, R540, R541, R488) -/

/-- Lanes that a port's control register lets it use. -/
def laneMask (d : Dev) (n : Nat) : List Nat :=
  if n = 56 then (List.range 16).filter fun l => bit (rd d Addr.HLK_CTRL) (10 + l)
  else (List.range 8).filter fun l => bit (rd d (Addr.FAB_PORT_CTRL n)) (15 + l)

/-- ENABLE and MODE of a port. -/
def portEnabled (d : Dev) (n : Nat) : Bool :=
  bit (rd d (if n = 56 then Addr.HLK_CTRL else Addr.FAB_PORT_CTRL n)) 31
def portMode (d : Dev) (n : Nat) : Nat :=
  bits (rd d (if n = 56 then Addr.HLK_CTRL else Addr.FAB_PORT_CTRL n)) 30 28

/-- Usable lanes. -/
def usableLanes (d : Dev) (n : Nat) : List Nat :=
  (laneMask d n).filter fun l => !(port d n).removed.contains l && !(port d n).failed.contains l

/-- The width that a number of usable lanes gives; 0 takes the port down. -/
def widthFor (n lanes : Nat) : Nat :=
  if n = 56 then (if 16 ≤ lanes then 16 else if 8 ≤ lanes then 8 else 0)
  else if 8 ≤ lanes then 8 else if 6 ≤ lanes then 6 else if 4 ≤ lanes then 4 else 0

/-- The lanes in use: the lowest-numbered usable ones. -/
def lanesInUse (d : Dev) (n : Nat) : List Nat := (usableLanes d n).take (port d n).width

/-- R449, R488: COST of a fabric port at a width: 17 units for 3,885 bytes and lane. -/
def fabricCost (w : Nat) : Nat := if w = 0 then 0 else 2 ^ 24 * 17 / (3885 * w)

/-- R540, R541: COST of port 56: the lesser of the link's rate and the card's. -/
def hostCost (w rate : Nat) : Nat :=
  if w = 0 then 0 else max (2 ^ 24 * 34 / (3885 * w)) (if rate = 0 then 0 else 2 ^ 24 / (10 * rate))

/-- The COST of port n for its width and the card's RATE; E stays. -/
def setCost (d : Dev) (n : Nat) : Dev :=
  let w := (port d n).width
  let c := if n = 56 then hostCost w d.host.cardRate else fabricCost w
  { d with tsh.ports := tset d.tsh.ports n { portShaper d n with cost := c } }

/-- The counter of width changes. -/
def widthCounter (n : Nat) : Nat := if n = 56 then Addr.HLK_WIDTH_CHG_CNT else Addr.FAB_WIDTH_CHG_CNT

/-- R445, R75: the ledger input of a port's events. -/
def portInputOf (n : Nat) : Nat := if n = 56 then 1 else portInput n

/-- R453, R648: the width of a port: as its usable lanes allow; a fabric port runs at no more than 4 in SIMMER. -/
def portWidth (d : Dev) (n : Nat) : Nat :=
  let w := widthFor n (usableLanes d n).length
  if n < 56 ∧ d.pwr.st = 1 then min w 4 else w

/-- The width follows the usable lanes. -/
def rewidth (d : Dev) (n : Nat) : Dev :=
  let w := portWidth d n
  if w = (port d n).width then d
  else setCost (bump (modPort d n fun p => { p with width := w }) (widthCounter n)) n

/-! ## A port goes down (R455, R490, R491, R543) -/

/-- R455: another UP port on the same plane, or any that the route entry allows. -/
def rerouteOf (d : Dev) (n : Nat) (m : Msg) : Option Nat :=
  let same := (List.range 56).filter fun k => k != n && (port d k).st == 2 && planeOf d k == planeOf d n
  match same with
  | [] => portFor d m
  | _ => nth same (m.dest % same.length)

/-- R491, R450: a message ahead of a FIFO's contents, behind one that the port has begun to send. -/
def intoFifo (m : Msg) : List Msg → List Msg
  | x :: r => if 0 < x.gone then x :: m :: r else m :: x :: r
  | [] => [m]

/-- R491: the message enters its class's FIFO on port k ahead of the contents, and charges that port's shaper. -/
def refile (d : Dev) (k : Nat) (m : Msg) : Dev :=
  let d := modPort d k fun p => { p with fifos := modNth p.fifos m.cls (intoFifo { m with gone := 0 }) }
  { d with tsh.ports := tset d.tsh.ports k ((portShaper d k).charge d.tsh.clock m.len) }

/-- R455, R491: the unacknowledged and waiting messages of port n resent, in their order. -/
def resendPort (d : Dev) (n : Nat) : Dev :=
  let p := port d n
  let ms := p.replayBuf.map (·.2) ++ p.fifos.flatten
  let d := modPort d n fun p => { p with unacked := p.flitSeq, replayBuf := [], fifos := List.replicate 6 [] }
  ms.reverse.foldl (fun d m => match rerouteOf d n m with
    | some k => refile d k m
    | none => d) d

/-- R455: fabric port n goes DOWN. -/
def downPort (d : Dev) (n cycle : Nat) : Dev :=
  if (port d n).st ≠ 2 then d
  else
    let d := errEventAt d (portInput n) 0 0xFF n cycle
    resendPort (setCost (modPort d n fun p => { p with st := 0, width := 0 }) n) n

/-- PORT_DOWN: the partner has stopped sending control codewords, or too few lanes are left. -/
def portDown (d : Dev) (n cycle : Nat) : Dev := if n < 56 then downPort d n cycle else d

def execPortDown (port cycle : Nat) (s : State) : Host.Outcome State Fault Refusal := run s fun d => portDown d port cycle

/-- HOST_LINK_DOWN (R543): the link retrains; buffers, FIFOs and windows keep what they hold. -/
def hostLinkDown (d : Dev) : Dev :=
  if (port d 56).st = 2 then setCost (modPort d 56 fun p => { p with st := if portEnabled d 56 then 1 else 0, width := 0 }) 56 else d

def execHostLinkDown (s : State) : Host.Outcome State Fault Refusal := run s hostLinkDown

/-! ## Lanes (R453, R454, R667) -/

/-- LANE_REMOVE: the Error event names the port; the width follows. -/
def laneRemove (d : Dev) (n l : Nat) : Dev :=
  if (port d n).st ≠ 2 ∨ 56 < n ∨ !(usableLanes d n).contains l then d
  else
    let d := modPort d n fun p => { p with removed := p.removed ++ [l], removedAt := tset p.removedAt l d.tick, prbs := p.prbs.filter (· != l) }
    let d := errEvent d (portInputOf n) 0 0xFF n n
    if widthFor n (usableLanes d n).length = 0 then (if n = 56 then hostLinkDown d else downPort (freeNext d) n (Config.freeCycle d.freeCnt % 30720)) else rewidth d n

def execLaneRemove (port lane : Nat) (s : State) : Host.Outcome State Fault Refusal := run s fun d => laneRemove d port lane

/-- LANE_RECALIBRATE: a removed lane's receiver is adapted and its PRBS31 run starts; a failure is counted, and the 16th
marks the lane FAILED. -/
def laneRecalibrate (d : Dev) (n l : Nat) (ok : Bool) : Dev :=
  if !(port d n).removed.contains l then d
  else if ok then modPort d n fun p => { p with removedAt := tdel p.removedAt l, prbs := if p.prbs.contains l then p.prbs else p.prbs ++ [l] }
  else
    let k := tgetD (port d n).recals l 0 + 1
    modPort d n fun p => { p with
      recals := tset p.recals l k, removedAt := tdel p.removedAt l, prbs := p.prbs.filter (· != l),
      failed := if 16 ≤ k then p.failed ++ [l] else p.failed,
      removed := if 16 ≤ k then p.removed.filter (· != l) else p.removed }

def execLaneRecalibrate (port lane : Nat) (ok : Bool) (s : State) : Host.Outcome State Fault Refusal :=
  serve s (background 1 3 false fun d => laneRecalibrate d port lane ok)

/-- LANE_RESTORE: the PRBS run of a lane has reached 10^12 bits without an error. -/
def laneRestore (d : Dev) (n l : Nat) : Dev :=
  if !(port d n).prbs.contains l then d
  else
    let d := modPort d n fun p => { p with
      removed := p.removed.filter (· != l), prbs := p.prbs.filter (· != l), recals := tdel p.recals l }
    if (port d n).st = 2 then rewidth d n else d

def execLaneRestore (port lane : Nat) (s : State) : Host.Outcome State Fault Refusal := serve s fun d => laneRestore d port lane

/-- LANE_READAPT: a lane in service readapts and stays in service. -/
def laneReadapt (d : Dev) (n l : Nat) : Dev :=
  if (port d n).st = 2 ∧ (lanesInUse d n).contains l then
    modPort d n fun p => { p with readapted := tset p.readapted l d.tick }
  else d

def execLaneReadapt (port lane : Nat) (s : State) : Host.Outcome State Fault Refusal :=
  serve s (background 1 3 false fun d => laneReadapt d port lane)

/-! ## Training (R473, R543, R651, R654) -/

/-- FABRIC_PORT_TRAIN: an enabled port in SERVICE mode completes its training on the lanes it may use; one whose reference
clock is lost does not leave TRAINING (R687), and none trains while the device is DORMANT (R648, R651). -/
def fabricPortTrain (d : Dev) (n : Nat) : Dev :=
  if n < 56 ∧ portEnabled d n ∧ portMode d n = 0 ∧ (port d n).st ≠ 2 ∧ d.obs.stage = 2 ∧ !d.pwr.refLost.contains (n / 14) ∧
      d.pwr.st ≠ 2 then
    let w := portWidth d n
    if w = 0 then modPort d n fun p => { p with st := 1 }
    else setCost (modPort d n fun p => { p with st := 2, width := w }) n
  else d

def execFabricPortTrain (port : Nat) (s : State) : Host.Outcome State Fault Refusal := run s fun d => fabricPortTrain d port

/-- HOST_LINK_TRAIN: `lanes` has a bit for each lane that trained. -/
def hostLinkTrain (d : Dev) (lanes : Nat) : Dev :=
  if portEnabled d 56 ∧ portMode d 56 = 0 ∧ (port d 56).st ≠ 2 ∧ d.obs.stage = 2 then
    let d := modPort d 56 fun p => { p with removed := (laneMask d 56).filter fun l => !bit lanes l }
    let w := widthFor 56 (usableLanes d 56).length
    if w = 0 then modPort d 56 fun p => { p with st := 1 }
    else setCost (modPort d 56 fun p => { p with st := 2, width := w }) 56
  else d

def execHostLinkTrain (lanes : Nat) (s : State) : Host.Outcome State Fault Refusal := run s fun d => hostLinkTrain d lanes

/-- PARTNER_TRAINING_DETECT (R651): the device leaves DORMANT. -/
def partnerTrainingDetect (d : Dev) (n : Nat) : Dev :=
  if n < 56 ∧ d.pwr.st = 2 ∧ portEnabled d n then wake d else d

def execPartnerTrainingDetect (port : Nat) (s : State) : Host.Outcome State Fault Refusal :=
  serve s fun d => partnerTrainingDetect d port

/-! ## Replay, credits and the card's rate (R451, R452, R541, R542) -/

/-- LINK_REPLAY: each replay is counted; what is resent is the flits that the sender still holds. -/
def linkReplay (d : Dev) (n : Nat) : Dev :=
  if (port d n).st = 2 ∧ n ≤ 56 then bump d (if n = 56 then Addr.HLK_REPLAY_CNT else Addr.FAB_REPLAY_CNT n) else d

def execLinkReplay (port _fromSeq : Nat) (s : State) : Host.Outcome State Fault Refusal := run s fun d => linkReplay d port

/-- R451: flits of a port that its partner has not acknowledged. -/
def flitsHeld (p : Port) : Nat := (p.flitSeq + 2 ^ 24 - p.unacked) % 2 ^ 24

/-- Flit `seq` is among those held. -/
def flitHeld (p : Port) (seq : Nat) : Bool := decide ((seq + 2 ^ 24 - p.unacked) % 2 ^ 24 < flitsHeld p)

/-- R451: the flits up to `ack` leave the replay buffer, and with them the messages that end there. -/
def ackFlits (p : Port) (ack : Nat) : Port :=
  if flitHeld p ack then
    let p := { p with unacked := (ack + 1) % 2 ^ 24 }
    { p with replayBuf := p.replayBuf.filter fun q => flitHeld p q.1 }
  else p

/-- CREDIT_RETURN: credits per VC, and the highest flit sequence received. -/
def creditReturn (d : Dev) (n ack : Nat) (cs : List Nat) : Dev :=
  if (port d n).st = 2 ∧ n ≤ 56 then
    modPort d n fun p => ackFlits { p with credits := p.credits.zipIdx.map fun (c, k) => c + cs.getD k 0 } ack
  else d

def execCreditReturn (port ackSeq : Nat) (credits : List Nat) (s : State) : Host.Outcome State Fault Refusal :=
  run s fun d => creditReturn d port ackSeq credits

/-- CARD_RATE_CHANGE: RATE is 1 to 183. -/
def cardRateChange (d : Dev) (rate : Nat) : Dev :=
  if 1 ≤ rate ∧ rate ≤ 183 then setCost { d with host.cardRate := rate } 56 else d

def execCardRateChange (rate : Nat) (s : State) : Host.Outcome State Fault Refusal := run s fun d => cardRateChange d rate

/-! ## FABRIC_ROUTE_SET (R456, R569) -/

def fabricRouteSet (d : Dev) (h : CmdHdr) (index role mask addr : Nat) : Dev :=
  onChannel d h 0x0705 true fun d =>
    checked d h 0x0705
      [(decide (4063 < index), stw stParam 6), (decide (1 < role), stw stParam 7), (decide (2 ^ 24 ≤ addr), stw stParam 9)]
      fun d => reply (setRoute d index (if role = 0 then none else some ⟨addr, 1, mask⟩)) h 0x0705 stOk

def execFabricRouteSet (h : CmdHdr) (index role planeMask addr : Nat) (s : State) : Host.Outcome State Fault Refusal :=
  serve s fun d => fabricRouteSet d h index role planeMask addr

end Sys2Proof.Machine
end

