-- ==== Sys2Proof/Machine/Traffic.lean ====
section
/-!
DEFINITION. Sys2Proof/Machine/Traffic.lean: the traffic scheduler: SHAPER_CONFIG and SHAPER_MODE, the calendar wheel's
handovers and the ports' transmissions (R479 to R501, R66, R129, R516).
-/

namespace Sys2Proof.Machine

/-! ## SHAPER_CONFIG and SHAPER_MODE (R486, R487, R497) -/

/-- Subscribers of a mode (R497). -/
def modeSubs (full : Bool) : Nat := if full then 32768 else 512

/-- Some message waits in a queue of subscribers [base, base + n). -/
def queuedIn (d : Dev) (base n : Nat) : Bool :=
  (d.tsh.queues.any fun q => inRange base n (q.1 / 8) && !q.2.isEmpty) ||
  d.tsh.held.any fun m => inRange base n (m.queue / 8)

/-- R486: COST and BURST of a queue or subscriber. -/
def costBad (c : Nat) : Bool := decide (0x03200000 < c)
def burstBad (b : Nat) : Bool := decide (16777216 < b)

/-- The shapers of a SHAPER_CONFIG, E not yet known. -/
def subOfCfg (c : ShaperCfg) : Sub :=
  { bytes := c.subBytes, sh := ⟨c.subCost, c.subBurst, 0⟩, classes := c.classes.map fun q => ⟨q.1, q.2, 0⟩ }

/-- The subscriber range of partition p, as the changes that count from the next boundary leave it. -/
def subRange (d : Dev) (p : Nat) : Nat × Nat := match (d.tsh.changes.filter fun c => c.1 == p).getLast? with
  | some c => (c.2.1, c.2.2.1)
  | none => ((part d p).subBase, (part d p).flowGroups)

/-- SHAPER_CONFIG. -/
def shaperConfig (d : Dev) (h : CmdHdr) (p : Nat) (c : ShaperCfg) : Dev :=
  onChannel d h 0x0706 true fun d =>
    let q := part d p
    let move := (c.subBase, c.flowGroups) != subRange d p
    checked d h 0x0706
      ([(q.st == .unconfigured, stw stParam 6), (c.flowGroups == 0 || decide (64 < c.flowGroups), stw stParam 7),
       ((d.parts.any fun o => o.1 != p && overlap c.subBase c.flowGroups (subRange d o.1).1 (subRange d o.1).2) ||
        decide (modeSubs d.tsh.full < c.subBase + c.flowGroups), stw stParam 8),
       (decide (c.flowGroups ≤ c.flow), stw stParam 9),
       (decide (c.subBytes < 2 ^ 20) || decide (2 ^ 34 < c.subBytes), stw stParam 11),
       (costBad c.subCost, stw stParam 12), (burstBad c.subBurst, stw stParam 13)] ++ (c.classes.zipIdx.map fun (x, k) => [(costBad x.1, stw stParam (14 + 2 * k)), (burstBad x.2, stw stParam (15 + 2 * k))]).flatten ++
       [(move && queuedIn d q.subBase q.flowGroups, stw stRetry 0)])
      fun d => reply { d with tsh.changes := d.tsh.changes ++ [(p, c.subBase, c.flowGroups, c.subBase + c.flow, subOfCfg c)] }
        h 0x0706 stOk

def execShaperConfig (h : CmdHdr) (partitionT : Nat) (c : ShaperCfg) (s : State) : Host.Outcome State Fault Refusal :=
  serve s fun d => shaperConfig d h partitionT c

/-- R486: a change takes effect and leaves E as it is; subscribers that newly enter the range start unshaped (R487). -/
def applyShaper (d : Dev) (x : Nat × Nat × Nat × Nat × Sub) : Dev :=
  let (p, base, n, sb, v) := x
  let q := part d p
  let fresh := (List.range n).filterMap fun k => if inRange q.subBase q.flowGroups (base + k) then none else some (base + k)
  let d := { d with tsh.subs := fresh.foldl (fun t k => tset t k Sub.initial) d.tsh.subs }
  let d := modPart d p fun q => { q with subBase := base, flowGroups := n }
  let old := sub d sb
  let v := { v with sh := { v.sh with e := old.sh.e },
                    classes := v.classes.zipIdx.map fun (c, k) => { c with e := ((nth old.classes k).map (·.e)).getD 0 } }
  { d with tsh.subs := tset d.tsh.subs sb v }

/-- The changes that count from this boundary. -/
def applyShapers (d : Dev) : Dev := d.tsh.changes.foldl applyShaper { d with tsh.changes := [] }

/-- Some queue of the device holds a message. -/
def anyQueued (d : Dev) : Bool := (d.tsh.queues.any fun q => !q.2.isEmpty) || !d.tsh.held.isEmpty

/-- SHAPER_MODE. -/
def shaperMode (d : Dev) (h : CmdHdr) (mode : Nat) : Dev :=
  onChannel d h 0x0707 true fun d =>
    checked d h 0x0707
      [(decide (1 < mode), stw stParam 6), (anyQueued d, stw stRetry 0),
       (d.parts.any fun q => q.2.st != .unconfigured &&
          decide (modeSubs (mode == 1) < (subRange d q.1).1 + (subRange d q.1).2), stw stParam 6)]
      fun d => reply { d with tsh.full := mode == 1 } h 0x0707 stOk

def execShaperMode (h : CmdHdr) (mode : Nat) (s : State) : Host.Outcome State Fault Refusal :=
  serve s fun d => shaperMode d h mode

/-! ## TRAFFIC_HANDOVER (R489, R492 to R496) -/

/-- R493: when scheduler time crosses a span, its bucket moves into the wheel. -/
def moveBuckets (d : Dev) (now : Nat) : Dev :=
  let due := d.tsh.overflow.filter fun q => decide (q.2 / 65536 ≤ now / 65536)
  { d with tsh.overflow := d.tsh.overflow.filter (fun q => !decide (q.2 / 65536 ≤ now / 65536)), tsh.wheel := d.tsh.wheel ++ due }

/-- R128: a park or a slot copy moves in a data mover's SVC slot; a thaw's read moves no page. -/
def moverWaits (d : Dev) (x : Xfer) : Bool :=
  (x.kind == .park || x.kind == .slotCopy || x.kind == .slotCopyWrite) && match desc d x.addr with
    | some q => !svcSlot d .mover q.own
    | none => false

/-- R129: a tier message to a slot with 4,096 transfers outstanding waits, and one whose data mover has no slot (R128). -/
def tierBlocked (d : Dev) (m : Msg) : Bool :=
  !m.host && (m.op == 0x10 || m.op == 0x11) && match d.pg.xfers.find? fun x => x.tag == m.tag with
    | some x => moverWaits d x || decide (4096 ≤ (d.pg.xfers.filter fun y => slotOf y.addr == slotOf x.addr && y.sent).length)
    | none => false

/-- The head of queue q can be served: a port reaches its destination and nothing of R129 holds it. -/
def servable (d : Dev) (q : Nat) : Bool := match queue d q with
  | m :: _ => (headPort d m).isSome && !tierBlocked d m && !waitsWindow d m
  | [] => false

/-- R494: the order of due entries: entry time, class, queue. -/
def entryBefore (a b : Nat × Nat) : Bool :=
  decide (a.2 < b.2) || (a.2 == b.2 && (decide (a.1 % 8 < b.1 % 8) || (a.1 % 8 == b.1 % 8 && decide (a.1 ≤ b.1))))

/-- The entry that the scheduler serves next at `now`. -/
def nextEntry (d : Dev) (now : Nat) : Option (Nat × Nat) :=
  (sortBy entryBefore (d.tsh.wheel.filter fun e => decide (e.2 ≤ now) && servable d e.1)).head?

/-- R485, R489: every shaper in the message's path is charged; ATTN_REPLY charges its port alone. -/
def chargeAll (d : Dev) (q p now len : Nat) : Dev :=
  let d := { d with tsh.ports := tset d.tsh.ports p ((portShaper d p).charge now len) }
  if q % 8 = 0 then d
  else
    let s := sub d (q / 8)
    let s := { s with sh := s.sh.charge now len, classes := modNth s.classes (q % 8 - 1) fun c => c.charge now len }
    { d with tsh.subs := tset d.tsh.subs (q / 8) s }

/-- R32, R66: an ATTN_RSP leaves at scheduler time `now`, 15 cycles a step (R493): one whose deadline has passed is late. -/
def responseLeaves (d : Dev) (now : Nat) (m : Msg) : Dev :=
  let d := if (expiredAt d .response m.ref).isSome then
      countEvent (bump (stampAt d 23 0x11 0 m.part m.handle (now % 2048 * 15)) Addr.FSQ_LATE_RSP_CNT) m.part 5 1
    else d
  dropTimer d .response m.ref

/-- R516: a Lahar message leaves: the timers of its record run from here. -/
def laharLeaves (d : Dev) (m : Msg) : Dev :=
  let d := { d with lah.lastSent := d.tick }
  let rel := m.op == 0x22
  if field m.body 4 2 = 0 then d
  else addTimer d (resendKind rel) (d.tick + resendTicks d rel) m.ref m.part

/-- R129, R157: a tier message leaves: its transfer is outstanding from here. -/
def tierLeaves (d : Dev) (m : Msg) : Dev :=
  { d with pg.xfers := d.pg.xfers.map fun x => if x.tag = m.tag then { x with sent := true, issued := d.tick } else x }

/-- What a message's handover does beside the shapers. -/
def leaves (d : Dev) (now : Nat) (m : Msg) : Dev :=
  if m.host then
    { d with host.chans := tmod d.host.chans m.dest fun c => { c with outWin := c.outWin - m.len / 16 } }
  else match m.op with
    | 0x02 => responseLeaves d now m
    | 0x10 | 0x11 => tierLeaves d m
    | 0x20 | 0x22 => laharLeaves d m
    | _ => d

/-- R496: held messages try again, in their order. -/
def retryHeld (d : Dev) : Dev :=
  d.tsh.held.foldl (fun d m =>
    if m.op = 0x21 ∧ !m.host then sendDirect d m
    else if overLimit d m then { d with tsh.held := d.tsh.held ++ [m] } else pushQueue d m) { d with tsh.held := [] }

/-- The head message of queue q goes to port p. -/
def handOver (d : Dev) (q p now : Nat) (m : Msg) : Dev :=
  let rest := (queue d q).drop 1
  let d := { d with tsh.queues := if rest.isEmpty then tdel d.tsh.queues q else tset d.tsh.queues q rest }
  let d := chargeAll d q p now m.len
  let d := modPort d p fun x => { x with fifos := modNth x.fifos m.cls fun f => f ++ [m] }
  noteDepth (retryHeld (enterQueue (leaves d now m) q now)) q

/-- TRAFFIC_HANDOVER at scheduler time `now`, which lies in this tick and does not go back. -/
def trafficHandover (d : Dev) (q now : Nat) : Dev :=
  if now / 2048 ≠ d.tick ∨ now < d.tsh.clock then d
  else
    let d := moveBuckets { d with tsh.clock := now } now
    match nextEntry d now with
    | some (k, e) =>
      if k ≠ q then d
      else
        let d := { d with tsh.wheel := d.tsh.wheel.filter fun w => w.1 != q }
        let d := if e + 1 ≤ now then bump d Addr.TSH_LATE_CNT else d
        match queue d q with
        | m :: _ => match canHand d q now m with
          | some p => handOver d q p now m
          | none => enterQueue (bump d Addr.TSH_REENTER_CNT) q now
        | [] => d
    | none => d

def execTrafficHandover (queue now : Nat) (s : State) : Host.Outcome State Fault Refusal :=
  serve s fun d => trafficHandover d queue now

/-! ## PORT_TRANSMIT (R448, R451, R452, R490) -/

/-- Chunks of a message (R450). -/
def chunksOf (m : Msg) : Nat := ceilDiv m.len 16

/-- Flits of the rest of a message that goes on at the first chunk of a flit. -/
def flitsOf (m : Msg) : Nat := ceilDiv (chunksOf m - m.gone) 37

/-- The virtual channel of a message on its port (R452, R539). -/
def vcOn (m : Msg) : Nat := if m.host then 1 else vcOf m.op m.flags

/-- The heads of a port's FIFOs in class order. -/
def fifoHeads (p : Port) : List (Nat × Msg) := p.fifos.zipIdx.filterMap fun (f, k) => match f with
  | m :: _ => some (k, m)
  | [] => none

/-- R450: what goes next on a virtual channel: the message under way on it, else the first head in class order. -/
def nextOn (p : Port) (vc : Nat) : Option (Nat × Msg) :=
  let l := (fifoHeads p).filter fun q => vcOn q.2 == vc
  match l.find? fun q => decide (0 < q.2.gone) with
  | some q => some q
  | none => l.head?

/-- R490: the first FIFO, in class order, whose head can go: its virtual channel has a credit and no other message under way. -/
def readyFifo (p : Port) : Option (Nat × Msg) :=
  (fifoHeads p).find? fun q => decide (0 < p.credits.getD (vcOn q.2) 0) && nextOn p (vcOn q.2) == some q

/-- `n` further chunks of the head of FIFO k have gone in flit `seq`: a message that is whole leaves the FIFO and is kept until that flit
is acknowledged. -/
def chunksGo (p : Port) (k n seq : Nat) (m : Msg) : Port :=
  if m.gone + n < chunksOf m then { p with fifos := modNth p.fifos k fun f => { m with gone := m.gone + n } :: f.drop 1 }
  else { p with fifos := modNth p.fifos k (·.drop 1), replayBuf := p.replayBuf ++ [(seq, { m with gone := 0 })] }

/-- R450: the runs of chunks (message, first chunk, chunks) that fill flit `seq` of a virtual channel: the message under way, then up to
`starts` new ones, while chunks are left. -/
def fillFlit (vc seq : Nat) : Nat → Nat → Nat → Port → List (Msg × Nat × Nat) × Port
  | 0, _, _, p => ([], p)
  | fuel + 1, room, starts, p => match nextOn p vc with
    | none => ([], p)
    | some (k, m) =>
      if room = 0 ∨ (m.gone = 0 ∧ starts = 0) then ([], p)
      else
        let n := min room (chunksOf m - m.gone)
        let r := fillFlit vc seq fuel (room - n) (if m.gone = 0 then starts - 1 else starts) (chunksGo p k n seq m)
        ((m, m.gone, n) :: r.1, r.2)

/-- One flit of a virtual channel: 37 chunks and at most four starts (R448), for one credit. -/
def sendFlit (p : Port) (vc : Nat) : List (Msg × Nat × Nat) × Port :=
  let r := fillFlit vc p.flitSeq 5 37 4 p
  (r.1, { r.2 with flitSeq := (p.flitSeq + 1) % 2 ^ 24, credits := modNth p.credits vc fun c => c - 1 })

/-- At most n flits of a virtual channel, while credits and the replay buffer last (R451, R452). -/
def sendFlits (vc : Nat) : Nat → Port → Port
  | 0, p => p
  | n + 1, p => if p.credits.getD vc 0 = 0 ∨ 512 ≤ flitsHeld p then p else sendFlits vc n (sendFlit p vc).2

/-- PORT_TRANSMIT: the flits of the message that goes next, as far as credits and the replay buffer allow; what is left goes with the next
PORT_TRANSMIT. -/
def portTransmit (d : Dev) (n : Nat) : Dev :=
  let p := port d n
  if p.st ≠ 2 ∨ 56 < n then d
  else match readyFifo p with
    | some (_, m) => modPort d n (sendFlits (vcOn m) (flitsOf m))
    | none => d

def execPortTransmit (port : Nat) (s : State) : Host.Outcome State Fault Refusal := run s fun d => portTransmit d port

end Sys2Proof.Machine
end

