-- ==== Sys2Proof/Machine/Framing.lean ====
section
/-!
DEFINITION. Sys2Proof/Machine/Framing.lean: the bytes on the links: the messages that leave (R459, R545, R552), the flits that carry them
(R448, R450), the codewords of the lanes (R446, R447) and what a receiver takes of them (R451).
-/

namespace Sys2Proof.Machine

/-! ## The bytes of a message (R459, R545, R552) -/

/-- R545: the header of a link message; its KIND stands above the opcode's 16 bits (log 32). -/
def linkHeader (m : Msg) : List Byte :=
  leBytes 2 m.dest ++ leBytes 1 (m.op / 65536) ++ leBytes 1 0 ++ leBytes 4 m.len ++ leBytes 8 0

/-- R552: the header of a packet that the device sends. -/
def packetHeader (m : Msg) : List Byte :=
  leBytes 2 m.op ++ leBytes 1 m.part ++ leBytes 1 m.flags ++ leBytes 4 m.tag ++ leBytes 4 ((m.len - 16) / 16) ++ leBytes 2 m.status ++
  leBytes 2 m.seg

/-- A message as its port sends it. -/
def wireBytes (m : Msg) : List Byte :=
  if m.host then linkHeader m ++ (if m.op < 65536 then packetHeader m else []) ++ m.body
  else fabHeader m.dest m.op m.part m.flags m.len m.tag m.status m.handle ++ m.body

/-! ## Flits (R448, R450) -/

/-- One bit of the division by the ECMA-182 polynomial. -/
def crcBit (c : BitVec 64) : BitVec 64 := if c.msb then c <<< 1 ^^^ 0x42F0E1EBA9EA3693#64 else c <<< 1

/-- R448: CRC-64 with the ECMA-182 polynomial, from 0, the highest bit of a byte first (log 53). -/
def crc64 (l : List Byte) : BitVec 64 :=
  l.foldl (fun c b => (List.range 8).foldl (fun c _ => crcBit c) (c ^^^ ((b.setWidth 64 : BitVec 64) <<< 56))) 0

/-- The chunk indices at which messages begin. -/
def startsOf : Nat → List (Msg × Nat × Nat) → List Nat
  | _, [] => []
  | at', (_, first, n) :: r => if first = 0 then at' :: startsOf (at' + n) r else startsOf (at' + n) r

/-- Bytes 0 to 623 of a flit with these runs of chunks; `credits` and `ack` are what it returns and acknowledges. -/
def flitBody (seq vc ack : Nat) (credits : List Nat) (runs : List (Msg × Nat × Nat)) : List Byte :=
  let starts := startsOf 0 runs
  leBytes 4 (seq % 2 ^ 24) ++ leBytes 1 vc ++ leBytes 1 starts.length ++ leBytes 2 0 ++
  ((List.range 4).map fun i => leBytes 1 (starts.getD i 0xFF)).flatten ++ leBytes 4 0 ++
  ((List.range 4).map fun i => leBytes 2 (credits.getD i 0)).flatten ++ leBytes 4 (ack % 2 ^ 24) ++ leBytes 4 0 ++
  fillTo 592 (runs.map fun q => ((wireBytes q.1).drop (16 * q.2.1)).take (16 * q.2.2)).flatten

/-- R448: the 640 bytes of a flit. -/
def flitBytes (seq vc ack : Nat) (credits : List Nat) (runs : List (Msg × Nat × Nat)) : List Byte :=
  let b := flitBody seq vc ack credits runs
  b ++ leBytes 8 (crc64 b).toNat ++ leBytes 8 0

/-- R448: the lane of a flit: in rotation over the active lanes, in increasing lane number (log 53). -/
def flitLane (d : Dev) (n seq : Nat) : Option Nat :=
  if (lanesInUse d n).isEmpty then none else nth (lanesInUse d n) (seq % (lanesInUse d n).length)

/-- R447: codeword i of a lane's groups is a control codeword. -/
def isControl (i : Nat) : Bool := i % 16 == 15

/-! ## Codewords (R446) -/

/-- The 512 symbols of a flit, 10 bits each from the lowest bit on (log 53). -/
def flitSymbols (l : List Byte) : List Nat := (List.range 512).map fun i => leNat l / 2 ^ (10 * i) % 1024

/-- The flit that data symbols carry. -/
def symbolsFlit (l : List Nat) : List Byte := leBytes 640 (l.zipIdx.map fun q => q.1 % 1024 * 2 ^ (10 * q.2)).sum

/-- R446: the 544 symbols of a flit's codeword. -/
def linkEncode (l : List Byte) : List Nat := rsEncode gf10 32 (flitSymbols l)

/-- α^n, by α^1023 = 1. -/
def alpha10 (n : Nat) : Nat := gfAlpha gf10 (n % 1023)

/-- The locator of symbol j, and its inverse. -/
def symLoc (j : Nat) : Nat := alpha10 (543 - j)
def symLocInv (j : Nat) : Nat := alpha10 (1023 - (543 - j))

/-- The sum of field elements. -/
def gfSum (l : List Nat) : Nat := l.foldl Nat.xor 0

/-- A polynomial (lowest coefficient first) at x. -/
def gfEval (p : List Nat) (x : Nat) : Nat := p.foldr (fun c s => Nat.xor (gfMul gf10 s x) c) 0

/-- The 32 syndromes of a received word. -/
def linkSyndromes (r : List Nat) : List Nat :=
  (List.range 32).map fun k => r.foldl (fun s c => Nat.xor (gfMul gf10 s (alpha10 k)) c) 0

/-- The register of the Berlekamp–Massey algorithm: the connection polynomial and the one before the last change of length, the length,
the steps since, and the discrepancy then. -/
structure Lfsr where
  c : List Nat
  b : List Nat
  len : Nat
  since : Nat
  disc : Nat
  deriving DecidableEq, Repr

/-- c plus q times x^k times b. -/
def addShifted (c b : List Nat) (q k : Nat) : List Nat :=
  let b := List.replicate k 0 ++ b.map (gfMul gf10 q)
  (List.range (max c.length b.length)).map fun i => Nat.xor (c.getD i 0) (b.getD i 0)

/-- Syndrome n enters. -/
def lfsrStep (s : List Nat) (x : Lfsr) (n : Nat) : Lfsr :=
  let d := gfSum ((List.range (x.len + 1)).map fun i => gfMul gf10 (x.c.getD i 0) (s.getD (n - i) 0))
  if d = 0 then { x with since := x.since + 1 }
  else
    let c := addShifted x.c x.b (gfMul gf10 d (gfInv gf10 x.disc)) x.since
    if 2 * x.len ≤ n then ⟨c, x.c, n + 1 - x.len, 1, d⟩ else { x with c := c, since := x.since + 1 }

/-- R446: the error locator polynomial. -/
def errorLocator (s : List Nat) : Lfsr := (List.range 32).foldl (lfsrStep s) ⟨[1], [1], 0, 1, 1⟩

/-- The error at symbol j, a root of the locator. -/
def errorValue (s c : List Nat) (j : Nat) : Nat :=
  let z := symLocInv j
  let num := gfEval ((List.range 32).map fun i => gfSum ((List.range (i + 1)).map fun k => gfMul gf10 (c.getD k 0) (s.getD (i - k) 0))) z
  let den := gfEval (c.zipIdx.map fun q => if q.2 % 2 = 1 then q.1 else 0).tail z
  gfMul gf10 (symLoc j) (gfMul gf10 num (gfInv gf10 den))

/-- R446: a received word corrected in up to 16 symbols; none where it is uncorrectable. -/
def linkDecode (r : List Nat) : Option (List Nat) :=
  let s := linkSyndromes r
  if s.all (· == 0) then some r
  else
    let x := errorLocator s
    let bad := (List.range 544).filter fun j => gfEval x.c (symLocInv j) == 0
    let w := r.zipIdx.map fun q => if bad.contains q.2 then Nat.xor q.1 (errorValue s x.c q.2) else q.1
    if x.len ≤ 16 ∧ bad.length = x.len ∧ (linkSyndromes w).all (· == 0) then some w else none

/-- R451: what a receiver that expects flit `next` takes of a codeword: its flit, or none where the codeword is uncorrectable, the CRC
fails or SEQ has a gap, and the flits from `next` on are asked for again. -/
def linkReceive (next : Nat) (r : List Nat) : Option (List Byte) := (linkDecode r).bind fun w =>
  let l := symbolsFlit (w.take 512)
  if field l 624 8 = (crc64 (l.take 624)).toNat ∧ field l 0 4 % 2 ^ 24 = next then some l else none

end Sys2Proof.Machine
end

