-- ==== Sys2Proof/Machine/Operands.lean ====
section
/-!
DEFINITION. Sys2Proof/Machine/Operands.lean: the bodies of the command packets: their fields, the reserved runs, the
variable parts, and the command that a packet spells (R552 to R573).
-/

namespace Sys2Proof.Machine

/-- A body field of n bytes, or a reserved run. -/
inductive Fld where
  | f (n : Nat)
  | r (n : Nat)
  deriving DecidableEq, Repr

def Fld.size : Fld → Nat
  | .f n => n
  | .r n => n

/-- A command's body: its fields in the table's order, and for a variable part the place of its count field and the bytes
of one element. -/
structure BodyFmt where
  priv : Bool
  flds : List Fld
  var : Option (Nat × Nat)
  deriving DecidableEq, Repr

/-- Bytes of the fixed part. -/
def BodyFmt.fixed (b : BodyFmt) : Nat := (b.flds.map Fld.size).sum

/-- The offset of field k. -/
def BodyFmt.off (b : BodyFmt) (k : Nat) : Nat := ((b.flds.take k).map Fld.size).sum

/-- Field k of a body as a number. -/
def BodyFmt.val (b : BodyFmt) (body : List Byte) (k : Nat) : Nat :=
  field body (b.off k) (((b.flds[k]?).map Fld.size).getD 0)

/-- The bytes of the variable part as its count field gives them. -/
def BodyFmt.varBytes (b : BodyFmt) (body : List Byte) : Nat := match b.var with
  | some (k, n) => b.val body k * n
  | none => 0

/-- The image-delivery forms of R560. -/
def loadBody (priv : Bool) : BodyFmt := ⟨priv, [.f 4, .f 4, .r 8], none⟩
def dataBody (priv : Bool) : BodyFmt := ⟨priv, [.f 4, .f 4, .f 4, .r 4], some (2, 1)⟩
def commitBody (priv : Bool) : BodyFmt := ⟨priv, [.f 4, .r 12, .f 32], none⟩
def dropBody (priv : Bool) : BodyFmt := ⟨priv, [.f 4, .r 12], none⟩

/-- Session and model commands (R562, R564). -/
def bodyOf1 (op : Nat) : Option BodyFmt := match op with
  | 0x0101 => some ⟨false, [.f 1, .f 1, .f 1, .r 1, .f 4, .f 4, .f 2, .f 2], none⟩
  | 0x0102 => some ⟨false, [.f 8, .r 8], none⟩
  | 0x0103 => some ⟨false, [.f 8, .f 8], none⟩
  | 0x0104 => some ⟨false, [.f 8, .f 1, .r 7], none⟩
  | 0x0105 => some ⟨false, [.f 8, .f 1, .f 1, .f 2, .f 2, .r 2, .f 4, .r 12], none⟩
  | 0x0106 => some ⟨false, [.f 8, .f 4, .r 4], none⟩
  | 0x0107 => some ⟨false, [.f 8, .f 1, .f 1, .f 1, .f 1, .f 2, .f 2, .f 4, .f 4, .f 4, .f 4, .f 4, .f 4, .f 8, .f 2, .r 2,
      .f 4, .r 8], none⟩
  | 0x0108 => some ⟨false, [.f 8, .r 8], none⟩
  | 0x0201 => some (loadBody true)
  | 0x0202 => some (dataBody true)
  | 0x0203 => some (commitBody true)
  | 0x0204 => some (dropBody true)
  | 0x0205 => some ⟨true, [.f 1, .r 15, .f 32], none⟩
  | 0x0206 => some ⟨true, [.f 1, .f 1, .f 1, .r 13], none⟩
  | 0x0207 => some (loadBody false)
  | 0x0208 => some (dataBody false)
  | 0x0209 => some (commitBody false)
  | 0x020A => some (dropBody false)
  | 0x020B => some ⟨true, [.f 1, .f 1, .f 1, .f 1, .f 1, .f 1, .f 1, .f 1, .r 8], none⟩
  | 0x020C => some ⟨true, [.f 1, .r 15, .f 128], none⟩
  | _ => none

/-- Prefix, token and retrieval commands (R565 to R567). -/
def bodyOf2 (op : Nat) : Option BodyFmt := match op with
  | 0x0301 => some ⟨false, [.f 8, .f 1, .f 1, .r 2, .f 4, .f 4, .r 12], some (5, 4)⟩
  | 0x0302 => some ⟨false, [.f 8, .f 4, .f 4], some (2, 4)⟩
  | 0x0303 => some ⟨true, [.f 1, .f 1, .r 2, .f 4, .r 8], none⟩
  | 0x0401 => some ⟨false, [.f 8, .f 1, .r 3, .f 4], some (3, 1)⟩
  | 0x0402 => some ⟨false, [.f 8, .f 4, .f 4], none⟩
  | 0x0403 => some ⟨false, [.f 8, .f 1, .f 1, .r 6, .f 128, .f 1280], none⟩
  | 0x0404 => some (loadBody true)
  | 0x0405 => some (dataBody true)
  | 0x0406 => some (commitBody true)
  | 0x0407 => some ⟨true, [.f 1, .f 1, .r 14], none⟩
  | 0x0408 => some (dropBody true)
  | 0x0409 => some (loadBody false)
  | 0x040A => some (dataBody false)
  | 0x040B => some (commitBody false)
  | 0x040C => some (dropBody false)
  | 0x0501 => some ⟨false, [.f 1, .f 1, .f 1, .f 1, .f 2, .f 1, .f 1, .f 1, .r 1, .f 2, .f 4, .f 4, .f 4, .r 8], none⟩
  | 0x0502 => some ⟨false, [.f 4, .r 12], none⟩
  | 0x0503 => some ⟨false, [.f 4, .r 12], none⟩
  | 0x0504 => some ⟨false, [.f 4, .f 2, .r 2, .f 8], some (1, 2)⟩
  | 0x0505 => some ⟨false, [.f 4, .r 4, .f 8], none⟩
  | 0x0506 => some ⟨false, [.f 4, .f 2, .f 2, .f 2, .f 2, .f 2, .r 2, .f 8, .f 8], some (2, 2)⟩
  | _ => none

/-- Recovery, partition, plan, trust and power commands (R568, R569, R572, R573). -/
def bodyOf3 (op : Nat) : Option BodyFmt := match op with
  | 0x0601 => some ⟨true, [.f 4, .f 1, .f 1, .f 2, .f 4, .f 4, .f 2, .r 14], none⟩
  | 0x0602 => some ⟨true, [.r 16], none⟩
  | 0x0603 => some ⟨true, [.f 4, .f 4, .f 5, .f 1, .r 2], none⟩
  | 0x0604 => some ⟨true, [.f 5, .f 1, .r 10], none⟩
  | 0x0605 => some ⟨true, [.f 4, .f 1, .f 1, .f 1, .f 1, .r 8], none⟩
  | 0x0701 => some ⟨true, [.f 1, .f 1, .f 1, .f 1, .f 1, .r 1, .f 2, .f 4, .f 4, .f 4, .f 4, .f 4, .f 4, .f 4, .f 4, .f 2,
      .f 2, .f 1, .r 3], none⟩
  | 0x0702 => some ⟨true, [.f 1, .r 15], none⟩
  | 0x0703 => some ⟨true, [.f 1, .f 1, .r 14], none⟩
  | 0x0704 => some ⟨true, [.f 1, .f 1, .r 2, .f 4, .f 4, .r 4], none⟩
  | 0x0705 => some ⟨true, [.f 2, .f 1, .f 1, .f 4, .r 8], none⟩
  | 0x0706 => some ⟨true, [.f 1, .f 1, .f 2, .f 1, .r 3, .f 8, .f 4, .f 4, .f 4, .f 4, .f 4,
      .f 4, .f 4, .f 4, .f 4, .f 4, .f 4, .f 4], none⟩
  | 0x0707 => some ⟨true, [.f 1, .r 15], none⟩
  | 0x0801 => some ⟨true, [.f 1, .r 3, .f 4, .f 4, .f 4], some (4, 1)⟩
  | 0x0802 => some ⟨true, [.f 8, .r 8], none⟩
  | 0x0803 => some (loadBody true)
  | 0x0804 => some (dataBody true)
  | 0x0805 => some (commitBody true)
  | 0x0806 => some (dropBody true)
  | 0x0808 => some ⟨true, [.f 1, .r 15], none⟩
  | 0x0809 => some (loadBody true)
  | 0x080A => some (dataBody true)
  | 0x080B => some (commitBody true)
  | 0x080C => some ⟨true, [.r 16], none⟩
  | 0x0901 => some ⟨false, [.f 32], none⟩
  | 0x0902 => some ⟨false, [.f 1, .r 1, .f 2, .r 12, .f 1568, .f 48], none⟩
  | 0x0903 => some ⟨true, [.r 16, .f 48], none⟩
  | 0x0A01 => some ⟨false, [.r 16], none⟩
  | 0x0A02 => some ⟨false, [.f 1, .r 3, .f 4, .r 8], none⟩
  | _ => none

/-- The body of an opcode. KERNEL_LAUNCH carries OBJ_COUNT entries, counted at offset 16 of its descriptor (R394, R572). -/
def bodyOf (op : Nat) : Option BodyFmt :=
  if op = 0x0807 then some ⟨true, [.f 64], none⟩
  else ((bodyOf1 op).orElse fun _ => bodyOf2 op).orElse fun _ => bodyOf3 op

/-- Bytes that the variable part must have before padding. -/
def varLength (op : Nat) (b : BodyFmt) (body : List Byte) : Nat :=
  if op = 0x0807 then 16 * field body 16 2 else b.varBytes body

/-- R553, step 1 of R26: LEN against the link message, the fixed part, and the count field. `none` when they agree. -/
def lenCheck (packet : List Byte) : Option Nat :=
  let len := field packet 8 4
  if len = 0 ∨ 65536 < len ∨ 16 * len ≠ packet.length then some (stw stLen 5)
  else match bodyOf (field packet 0 2) with
    | none => none
    | some b =>
      let op := field packet 0 2
      let body := packet.drop 16
      let hasVar := b.var.isSome || op == 0x0807
      if body.length < roundUp b.fixed 16 then some (stw stLen 5)
      else if !hasVar then (if body.length = roundUp b.fixed 16 then none else some (stw stLen 5))
      else if body.length = b.fixed + roundUp (varLength op b body) 16 then none
      else some (stw stLen (match b.var with
        | some (k, _) => 6 + k
        | none => 6))

/-- R387: the reserved bytes of a KERNEL_LAUNCH's object-list entries are zero; R566: those of a STOP_SET's string
entries. -/
def entriesClean (op : Nat) (body : List Byte) : Bool :=
  if op = 0x0807 then (chunks 16 (body.length + 1) (body.drop 64)).all fun e => allZero ((e.drop 1).take 3)
  else if op = 0x0403 then (chunks 80 17 ((body.drop 144).take 1280)).all fun e => allZero ((e.drop 1).take 15)
  else true

/-- The reserved bits of flag bytes: the largest value that the field at offset `off` of an opcode's body may have. -/
def flagLimit (op off : Nat) : Nat := match op, off with
  | 0x0104, 8 => 1
  | 0x0107, 10 => 7
  | 0x0301, 9 => 1
  | 0x0401, 8 => 3
  | 0x0701, 1 => 15
  | 0x0801, 0 => 3
  | _, _ => 255

/-- R566: the ID slots of a STOP_SET beyond IDS are zero, and so are the string entries beyond STRINGS. -/
def slotsClean (body : List Byte) (off : Nat) : Bool :=
  if off = 16 then allZero ((body.drop (16 + 4 * field body 8 1)).take (128 - 4 * field body 8 1))
  else allZero ((body.drop (144 + 80 * field body 9 1)).take (1280 - 80 * field body 9 1))

/-- A field of a body has reserved bits that are not zero. -/
def fieldReserved (op off n : Nat) (body : List Byte) : Bool :=
  (n == 1 && decide (flagLimit op off < field body off 1)) || (op == 0x0403 && decide (16 ≤ off) && !slotsClean body off)

/-- R26 step 4, R556: the first reserved run or reserved bit that is not zero, then the padding of the variable part. -/
def reservedCheck (op : Nat) (b : BodyFmt) (body : List Byte) : Option Nat :=
  let bad := (List.range b.flds.length).find? fun k => match b.flds[k]? with
    | some (Fld.r n) => !allZero ((body.drop (b.off k)).take n)
    | some (Fld.f n) => fieldReserved op (b.off k) n body
    | none => false
  match bad with
  | some k => some (stw stReserved (6 + k))
  | none =>
    if op = 0x0807 && !(allZero ((body.drop 2).take 2) && allZero ((body.drop 19).take 1) && allZero ((body.drop 24).take 8) &&
        allZero ((body.drop 36).take 28)) then some (stw stReserved 6)
    else if !entriesClean op body then some (stw stReserved (if op = 0x0807 then 7 else 11))
    else if allZero (body.drop (b.fixed + varLength op b body)) then none
    else some (stw stReserved (6 + b.flds.length))

/-- Numbers of n bytes each. -/
def numbers (n : Nat) (l : List Byte) : List Nat := (chunks n (l.length + 1) l).map leNat

/-- A binary32 field. -/
def f32Of (v : Nat) : F32 := BitVec.ofNat 32 v

/-- The session and model commands that a body spells. -/
def spell1 (h : CmdHdr) (op : Nat) (v : Nat → Nat) (body var : List Byte) : Option Instr := match op with
  | 0x0101 => some (.sessionCreate h (v 0) (v 1) (v 2) (v 4) (f32Of (v 5)) (v 6) (v 7))
  | 0x0102 => some (.sessionDestroy h (v 0))
  | 0x0103 => some (.sessionFork h (v 0) (v 1))
  | 0x0104 => some (.sessionPark h (v 0) (v 1))
  | 0x0105 => some (.sessionSetSelect h (v 0) (v 1) (v 2) (v 3) (v 4) (f32Of (v 6)))
  | 0x0106 => some (.sessionSetAdapter h (v 0) (v 1))
  | 0x0107 => some (.sessionSetSampling h (v 0)
      { cls := v 1, newGen := v 2, streamOpt := v 3, penScope := v 4, topK := v 5, grammar := v 6, temp := f32Of (v 7),
        topP := f32Of (v 8), minP := f32Of (v 9), repPen := f32Of (v 10), freqPen := f32Of (v 11), presPen := f32Of (v 12),
        seed := v 13, hostTopn := v 14, hostDeadline := v 16 })
  | 0x0108 => some (.sessionInfo h (v 0))
  | 0x0201 => some (.modelLoad h (v 0) (v 1))
  | 0x0202 => some (.modelData h (v 0) (v 1) var)
  | 0x0203 => some (.modelCommit h (v 0) ((body.drop 16).take 32))
  | 0x0204 => some (.modelUnload h (v 0))
  | 0x0205 => some (.modelGrant h (v 0) (BitVec.ofNat 256 (v 2)))
  | 0x0206 => some (.modelBind h (v 0) (v 1) (v 2))
  | 0x0207 => some (.adapterLoad h (v 0) (v 1))
  | 0x0208 => some (.adapterData h (v 0) (v 1) var)
  | 0x0209 => some (.adapterCommit h (v 0) ((body.drop 16).take 32))
  | 0x020A => some (.adapterDrop h (v 0))
  | 0x020B => some (.sinterFormatSet h (v 0) (v 1) (v 2) (v 3) (v 4) (v 5) (v 6) (v 7))
  | 0x020C => some (.sinterMapSet h (v 0) ((body.drop 16).take 128))
  | _ => none

/-- The prefix, token and retrieval commands. -/
def spell2 (h : CmdHdr) (op : Nat) (v : Nat → Nat) (body var : List Byte) : Option Instr := match op with
  | 0x0301 => some (.prefixInsert h (v 0) (v 1) (v 2) (v 4) (numbers 4 var))
  | 0x0302 => some (.prefixAttach h (v 0) (v 1) (numbers 4 var))
  | 0x0303 => some (.prefixDomainConfig h (v 0) (v 1) (v 3))
  | 0x0401 => some (.tokenize h (v 0) (v 1) var)
  | 0x0402 => some (.hostChoice h (v 0) (v 1) (v 2))
  | 0x0403 => some (.stopSet h (v 0) (v 1) (v 2) (numbers 4 ((body.drop 16).take 128))
      ((chunks 80 17 ((body.drop 144).take 1280)).map fun e => (leNat (e.take 1), (e.drop 16).take 64)))
  | 0x0404 => some (.vocabLoad h (v 0) (v 1))
  | 0x0405 => some (.vocabData h (v 0) (v 1) var)
  | 0x0406 => some (.vocabCommit h (v 0) ((body.drop 16).take 32))
  | 0x0407 => some (.vocabAssign h (v 0) (v 1))
  | 0x0408 => some (.vocabUnload h (v 0))
  | 0x0409 => some (.grammarLoad h (v 0) (v 1))
  | 0x040A => some (.grammarData h (v 0) (v 1) var)
  | 0x040B => some (.grammarCommit h (v 0) ((body.drop 16).take 32))
  | 0x040C => some (.grammarDrop h (v 0))
  | 0x0501 => some (.storeCreate h (v 0)
      { metric := v 1, rerankFmt := v 2, rounds := v 3, dim := v 4, dsub := v 5, deg0 := v 6, deg := v 7, efBuild := v 9,
        capacity := v 10, mergeAt := v 11, sideMax := v 12 })
  | 0x0502 => some (.storeDrop h (v 0))
  | 0x0503 => some (.storeMerge h (v 0))
  | 0x0504 => some (.vecInsert h (v 0) (v 1) (v 3) ((numbers 2 var).map (BitVec.ofNat 16)))
  | 0x0505 => some (.vecDelete h (v 0) (v 2))
  | 0x0506 => some (.vecQuery h (v 0)
      { k := v 1, count := v 2, ef := v 3, rerank := v 4, deadline := v 5, filtMask := v 7, filtValue := v 8 }
      ((numbers 2 var).map (BitVec.ofNat 16)))
  | _ => none

/-- The launch descriptor of R394. -/
def launchDescOf (b : List Byte) : LaunchDesc :=
  { package := field b 0 1, pool := field b 1 1, contexts := field b 4 4, argBase := field b 8 4, argStride := field b 12 4,
    objCount := field b 16 2, partition := field b 18 1, budget := field b 20 4, objList := field b 24 8, tag := field b 32 4 }

/-- An object-list entry (R387). -/
def objOf (b : List Byte) : ObjEntry := { type := field b 0 1, index := field b 4 4, handle := field b 8 8 }

/-- Recovery and partition commands. -/
def spell3 (h : CmdHdr) (op : Nat) (v : Nat → Nat) (body : List Byte) : Option Instr := match op with
  | 0x0601 => some (.recoveryGroupSet h (v 0) (v 1) (v 2) (v 3) (v 4) (v 5) (v 6))
  | 0x0602 => some (.failover h)
  | 0x0603 => some (.takeover h (v 0) (v 1) (v 2) (v 3))
  | 0x0604 => some (.checkpointWrite h (v 0) (v 1))
  | 0x0605 => some (.checkpointRestore h (v 0) (v 1) (v 2) (v 3) (v 4))
  | 0x0701 => some (.partitionConfig h (v 0)
      { pflags := v 1, capMode := v 2, publicDomain := v 3, rtvStores := v 4, slotMask := v 6, sessBase := v 7,
        sessCount := v 8, hbmFrames := v 9, tephraUnits := v 10, pfxBuckets := v 11, adpBase := v 12, adpCount := v 13,
        adpQuota := v 14, chanBase := v 15, chanCount := v 16, cmdShare := v 17 })
  | 0x0702 => some (.partitionReset h (v 0))
  | 0x0703 => some (.partitionFence h (v 0) (v 1))
  | 0x0704 => some (.tierTargetConfig h (v 0) (v 1) (v 3) (v 4))
  | 0x0705 => some (.fabricRouteSet h (v 0) (v 1) (v 2) (v 3))
  | 0x0706 => some (.shaperConfig h (v 0)
      { flowGroups := v 1, subBase := v 2, flow := v 3, subBytes := v 5, subCost := v 6, subBurst := v 7,
        classes := (chunks 8 6 ((body.drop 24).take 40)).map fun c => (field c 0 4, field c 4 4) })
  | 0x0707 => some (.shaperMode h (v 0))
  | _ => none

/-- Plan, firmware, trust, telemetry and power commands. -/
def spell4 (h : CmdHdr) (op : Nat) (v : Nat → Nat) (body var : List Byte) : Option Instr := match op with
  | 0x0801 => some (.planLoad h (v 0) (v 2) (v 3) var)
  | 0x0802 => some (.planSwap h (v 0))
  | 0x0803 => some (.kernelLoad h (v 0) (v 1))
  | 0x0804 => some (.kernelData h (v 0) (v 1) var)
  | 0x0805 => some (.kernelCommit h (v 0) ((body.drop 16).take 32))
  | 0x0806 => some (.kernelDrop h (v 0))
  | 0x0807 => some (.kernelLaunch h (launchDescOf body) ((chunks 16 (var.length + 1) var).map objOf))
  | 0x0808 => some (.hbmRetire h (v 0))
  | 0x0809 => some (.fwLoad h (v 0) (v 1))
  | 0x080A => some (.fwData h (v 0) (v 1) var)
  | 0x080B => some (.fwCommit h (v 0) ((body.drop 16).take 32))
  | 0x080C => some (.fwHandover h)
  | 0x0901 => some (.attest h (body.take 32))
  | 0x0902 => some (.keyDeliver h (v 0) (v 2) ((body.drop 16).take 1568) ((body.drop 1584).take 48))
  | 0x0903 => some (.operatorKeySet h ((body.drop 16).take 48))
  | 0x0A01 => some (.telemetryRead h)
  | 0x0A02 => some (.latencyToleranceSet h (v 0) (v 2))
  | _ => none

/-- The command that a packet with agreeing lengths spells. -/
def spell (h : CmdHdr) (packet : List Byte) : Option Instr :=
  let op := field packet 0 2
  let body := packet.drop 16
  match bodyOf op with
  | none => none
  | some b =>
    let v := b.val body
    let var := (body.drop b.fixed).take (varLength op b body)
    (((spell1 h op v body var).orElse fun _ => spell2 h op v body var).orElse fun _ => spell3 h op v body).orElse
      fun _ => spell4 h op v body var

end Sys2Proof.Machine
end

