-- ==== Sys2Proof/Machine/HostLink.lean ====
section
/-!
DEFINITION. Sys2Proof/Machine/HostLink.lean: what the host link brings: PACKET and WINDOW messages, and the firmware's
intake of commands with the checks of the packet (R26, R544 to R556, R559).
-/

namespace Sys2Proof.Machine

/-- Channel c's window message from the device (R546): KIND 1, CREDITS in the body. The KIND stands above the opcode's
16 bits (log 32). -/
def windowMsg (c part credits : Nat) : Msg :=
  { hostMsg 0x10001 part 0 0 c 0 0 0 0 [] with body := leBytes 4 credits ++ leBytes 12 0 }

/-- A reply to a packet whose command is not in processing, in the queue of the channel's partition. KERNEL_LAUNCH always
has its body (R558, R572). -/
def refusePacket (d : Dev) (h : CmdHdr) (p op st : Nat) : Dev :=
  let d := if op = 0x0302 then endGuards d h.seq else d
  enqueue d { replyMsg d h op st 0 0 (if op = 0x0807 then List.replicate 16 0 else []) with queue := 8 * subOf d p 0 + replyClass op }

/-- The header that a packet's command carries. -/
def hdrOf (chan seq tick : Nat) (packet : List Byte) : CmdHdr :=
  ⟨chan, field packet 2 1, field packet 4 4, seq, tick⟩

/-- R279: a SESSION_DESTROY is stamped: earlier attaches are to see its session as it stands now. -/
def destroyStamped (d : Dev) (p handle seq : Nat) : Dev :=
  if p ≠ 0 ∧ hPart handle ≠ p then d
  else match live d handle with
    | some i => guardHolder d i seq
    | none => d

/-- R651: a stamped MODEL_BIND wakes a device in SIMMER. -/
def bindWakes (d : Dev) (op : Nat) : Dev := if op = 0x0206 ∧ d.pwr.st = 1 then wake d else d

/-- PACKET_ARRIVAL: `bytes` is the link message with its header (R545). -/
def packetArrival (d : Dev) (cycle : Nat) (bytes : List Byte) : Dev :=
  if (port d 56).st ≠ 2 ∨ field bytes 4 4 ≠ bytes.length ∨ field bytes 2 1 ≠ 0 then d
  else
    let c := field bytes 0 2
    match tget d.host.chans c with
    | none => bump d Addr.HLK_BAD_CHAN_CNT
    | some ch =>
      let units := bytes.length / 16
      let packet := bytes.drop 16
      if 131072 < ch.inHeld + units then
        let d := bump d Addr.HLK_WINDOW_VIOL_CNT
        if 16 ≤ packet.length then refusePacket d (hdrOf c 0 d.tick packet) ch.part (field packet 0 2) (stw stRetry 0) else d
      else
        let choice := field packet 0 2 == 0x0402
        let seq := d.led.next
        let d := if choice then stampAt d 1 0x04 0 ch.part (field packet 16 8) cycle
          else stampAt d 1 0x01 0 ch.part (field packet 4 4) cycle
        let d := bindWakes d (field packet 0 2)
        let d := { d with host.chans := tset d.host.chans c { ch with inHeld := ch.inHeld + units },
                          host.stamped := d.host.stamped ++ [⟨seq, d.tick, cycle, c, packet⟩] }
        if field packet 0 2 = 0x0102 then destroyStamped d ch.part (field packet 16 8) seq else d

def execPacketArrival (cycle : Nat) (bytes : List Byte) (s : State) : Host.Outcome State Fault Refusal :=
  serve s fun d => packetArrival d cycle bytes

/-- The queues whose head waits for channel c's out-window. -/
def queuesOn (d : Dev) (c : Nat) : List Nat :=
  (d.tsh.queues.filter fun q => match q.2 with
    | m :: _ => m.host && m.dest == c
    | [] => false).map (·.1)

/-- WINDOW: the credits are added, and the channel's waiting queues are evaluated again. -/
def windowArrival (d : Dev) (cycle c credits : Nat) : Dev :=
  if (port d 56).st ≠ 2 then d
  else match tget d.host.chans c with
    | none => bump d Addr.HLK_BAD_CHAN_CNT
    | some ch =>
      let waits := (queuesOn d c).filter fun q => match queue d q with
        | m :: _ => waitsWindow d m
        | [] => false
      let d := stampAt d 1 0x07 0 ch.part c cycle
      let d := { d with host.chans := tset d.host.chans c { ch with outWin := min (ch.outWin + credits) 0xFFFFFFFF } }
      waits.foldl (fun d q => enterQueue d q d.tsh.clock) d

def execWindow (cycle chan credits : Nat) (s : State) : Host.Outcome State Fault Refusal :=
  serve s fun d => windowArrival d cycle chan credits

/-- R26 step 3: the privileges that a body's fields ask for: SCOPE 1 (R573) and a domain (R269) only of partition 0, and what a device
in production test refuses (R630). -/
def bodyPrivilege (d : Dev) (p op : Nat) (body : List Byte) : Option Nat := firstFail
  [(op == 0x0A02 && p != 0 && field body 0 1 == 1, stw stPrivilege 6),
   (op == 0x0301 && p != 0 && field body 8 1 != 255, stw stPrivilege 7),
   (productionTest d && (op == 0x0901 || op == 0x0902), stw stPrivilege 0),
   (productionTest d && op == 0x0701 && field body 0 1 != 0, stw stPrivilege 6)]

/-- The packet's checks up to its TAG, in the order of R26. -/
def packetCheck (d : Dev) (p : Nat) (h : CmdHdr) (packet : List Byte) : Option Nat :=
  let op := field packet 0 2
  match lenCheck packet, bodyOf op with
  | some st, _ => some st
  | none, none => some (stw stOpcode 1)
  | none, some b =>
    match firstFail
      [(h.part != p, stw stPrivilege 2), (b.priv && p != 0, stw stPrivilege 1),
       ((bodyPrivilege d p op (packet.drop 16)).isSome, (bodyPrivilege d p op (packet.drop 16)).getD 0),
       (fenced d p, stw stFenced 0), (field packet 3 1 != 0, stw stReserved 3)] with
    | some st => some st
    | none => match reservedCheck op b (packet.drop 16) with
      | some st => some st
      | none => if h.tag = 0 ∨ d.host.unanswered.contains (h.chan, h.tag) then some (stw stParam 4) else none

/-- One command taken into processing: its units return to the host, and it is refused or stands open. -/
def takeOne (d : Dev) (t : Stamped) : Dev :=
  match tget d.host.chans t.chan with
  | none => d
  | some ch =>
    let units := t.bytes.length / 16 + 1
    let d := { d with host.chans := tset d.host.chans t.chan { ch with inHeld := ch.inHeld - units } }
    let d := modPort d 56 fun x => { x with fifos := modNth x.fifos 0 fun f => f ++ [windowMsg t.chan ch.part units] }
    let d := bump d Addr.HLK_CMD_CNT
    let h := hdrOf t.chan t.seq t.tick t.bytes
    match packetCheck d ch.part h t.bytes with
    | some st => refusePacket d h ch.part (field t.bytes 0 2) st
    | none =>
      { d with host.unanswered := d.host.unanswered ++ [(h.chan, h.tag)],
               host.taken := d.host.taken ++ [⟨h, field t.bytes 0 2, spell h t.bytes⟩] }

/-- R549: stamped before MANIFEST_CUTOFF of the previous tick. -/
def intakeReady (d : Dev) (t : Stamped) : Bool :=
  decide (t.tick + 1 < d.tick) || (t.tick + 1 == d.tick && decide (t.cycle < d.plan.prevCutoff))

/-- The partition of a channel. -/
def chanPart (d : Dev) (c : Nat) : Nat := match tget d.host.chans c with
  | some ch => ch.part
  | none => 0

/-- R549: the commands that this tick takes: at most 64, and of each partition at most its CMD_SHARE. -/
def pickIntake (d : Dev) : List Stamped → List Nat → List Stamped
  | [], _ => []
  | t :: r, used =>
    let p := chanPart d t.chan
    if 64 ≤ used.length then []
    else if intakeReady d t && decide (used.count p < (part d p).cfg.cmdShare) then t :: pickIntake d r (p :: used)
    else pickIntake d r used

/-- COMMAND_INTAKE, once in each tick, on the management cores; none before fumarole service (R657), none while a handover drains
(R663). -/
def commandIntake (d : Dev) : Dev :=
  if d.plan.active.isNone ∨ !mgmtSlot d ∨ d.obs.draining ∨ d.host.lastIntake = some d.tick then d
  else
    let ts := pickIntake d d.host.stamped []
    let d := { d with host.lastIntake := some d.tick, host.stamped := d.host.stamped.filter fun t => !(ts.any fun u => u.seq == t.seq) }
    ts.foldl takeOne d

def execCommandIntake (s : State) : Host.Outcome State Fault Refusal := serve s commandIntake

end Sys2Proof.Machine
end

