-- ==== Sys2Proof/Machine/Plans.lean ====
section
/-!
DEFINITION. Sys2Proof/Machine/Plans.lean: the plan store: delivery, checks and swaps of frame plans (R50 to R58, R433, R437,
R572, R607, R664 to R666), and what a swap changes.
-/

namespace Sys2Proof.Machine

/-! ## PLAN_LOAD -/

/-- The standby bank with a delivery of `total` bytes begun (R572). -/
def clearBank (d : Dev) (total : Nat) : Dev :=
  { d with plan.bank := [], plan.total := total, plan.standbySt := 1, plan.standby := none }

/-- PLAN_LOAD: FIRST clears the bank, FINAL leaves the reply to the end of the checks. A piece other than FIRST goes to a bank
that is LOADING and gives the same TOTAL; none is taken while a check runs or a swap is pending (log 33). -/
def planLoad (d : Dev) (h : CmdHdr) (flags offset total : Nat) (data : List Byte) : Dev :=
  onChannel d h 0x0801 true fun d =>
    let first := bit flags 0
    checked d h 0x0801
      [(decide (3 < flags), stw stReserved 6),
       (!first && d.plan.standbySt != 1, stw stParam 6),
       (offset % 16 != 0, stw stParam 8),
       (!first && d.plan.total != total, stw stParam 9),
       (data.isEmpty || decide (65536 < data.length) || decide (total < offset + data.length), stw stParam 10),
       (d.plan.finalCmd.isSome || d.plan.swapTick.isSome, stw stRetry 0)]
      fun d =>
        let d := if first then clearBank d total else d
        let d := { d with plan.bank := Memory.writeBytes d.plan.bank offset data }
        if bit flags 1 then { d with plan.finalCmd := some h } else reply d h 0x0801 stOk

def execPlanLoad (h : CmdHdr) (plflags offset total : Nat) (data : List Byte) (s : State) :
    Host.Outcome State Fault Refusal :=
  serve s fun d => planLoad d h plflags offset total data

/-! ## The checks (R53, R54, R56, R57) -/

/-- The bytes of the bank. -/
def bankBytes (d : Dev) : List Byte := Memory.readBytes d.plan.bank 0 d.plan.total

/-- The header fields of R56 that the bytes show are those of the plan. -/
def headerIs (b : List Byte) (p : Plan) : Bool :=
  field b 7 1 == p.groupSize && field b 8 8 == p.planId && field b 16 4 == p.retiredMaskId && field b 20 4 == p.slots.length &&
  field b 24 4 == p.cutoff && field b 28 2 == p.thawBudget && ((List.range 8).map fun k => field b (64 + 8 * k) 8) == p.bgAssign

/-- R56: the bytes of section k. -/
def planSection (b : List Byte) (k : Nat) : List Byte :=
  (b.drop (field b (128 + 16 * k) 8)).take (field b (136 + 16 * k) 8)

/-- MAGIC, FORMAT and STEP, with GROUP_SIZE and SLOT_COUNT in range and the reserved bytes zero (log 33). -/
def headerOk (b : List Byte) : Bool :=
  field b 0 4 == 0x4B594850 && field b 4 2 == 0x0003 && field b 6 1 == 0x10 && [1, 2, 4, 8, 16].contains (field b 7 1) &&
  decide (field b 20 4 ≤ 262144) && field b 30 2 == 0

/-- Clusters and pipelines that are RETIRED or in TEST, and pseudo-channels that are RETIRING or RETIRED (R437, R664). -/
def mustRetireClusters (d : Dev) : List Nat := (d.vnt.clusters.filter fun q => q.2 == 2 || q.2 == 3).map (·.1)
def mustRetirePipes (d : Dev) : List Nat := (d.mdl.pipes.filter fun q => q.2.st == 2 || q.2.st == 3).map (·.1)
def mustRetirePcs (d : Dev) : List Nat := (d.hbm.pcs.filter fun q => q.2.st == 2 || q.2.st == 3).map (·.1)

/-- The inventory check of R57: INVENTORY_DIGEST, the retired sets, W_M, and what else of the inventory the checker
compares with the device. -/
def inventoryFits (d : Dev) (b : List Byte) (p : Plan) : Bool :=
  sha256 (planSection b 0) == (b.drop 32).take 32 && p.inventoryOk &&
  (mustRetireClusters d).all p.retiredClusters.contains && (mustRetirePipes d).all p.retiredPipes.contains &&
  (mustRetirePcs d).all p.retiredPcs.contains && decide (p.windowBytes ≤ 100663296)

/-- R51: two slots hold the channels of one stack in one burst. -/
def stackClash (a b : Slot) : Bool :=
  a.stackSet.any fun k => (burstsOf a k).any (burstsOf b k).contains

/-- R51, R53: slot `a` is bound to an HBM channel of which slot `b` holds a burst within a's interval. -/
def channelClash (a b : Slot) : Bool :=
  a.kind == .channel && (burstsOf b (a.unit / 16)).any fun u => overlap a.start a.length (32 * u) 32

/-- R50, R51, R53: two slots of one unit in one tick overlap. -/
def slotsClash (a b : Slot) : Bool :=
  a.index == b.index && overlap a.start a.length b.start b.length &&
  ((a.kind == b.kind && a.unit == b.unit) || stackClash a b || channelClash a b || channelClash b a)

/-- Some two slots of the list clash. -/
def anyClash : List Slot → Bool
  | [] => false
  | a :: r => r.any (slotsClash a) || anyClash r

/-- R49: how many units of a kind the device has; pipelines count as groups. -/
def unitCount (p : Plan) : UnitKind → Nat
  | .pipeline => 64 / max 1 p.groupSize
  | .mover => 16
  | .ventCluster => 64
  | .bankGroup => 16
  | .link => 96
  | .channel => 128
  | .codec => 8
  | .sampler => 16
  | .adc => 16
  | .spmPort => 4
  | .prefixIndex | .modelEngine | .snapshotEngine => 1
  | .mgmtCore => 8

/-- R50: the unit has a slot of its own over the interval of slot s. -/
def unitHeld (p : Plan) (s : Slot) (k : UnitKind) (u : Nat) : Bool :=
  p.slots.any fun x => x.kind == k && x.unit == u && x.index == s.index && x.start == s.start && x.length == s.length

/-- R49, R50: a slot is bound to a unit that the device has, its interval lies on multiples of 32 within the tick, and each bank
group and link that it names has its own slot over the same interval. -/
def slotShapeOk (p : Plan) (s : Slot) : Bool :=
  decide (s.unit < unitCount p s.kind) && s.start % 32 == 0 && s.length % 32 == 0 && decide (32 ≤ s.length) &&
  decide (s.start + s.length ≤ 30720) && decide (s.index < 64) && s.stackSet.all (fun k => decide (k < 8)) &&
  s.bankGroups.all (fun g => decide (g < 16) && unitHeld p s .bankGroup g) &&
  s.links.all fun l => decide (l < 96) && unitHeld p s .link l

/-- R49: the units that the plan gives slots, with their numbers; retired groups and clusters aside. -/
def plannedUnits (p : Plan) : List (UnitKind × Nat) :=
  let g := max 1 p.groupSize
  let out (k : UnitKind) (u : Nat) : Bool := match k with
    | .pipeline => (List.range g).all fun j => p.retiredPipes.contains (u * g + j)
    | .ventCluster => p.retiredClusters.contains u
    | _ => false
  (([.pipeline, .ventCluster, .mover, .bankGroup, .link, .channel, .codec, .sampler, .adc, .spmPort, .prefixIndex, .modelEngine,
     .snapshotEngine, .mgmtCore] : List UnitKind).map fun k =>
    ((List.range (unitCount p k)).filter fun u => !out k u).map fun u => (k, u)).flatten

/-- A BG slot of the unit: a channel also has those that name its whole stack (R51). -/
def bgSlotOf (s : Slot) (u : UnitKind × Nat) : Bool :=
  s.cls == .bg && ((s.kind == u.1 && s.unit == u.2) || (u.1 == .channel && s.stackSet.contains (u.2 / 16)))

/-- R54: the BG slots of a unit take at least 1/64 of its cycles in a frame. -/
def bgShareOk (p : Plan) (u : UnitKind × Nat) : Bool :=
  decide (30720 ≤ ((p.slots.filter fun s => bgSlotOf s u).map (·.length)).sum)

/-- R433: every HBM channel has a BG slot of row-wear management of at least 384 cycles in every tick. -/
def refreshSlotOk (p : Plan) (ch t : Nat) : Bool :=
  p.slots.any fun s => bgSlotOf s (.channel, ch) && s.index == t && s.activity == 2 &&
    decide (384 ≤ s.length)

/-- R62: an FG slot's paired MOVER slot lies on the data mover of its pipeline group, begins with it and is long enough for its
request limit. -/
def pairOk (p : Plan) (s : Slot) : Bool := s.cls != .fg || match s.pair.bind (nth p.slots) with
  | some m => m.cls == .mover && m.kind == .mover && nth p.pairing s.unit == some m.unit && m.index == s.index &&
      m.start == s.start && decide (Config.moverCycles s.limQ ≤ m.length)
  | none => false

/-- The table of R57 after the signature: the first sub-reason that fails, 0 for none. -/
def planDetail (d : Dev) (b : List Byte) (p : Plan) : Nat :=
  if !headerOk b then 1
  else if !inventoryFits d b p then 2
  else if p.slots.any (fun s => !slotShapeOk p s) || anyClash p.slots then 3
  else if (plannedUnits p).any (fun u => !bgShareOk p u) ||
      (List.range 128).any (fun c => (List.range 64).any fun t => !refreshSlotOk p c t) then 4
  else if p.slots.any fun s => !pairOk p s then 5
  else if 30720 < p.ledgerBudget then 6
  else 0

/-- The check has ended: FAILED with a sub-reason, or CHECKED. -/
def planFailed (d : Dev) (h : CmdHdr) (st detail : Nat) : Dev :=
  reply { d with plan.finalCmd := none, plan.standbySt := 3, plan.checkDetail := detail } h 0x0801 st

/-- PLAN_CHECK_DONE: `plan` is what the checker read from the bank; one whose header the bank does not show is none of this
bank's. The checker runs in the management cores' slots (R57). -/
def planCheckDone (d : Dev) (p : Plan) : Dev := match d.plan.finalCmd with
  | none => d
  | some h =>
    if !mgmtSlot d then d else
    let b := bankBytes d
    match signedImage d 1 false true b with
    | none => planFailed d h (stw stSignature 0) 0
    | some (_, blk) =>
      if !headerOk b then planFailed d h (stw stParam 1) 1
      else if !headerIs b p then d
      else match planDetail d b p with
        | 0 => reply { d with plan.finalCmd := none, plan.standbySt := 2, plan.checkDetail := 0,
                              plan.standby := some { p with sigHead := blk.take 48 } } h 0x0801 stOk
        | k => planFailed d h (stw stParam k) k

def execPlanCheckDone (plan : Plan) (s : State) : Host.Outcome State Fault Refusal := serve s fun d => planCheckDone d plan

/-! ## PLAN_SWAP (R58, R291, R657, R665) -/

/-- A thread occupies a context of a cluster that the standby plan retires. -/
def retiredBusy (d : Dev) : Bool :=
  (d.vnt.ctxs.any fun q => decide (q.1 < 65536) && standbyRetires d (q.1 / 16 / 64)) || d.rtv.queries.any fun q => match q.place with
    | some (k, _) => standbyRetires d (k / 1024)
    | none => false

/-- All eight stacks are trained. -/
def allTrained (d : Dev) : Bool := (List.range 8).all fun k => match tget d.hbm.stks k with
  | some x => x.trained
  | none => false

/-- PLAN_SWAP: all ones name the earliest frame boundary that R58 allows. -/
def planSwap (d : Dev) (h : CmdHdr) (tick : Nat) : Dev :=
  onChannel d h 0x0802 true fun d =>
    let t := if tick = 2 ^ 64 - 1 then roundUp (h.tick + 2) 64 else tick
    checked d h 0x0802
      [(d.plan.standbySt != 2, stw stParam 0), (decide (t < h.tick + 2), stw stParam 6),
       ((d.pwr.fumarole && !allTrained d) || !d.mdl.switches.isEmpty || retiredBusy d || d.plan.swapTick.isSome, stw stRetry 0)]
      fun d => reply { d with plan.swapTick := some t, pwr.busyDormant := true } h 0x0802 stOk

def execPlanSwap (h : CmdHdr) (tick : Nat) (s : State) : Host.Outcome State Fault Refusal :=
  serve s fun d => planSwap d h tick

/-! ## A tick without a manifest (R68) -/

/-- R68: the tick runs without dynamic work; the event on input 23 is MANIFEST_MISS. Its OBJECT is the tick that begins without a
manifest: DESIGN CHOICE (log 50). -/
def missManifest (d : Dev) : Dev :=
  let d := unadmit d (manifestReqs d d.plan.latched 1)
  bump (stampAt { d with plan.latched := [], plan.missed := true } 23 0x41 0 0xFF d.tick 0) Addr.FSQ_MANIFEST_MISS_CNT

/-! ## A plan becomes active (R58, R609, R659, R660, R664) -/

/-- R664: clusters and pipelines that the plan lists become RETIRED; a retired pipeline loses its binding. -/
def retireUnits (d : Dev) (p : Plan) : Dev :=
  let d := p.retiredClusters.foldl (fun d c => { d with vnt.clusters := tset d.vnt.clusters c 2 }) d
  p.retiredPipes.foldl (fun d n => { d with mdl.pipes := tset d.mdl.pipes n ⟨2, none⟩ }) d

/-- R609: the capture area's FREE frames are held for partition 0, the old area's are freed; without an area ENABLE clears. -/
def takeCapture (d : Dev) (p : Plan) : Dev :=
  let keep := d.plan.capture.filter p.captureFrames.contains
  let d := freeFrames d (d.plan.capture.filter fun f => !p.captureFrames.contains f)
  let new := p.captureFrames.filter fun f => !keep.contains f && (frame d f).isNone
  let d := new.foldl (fun d f => takeFrame d f 0 false) d
  let d := { d with plan.capture := keep ++ new }
  if p.captureFrames.isEmpty then
    regSet (regSet d Addr.ELG_CAP_CTRL (regGet d Addr.ELG_CAP_CTRL &&& 0x7FFFFFFF)) Addr.TSH_SAMPLE_CTRL
      (regGet d Addr.TSH_SAMPLE_CTRL &&& 0x7FFFFFFF)
  else d

/-- Pipelines and clusters that the plan does not retire leave OFFLINE (R200, R415). -/
def serveUnits (d : Dev) (p : Plan) : Dev :=
  let cs := (List.range 64).filter fun c => !p.retiredClusters.contains c && tgetD d.vnt.clusters c 0 == 0
  let d := cs.foldl (fun d c => { d with vnt.clusters := tset d.vnt.clusters c 1 }) d
  let ps := (List.range 64).filter fun n => !p.retiredPipes.contains n && (pipe d n).st == 0
  ps.foldl (fun d n => setPipe d n { pipe d n with st := 1 }) d

/-- A plan becomes active. -/
def activatePlan (d : Dev) (p : Plan) : Dev :=
  let d := { d with plan.active := some p }
  takeCapture (serveUnits (retireUnits d p) p) p

/-- The pending swap at a frame boundary: the event of a plan swap on input 23, and the end of fumarole service. -/
def swapPlan (d : Dev) : Dev := match d.plan.swapTick, d.plan.standby with
  | some k, some p =>
    if k ≤ d.tick ∧ swapReady d then
      let d := activatePlan { d with plan.standby := none, plan.standbySt := 0, plan.bank := [], plan.swapTick := none,
                                     plan.swaps := (d.plan.swaps + 1) % 65536 } p
      let d := stampAt d 23 0x40 0 0xFF p.planId 0
      let d := if d.pwr.fumarole then { d with pwr.fumarole := false, pwr.migrating := true, pwr.cursor := 0 } else d
      refreshModels d
    else d
  | _, _ => d

end Sys2Proof.Machine
end

