-- ==== Sys2Proof/Machine/Upkeep.lean ====
section
/-!
DEFINITION. Sys2Proof/Machine/Upkeep.lean: the upkeep of the HBM: patrol scrub and refill, refresh, targeted refresh, row
repair, the retirement of a pseudo-channel with the relocation of the band, and the migration out of the fumarole window
(R423, R429 to R441, R658, R660).
-/

namespace Sys2Proof.Machine

/-! ## Patrol scrub (R423, R429 to R432) -/

/-- Ticks of TMC_SCRUB_PERIOD: seconds of 48,828.125 ticks. -/
def scrubPeriod (d : Dev) : Nat := lim d Addr.TMC_SCRUB_PERIOD * 390625 / 8

/-- A count of (place, count) pairs advanced. -/
def countUp {α : Type} [DecidableEq α] (l : List (α × Nat)) (k : α) : List (α × Nat) :=
  if l.any (fun q => decide (q.1 = k)) then l.map fun q => if q.1 = k then (q.1, q.2 + 1) else q else l ++ [(k, 1)]

/-- The count of a place. -/
def countOf {α : Type} [DecidableEq α] (l : List (α × Nat)) (k : α) : Nat :=
  ((l.find? fun q => decide (q.1 = k)).map (·.2)).getD 0

/-- R423: a lane becomes marked; R436: the second mark fails the pseudo-channel. -/
def markLane (d : Dev) (n l : Nat) : Dev :=
  let x := pcAt d n
  if x.mark0 = some l ∨ x.mark1 = some l ∨ x.mark1.isSome then d
  else if x.mark0.isNone then setPc d n { x with mark0 := some l }
  else pcFails (setPc d n { x with mark1 := some l }) n

/-- R430, R423, R435: a codeword corrected and rewritten: each corrected lane is counted, and the row where no mark explains one of
them. -/
def scrubCorrected (d : Dev) (c : CwAddr) (lanes : List Nat) : Dev :=
  let d := clearErrs d c
  let (pc, i) := granuleAt d c.frame c.granule
  let (bank, row) := bankRow d pc i
  let known := marksOf d pc
  let counts := lanes.foldl (fun m l => countUp m (pc, l)) (d.hbm.laneErrs.map fun q => ((q.1, q.2.1), q.2.2))
  let rows := if lanes.all known.contains then d.hbm.rowErrs else
    (countUp (d.hbm.rowErrs.map fun q => ((q.1, q.2.1, q.2.2.1), q.2.2.2)) (pc, bank, row)).map
      fun q => (q.1.1, q.1.2.1, q.1.2.2, q.2)
  let d := { d with hbm.laneErrs := counts.map (fun q => (q.1.1, q.1.2, q.2)), hbm.rowErrs := rows }
  lanes.foldl (fun d l => if 16 ≤ countOf counts (pc, l) then markLane d pc l else d) d

/-- R431: an uncorrectable codeword: a VALID frame with a twin waits for its refill; any other is reported. -/
def scrubBad (d : Dev) (c : CwAddr) : Dev :=
  match frame d c.frame with
  | some x =>
    if x.st = .valid ∧ x.tv then
      (if d.hbm.refills.contains c.frame then d else { d with hbm.refills := d.hbm.refills ++ [c.frame] })
    else noteUncorrectable d c
  | none => d

/-- R429: the scrub reads the frame: it is neither FREE nor RETIRED. -/
def scrubbed (d : Dev) (f : Nat) : Bool := match frame d f with
  | some x => x.st != .retired
  | none => false

/-- One codeword in which the scrub of its stack met errors. -/
def scrubFind (d : Dev) (e : CwErr) : Dev :=
  if !scrubbed d e.cw.frame || !bgOn d 0 (granulePlace d e.cw.frame e.cw.granule).1 then d
  else
    let d := readErrs d e
    let x : CwErr := { e with lanes := errsAt d e.cw }
    if uncorrectable d x then scrubBad d e.cw
    else if rawFrame d e.cw.frame then (if e.sev = 1 then clearErrs d e.cw else d)
    else match decodeCw d x with
      | some (q :: r) => scrubCorrected d e.cw ((q :: r).map (·.1))
      | _ => d

/-- A pass begins: the counts of the last one end. -/
def passBegins (d : Dev) : Dev :=
  { d with hbm.scrubbing := true, hbm.scrubDue := d.tick, hbm.laneErrs := [], hbm.rowErrs := [],
           hbm.pcs := tmap (fun x => { x with uePass := 0 }) d.hbm.pcs }

/-- SCRUB_PASS: what the scrub found in one BG slot. A pass begins when it is due, or at once when the one before ran over
(R432). -/
def scrubPass (finds : List CwErr) (finished : Bool) (d : Dev) : Dev :=
  if !d.hbm.scrubbing ∧ d.tick < d.hbm.scrubDue + scrubPeriod d then d
  else
    let d := if d.hbm.scrubbing then d else passBegins d
    let d := finds.foldl scrubFind d
    if finished then bump { d with hbm.scrubbing := false } Addr.TMC_SCRUB_PASS_CNT else d

def execScrubPass (finds : List CwErr) (finished : Bool) (s : State) : Host.Outcome State Fault Refusal :=
  serve s (background 0 2 true (scrubPass finds finished))

/-- SCRUB_REFILL: the twin of a frame that waits for its refill is read; one without its twin is reported (R431). -/
def scrubRefill (f : Nat) (d : Dev) : Dev :=
  if !d.hbm.refills.contains f ∨ d.pg.xfers.any (fun x => x.kind == .refill && x.frame == f) then d
  else match frame d f with
    | some x =>
      if x.st = .valid ∧ x.tv then issueRead d x.own (mkXfer .refill f x.twin [] 0) else refillEnds d f
    | none => { d with hbm.refills := d.hbm.refills.filter (· != f) }

def execScrubRefill (frame : Nat) (s : State) : Host.Outcome State Fault Refusal :=
  serve s (background 0 2 true (scrubRefill frame))

/-! ## Refresh and row wear (R433 to R435) -/

/-- REFRESH keeps what the rows hold. -/
def execRefresh (_pc : Nat) (s : State) : Host.Outcome State Fault Refusal := serve s (background 2 3 false id)

/-- R434: `n` more activations of a row seen by its bank's tracker of 64 entries; at the threshold a targeted refresh is
queued and the count cleared. -/
def trackRow (pc : Nat) (d : Dev) (a : Nat × Nat × Nat) : Dev :=
  let (bank, row, n) := a
  let mine := fun q : Nat × Nat × Nat × Nat => q.1 == pc && q.2.1 == bank && q.2.2.1 == row
  let old := ((d.hbm.tracker.find? mine).map fun q => q.2.2.2).getD 0
  let known := d.hbm.tracker.any mine
  if !known ∧ 64 ≤ (d.hbm.tracker.filter fun q => q.1 == pc && q.2.1 == bank).length then d
  else if lim d Addr.TMC_ROW_WEAR_THRESH ≤ old + n then
    { d with hbm.tracker := d.hbm.tracker.filter (fun q => !mine q) ++ [(pc, bank, row, 0)],
             hbm.refreshQ := d.hbm.refreshQ ++ [(pc, bank, row, d.tick)] }
  else { d with hbm.tracker := d.hbm.tracker.filter (fun q => !mine q) ++ [(pc, bank, row, old + n)] }

/-- TARGETED_REFRESH: the activations that the trackers of a pseudo-channel saw since the row before, then up to 4 queued
refreshes served. -/
def targetedRefresh (pc : Nat) (acts : List (Nat × Nat × Nat)) (d : Dev) : Dev :=
  let d := acts.foldl (trackRow pc) d
  let due := (d.hbm.refreshQ.filter fun q => q.1 == pc).take 4
  bumpBy { d with hbm.refreshQ := d.hbm.refreshQ.filter fun q => !due.contains q } Addr.TMC_ROW_MITIG_CNT due.length

def execTargetedRefresh (pc : Nat) (acts : List (Nat × Nat × Nat)) (s : State) : Host.Outcome State Fault Refusal :=
  serve s (background 2 2 false fun d => if bgOn d 2 (pc / 32) then targetedRefresh pc acts d else d)

/-- ROW_TRACKER_CLEAR, every 1,536 ticks. -/
def execRowTrackerClear (s : State) : Host.Outcome State Fault Refusal :=
  serve s fun d => if d.tick % 1536 = 0 then { d with hbm.tracker := [] } else d

/-- Codewords that decode are written sealed (R435, R440): their errors are gone. One that does not decode is copied as it is. -/
def sealWhere (d : Dev) (p : CwAddr → Bool) : Dev :=
  { d with hbm.errs := d.hbm.errs.filter fun e => !(p e.cw && (decodeCw d e).isSome) }

/-- ROW_REPAIR: a row with 4 or more codewords whose errors no mark explains; `spare` says whether its bank has a spare
row. The row's contents stay, corrected. -/
def rowRepair (pc bank row : Nat) (spare : Bool) (d : Dev) : Dev :=
  let mine := fun q : Nat × Nat × Nat × Nat => q.1 == pc && q.2.1 == bank && q.2.2.1 == row
  match d.hbm.rowErrs.find? mine with
  | some q =>
    if q.2.2.2 < 4 then d
    else
      let d := { d with hbm.rowErrs := d.hbm.rowErrs.filter fun q => !mine q }
      if spare then
        bump (sealWhere d fun c =>
          let (n, i) := granuleAt d c.frame c.granule
          n == pc && bankRow d n i == (bank, row)) Addr.TMC_ROW_REPAIR_CNT
      else bump d Addr.TMC_ROW_REPAIR_FAIL_CNT
  | none => d

def execRowRepair (pc bank row : Nat) (spare : Bool) (s : State) : Host.Outcome State Fault Refusal :=
  serve s (background 2 2 false fun d => if bgOn d 2 (pc / 32) then rowRepair pc bank row spare d else d)

/-! ## Retirement of a pseudo-channel (R437 to R441) -/

/-- Some other pseudo-channel of the stack is RETIRING or RETIRED. -/
def stackSpent (d : Dev) (pc : Nat) : Bool :=
  d.hbm.pcs.any fun q => q.1 / 32 == pc / 32 && (q.2.st == 2 || q.2.st == 3)

/-- HBM_RETIRE begins the retirement; the first one on the device makes the FREE frames of the band RETIRED. -/
def hbmRetire (d : Dev) (h : CmdHdr) (pc : Nat) : Dev :=
  onChannel d h 0x0808 true fun d =>
    let listed := match d.plan.active with
      | some p => p.retiredPcs.contains pc
      | none => false
    checked d h 0x0808
      [(!listed || (pcAt d pc).st != 1, stw stParam 6), (stackSpent d pc, stw stNoCap 0),
       (d.hbm.retire.isSome || d.pwr.fumarole || d.pwr.migrating, stw stRetry 0)]
      fun d => { setPc d pc { pcAt d pc with st := 2 } with hbm.retire := some ⟨h, pc, 0⟩, hbm.bandOut := true,
                                                            pwr.busyDormant := true }

def execHbmRetire (h : CmdHdr) (pseudoChannel : Nat) (s : State) : Host.Outcome State Fault Refusal :=
  serve s fun d => hbmRetire d h pseudoChannel

/-- Band frames that are in use and stand in the band. -/
def bandInUse (d : Dev) : List Nat :=
  (d.pg.frames.filter fun q => decide (6094848 ≤ q.1) && q.2.st != .retired && (tget d.hbm.reloc q.1).isNone).map (·.1)

/-- R438: the lowest FREE frame below the band for a frame of this LOC and position. -/
def placeBelow (d : Dev) (loc : Bool) (k : Nat) : Option Nat :=
  if loc then (firstFrom (fun r => canTake d true (8 * r + k)) 0 (searchFuel d)).bind fun r =>
    if r < 761856 then some (8 * r + k) else none
  else findUp d 761856 (searchFuel d) 0

/-- R438: clean evictions of POOL pages until a place exists, at most `fuel` of them. -/
def placeOrEvict (d : Dev) (loc : Bool) (k : Nat) : Nat → Option Nat × Dev
  | 0 => (placeBelow d loc k, d)
  | fuel + 1 => match placeBelow d loc k with
    | some g => (some g, d)
    | none => match cleanEvict d fun q => (part d q).cfg.capMode == 0 with
      | some (_, d1) => placeOrEvict d1 loc k fuel
      | none => (none, d)

/-- The retirement ends and the pseudo-channel takes its new state. The band's FREE frames stay RETIRED once a retirement has completed
(R437, R438). -/
def endRetire (d : Dev) (r : Retire) (st code : Nat) : Dev :=
  reply { setPc d r.pc { pcAt d r.pc with st := st } with hbm.retire := none, hbm.bandOut :=
    (st == 3 || d.hbm.pcs.any fun q => q.2.st == 3 && q.1 != r.pc) } r.cmd 0x0808 code

/-- BAND_RELOCATE: one frame of the band takes the place of a FREE frame below it, which becomes RETIRED. -/
def bandRelocate (f : Nat) (d : Dev) : Dev := match d.hbm.retire, frame d f with
  | some r, some x =>
    if !(bandInUse d).contains f then d
    else match placeOrEvict d x.loc (f % 8) 64 with
      | (some g, d) =>
        if (bandInUse d).contains f then
          { setFrame d g ⟨0, .retired, false, false, 0, 0, 0, x.loc, 0⟩ with hbm.reloc := tset d.hbm.reloc f g }
        else d
      | (none, d) => endRetire d r 1 (stw stNoCap 0)
  | _, _ => d

def execBandRelocate (frame : Nat) (s : State) : Host.Outcome State Fault Refusal :=
  serve s (background 2 2 false (bandRelocate frame))

/-- GRANULE_MOVE: the next granules move once the band is relocated; at the last one the pseudo-channel is RETIRED. -/
def granuleMove (n : Nat) (d : Dev) : Dev := match d.hbm.retire with
  | none => d
  | some r =>
    if !(bandInUse d).isEmpty ∨ !bgOn d 2 (r.pc / 32) then d
    else
      let c := min (r.cursor + n) retireGranules
      let d := sealWhere d fun w =>
        let (m, x) := granuleAt d w.frame w.granule
        m == r.pc && decide (r.cursor ≤ x) && decide (x < c)
      if c = retireGranules then endRetire { d with hbm.retired := (d.hbm.retired + 1) % 8 } r 3 stOk
      else { d with hbm.retire := some { r with cursor := c } }

def execGranuleMove (granules : Nat) (s : State) : Host.Outcome State Fault Refusal :=
  serve s (background 2 2 false (granuleMove granules))

/-! ## Migration (R660) -/

/-- Window frames in use that have not been moved. -/
def toMigrate (d : Dev) : List Nat := (d.pg.frames.filter fun q => decide (d.pwr.cursor ≤ q.1) && decide (q.1 < 393216)).map (·.1)

/-- MIGRATING ends with the last window frame in use. -/
def settleMigration (d : Dev) : Dev :=
  if d.pwr.migrating ∧ toMigrate d = [] then { d with pwr.migrating := false, pwr.cursor := 393216 } else d

/-- FRAME_MIGRATE: the lowest window frame in use moves to its place under R420. -/
def frameMigrate (f : Nat) (d : Dev) : Dev :=
  if d.pwr.migrating ∧ (toMigrate d).head? = some f then settleMigration { d with pwr.cursor := f + 1 } else d

def execFrameMigrate (frame : Nat) (s : State) : Host.Outcome State Fault Refusal :=
  serve s (background 2 2 false (frameMigrate frame))

end Sys2Proof.Machine
end

