-- ==== Sys2Proof/Machine/Trust.lean ====
section
/-!
DEFINITION. Sys2Proof/Machine/Trust.lean: firmware images and the hot handover, attestation, keys, telemetry and latency
tolerances (R573, R615 to R649, R661 to R663).
-/

namespace Sys2Proof.Machine

/-! ## Derivations (R623) -/

/-- HMAC-SHA-256 under a key of at most 64 bytes. -/
def hmacSha (key msg : List Byte) : List Byte :=
  let k := fillTo 64 key
  sha256 (k.map (· ^^^ 0x5C) ++ sha256 (k.map (· ^^^ 0x36) ++ msg))

/-- HKDF-SHA-256 with a salt of 32 zero bytes: 32 bytes of output. -/
def hkdf32 (ikm info : List Byte) : List Byte := hmacSha (hmacSha (List.replicate 32 0) ikm) (info ++ [1])

/-- The ASCII bytes of QK960 WRAP. -/
def wrapLabel : List Byte := [0x51, 0x4B, 0x39, 0x36, 0x30, 0x20, 0x57, 0x52, 0x41, 0x50]

/-- R623: the key that a delivery carries, when its tag verifies. -/
def openDelivery (d : Dev) (p kind gen : Nat) (ct wrap : List Byte) : Option (List Byte) :=
  (part d p).kem.bind fun n =>
    let kek := hkdf32 (Config.kemDecaps n ct) (wrapLabel ++ leBytes 1 p ++ leBytes 1 kind ++ leBytes 2 gen)
    Config.gcmOpen kek 0 [] (wrap.take 32) (wrap.drop 32)

/-! ## KEY_DELIVER (R624, R625, R630) -/

/-- R624: what the generation says of a delivery: accepted (`some true`), already held (`some false`), refused. -/
def genOutcome (newest : Option (Nat × List Byte)) (gen : Nat) (key : List Byte) : Option Bool := match newest with
  | none => some true
  | some (g, k) => if precedes 16 g gen then some true else if g = gen ∧ k = key then some false else none

/-- R625: the generations held once `gen` is the newest. -/
def keptTier (ks : List (Nat × Nat × List Byte)) (gen : Nat) : List (Nat × Nat × List Byte) :=
  (ks.filter fun k => decide ((gen + 65536 - k.1) % 65536 < 16)).take 15

/-- KEY_DELIVER. -/
def keyDeliver (d : Dev) (h : CmdHdr) (kind gen : Nat) (ct wrap : List Byte) : Dev :=
  onChannel d h 0x0902 false fun d =>
    if productionTest d then reply d h 0x0902 (stw stPrivilege 0)
    else if 1 < kind then reply d h 0x0902 (stw stParam 6)
    else match openDelivery d h.part kind gen ct wrap with
      | none => reply d h 0x0902 (stw stSignature 11)
      | some key =>
        let q := part d h.part
        let newest := if kind = 0 then (q.tierKeys.head?.map fun k => (k.1, k.2.2)) else q.replKeys.head?
        match genOutcome newest gen key with
        | none => reply d h 0x0902 (stw stParam 8)
        | some false => reply d h 0x0902 stOk
        | some true =>
          let d := modPart d h.part fun q =>
            if kind = 0 then { q with tierKeys := (gen, d.tick, key) :: keptTier q.tierKeys gen }
            else { q with replKeys := (gen, key) :: q.replKeys.take 1 }
          reply d h 0x0902 stOk

def execKeyDeliver (h : CmdHdr) (kind keygen : Nat) (ciphertext wrap : List Byte) (s : State) :
    Host.Outcome State Fault Refusal :=
  serve s fun d => keyDeliver d h kind keygen ciphertext wrap

/-- OPERATOR_KEY_SET (R638). -/
def operatorKeySet (d : Dev) (h : CmdHdr) (key : List Byte) : Dev :=
  onChannel d h 0x0903 true fun d =>
    if d.obs.opKey.isSome then reply d h 0x0903 (stw stParam 7)
    else reply { d with obs.opKey := some key } h 0x0903 stOk

def execOperatorKeySet (h : CmdHdr) (key : List Byte) (s : State) : Host.Outcome State Fault Refusal :=
  serve s fun d => operatorKeySet d h key

/-! ## Measurements and attestation (R640 to R643) -/

/-- R642: SHA-256 of bytes 0 to 47 of the running firmware's, and of the active plan's, signature block. -/
def fwMeasure (d : Dev) : List Byte := sha256 d.obs.running.sigHead
def planMeasure (d : Dev) : List Byte := match d.plan.active with
  | some p => sha256 p.sigHead
  | none => List.replicate 32 0

/-- R635, R643: DIGEST of a committed package's signature block. -/
def pkgDigest (d : Dev) (k : Pkg) : List Byte := sha256 ((imageAll d k.img).take (k.img.length - 32496))

/-- R643: the partition configuration measurement. -/
def configMeasure (d : Dev) (p : Nat) : List Byte :=
  let models := (d.mdl.slots.filter fun q => q.2.img.st == 2 && q.2.mask.getLsbD p).map fun q => q.2.img.digest
  let pkgs := (d.vnt.pkgs.filter fun q => q.2.img.st == 2).map fun q => pkgDigest d q.2
  sha256 ((part d p).config ++ d.obs.opKey.getD (List.replicate 48 0) ++ models.flatten ++ pkgs.flatten)

/-- R642: the flags, bit 0 first in a bit string. -/
def reportFlags (c : PartCfg) : Nat :=
  128 * b01 (bit c.pflags 0) + 64 * b01 (bit c.pflags 1) + 32 * b01 (bit c.pflags 2) + 16 * b01 (bit c.pflags 3) +
  8 * b01 (c.capMode == 1)

/-- A key generation, or −1. -/
def genBytes : Option Nat → List Byte
  | some g => leBytes 4 g
  | none => leBytes 4 0xFFFFFFFF

/-- The report of partition p for a nonce, its fields in the order of R642. -/
def reportOf (d : Dev) (p : Nat) (nonce : List Byte) : List Byte :=
  let q := part d p
  let kem := (q.kem.map Config.kemPublic).getD []
  Config.attestDer (d.obs.aKey.getD 0)
    [leBytes 1 1, leBytes 1 p, leBytes 1 (reportFlags q.cfg), leBytes 1 q.cfg.publicDomain, nonce, fwMeasure d, planMeasure d,
     configMeasure d p, kem, genBytes (q.tierKeys.head?.map (·.1)), genBytes (q.replKeys.head?.map (·.1)),
     leBytes 8 d.tick, leBytes 1 0x10, leBytes 1 Config.grade.toNat]

/-- ATTEST: the core holds at most one unanswered request of a partition. -/
def attest (d : Dev) (h : CmdHdr) (nonce : List Byte) : Dev :=
  onChannel d h 0x0901 false fun d =>
    if productionTest d then reply d h 0x0901 (stw stPrivilege 0)
    else if (part d h.part).attesting.isSome then reply d h 0x0901 (stw stRetry 0)
    else modPart d h.part fun q => { q with attesting := some (h, nonce) }

def execAttest (h : CmdHdr) (nonce : List Byte) (s : State) : Host.Outcome State Fault Refusal :=
  serve s fun d => attest d h nonce

/-- The request of partition p precedes every other in the ledger (R640). -/
def attestFirst (d : Dev) (seq : Nat) : Bool := d.parts.all fun q => match q.2.attesting with
  | some (h, _) => !before h.seq seq
  | none => true

/-- ATTEST_DONE: signing begins and ends with this row (log 34). -/
def attestDone (d : Dev) (p : Nat) : Dev := match (part d p).attesting with
  | none => d
  | some (h, nonce) =>
    if !attestFirst d h.seq then d
    else
      let cert := reportOf d p nonce
      replyBody (modPart d p fun q => { q with attesting := none }) h 0x0901 stOk
        (leBytes 4 cert.length ++ leBytes 12 0 ++ cert)

def execAttestDone (part : Nat) (s : State) : Host.Outcome State Fault Refusal := serve s fun d => attestDone d part

/-! ## TELEMETRY_READ and LATENCY_TOLERANCE_SET (R632, R649) -/

/-- TELEMETRY_READ. -/
def telemetryRead (d : Dev) (h : CmdHdr) : Dev :=
  onChannel d h 0x0A01 false fun d =>
    replyBody d h 0x0A01 stOk
      (leBytes 2 10 ++ leBytes 14 0 ++ ((part d h.part).sampled.map fun v => leBytes 4 (v / 4096 * 4096)).flatten)

def execTelemetryRead (h : CmdHdr) (s : State) : Host.Outcome State Fault Refusal := serve s fun d => telemetryRead d h

/-- LATENCY_TOLERANCE_SET: the value counts from the next tick boundary. -/
def latencyToleranceSet (d : Dev) (h : CmdHdr) (scope us : Nat) : Dev :=
  onChannel d h 0x0A02 false fun d =>
    checked d h 0x0A02
      [(scope == 1 && h.part != 0, stw stPrivilege 6), (decide (1 < scope), stw stParam 6),
       (decide (10000000 < us), stw stParam 8)]
      fun d =>
        let d := if scope = 1 then { d with pwr.tolDevice := us } else modPart d h.part fun q => { q with tol := us }
        reply d h 0x0A02 stOk

def execLatencyToleranceSet (h : CmdHdr) (scope toleranceUs : Nat) (s : State) : Host.Outcome State Fault Refusal :=
  serve s fun d => latencyToleranceSet d h scope toleranceUs

/-! ## Firmware images (R560, R637, R655, R661, R662) -/

/-- The bank that is not running. -/
def standbyBank (d : Dev) : Nat := 1 - d.obs.bank

/-- R662: OBJECT names another bank than the standby bank. -/
def notStandby (d : Dev) (object : Nat) : Bool := object != standbyBank d

/-- FW_LOAD: the image and its signature block; a delivery may begin again while no FW_COMMIT runs. -/
def fwLoad (d : Dev) (h : CmdHdr) (object length : Nat) : Dev :=
  onChannel d h 0x0809 true fun d =>
    checked d h 0x0809
      [(notStandby d object, stw stParam 6), (decide (length < 32560) || decide (16809712 < length), stw stParam 7),
       (d.obs.fwCmd.isSome, stw stRetry 0)]
      fun d => reply { d with obs.fw := ⟨1, length, [], []⟩, obs.fwData := [] } h 0x0809 stOk

def execFwLoad (h : CmdHdr) (object length : Nat) (s : State) : Host.Outcome State Fault Refusal :=
  serve s fun d => fwLoad d h object length

/-- FW_DATA. -/
def fwData (d : Dev) (h : CmdHdr) (object offset : Nat) (data : List Byte) : Dev :=
  onChannel d h 0x080A true fun d =>
    checked d h 0x080A ((notStandby d object, stw stParam 6) :: dataChecks d.obs.fw offset data)
      fun d => reply { d with obs.fwData := Memory.writeBytes d.obs.fwData offset data } h 0x080A stOk

def execFwData (h : CmdHdr) (object offset : Nat) (data : List Byte) (s : State) : Host.Outcome State Fault Refusal :=
  serve s fun d => fwData d h object offset data

/-- R661: the first header field that is wrong, by offset. `blk` is the signature block. -/
def fwHeaderChecks (img blk : List Byte) : List (Bool × Nat) :=
  [(field img 0 4 != 0x57464B51, 0), (field img 4 2 != 1, 4), (field img 6 1 != 0x10, 6), (field img 7 1 != 0, 7),
   (field img 8 2 != field blk 6 2, 8), (field img 14 2 != 0, 14),
   (field img 16 4 != img.length || decide (img.length < 64) || decide (16777216 < img.length), 16),
   (decide (img.length < field img 20 4), 20), (decide (img.length < field img 20 4 + field img 24 4), 24),
   (decide (img.length < field img 28 4), 28), (decide (img.length < field img 28 4 + field img 32 4), 32),
   (!allZero ((img.drop 36).take 28), 36)]

/-- R638: the operator record asks for a co-signature. -/
def cosign (d : Dev) : Bool := match d.nv.opRecord with
  | some (_, p) => bit p 0
  | none => false

/-- The header of an image with its signature block. -/
def fwHdrOf (img blk : List Byte) : FwHdr := ⟨true, field img 8 2, field img 10 2, field img 12 2, blk.take 48⟩

/-- FW_COMMIT: the digest, the header and the signatures; the flash write then runs. -/
def fwCommit (d : Dev) (h : CmdHdr) (object : Nat) (digest : List Byte) : Dev :=
  onChannel d h 0x080B true fun d =>
    let bytes := Memory.readBytes d.obs.fwData 0 d.obs.fw.length
    checked d h 0x080B [(notStandby d object || d.obs.fw.st != 1, stw stParam 6), (d.obs.fwCmd.isSome, stw stRetry 0)] fun d =>
      if sha256 bytes != digest then commitFail d h 0x080B (stw stParam 8) 0xFFFFFFFF
      else
        let n := bytes.length - 32496
        match firstFail (fwHeaderChecks (bytes.take n) (bytes.drop n)) with
        | some off => commitFail d h 0x080B (stw stParam 0) off
        | none => match signedImage d 0 true (cosign d) bytes with
          | none => reply d h 0x080B (stw stSignature 0)
          | some (_, blk) =>
            if field blk 6 2 < d.nv.minSvn then reply d h 0x080B (stw stSignature 0)
            else { d with obs.fwCmd := some h, obs.staged := none }

def execFwCommit (h : CmdHdr) (object : Nat) (digest : List Byte) (s : State) : Host.Outcome State Fault Refusal :=
  serve s fun d => fwCommit d h object digest

/-- What bank b of the boot flash holds. -/
def bankHdr (n : Flash) (b : Nat) : FwHdr := if b = 0 then n.bankA else n.bankB
def setBank (n : Flash) (b : Nat) (x : FwHdr) : Flash := if b = 0 then { n with bankA := x } else { n with bankB := x }

/-- FW_COMMIT_DONE: the image is in the flash and staged, or the comparison failed and the bank holds no image. -/
def fwCommitDone (d : Dev) (bank : Nat) (ok : Bool) : Dev := match d.obs.fwCmd with
  | none => d
  | some h =>
    if bank ≠ standbyBank d then d
    else
      let bytes := Memory.readBytes d.obs.fwData 0 d.obs.fw.length
      let n := bytes.length - 32496
      let hdr := fwHdrOf (bytes.take n) (bytes.drop n)
      let d := { d with obs.fwCmd := none }
      if ok then
        reply { d with obs.fw := { d.obs.fw with st := 2 }, obs.staged := some hdr, nv := setBank d.nv bank hdr } h 0x080B stOk
      else
        reply { d with nv := setBank d.nv bank ⟨false, 0, 0, 0, []⟩ } h 0x080B (stw stInternal 0)

def execFwCommitDone (bank : Nat) (ok : Bool) (s : State) : Host.Outcome State Fault Refusal :=
  serve s fun d => fwCommitDone d bank ok

/-! ## The hot handover (R663) -/

/-- What makes a handover wait. -/
def handoverBars (d : Dev) : Bool :=
  d.pwr.fumarole || d.pwr.migrating || d.plan.swapTick.isSome || !d.mdl.switches.isEmpty || d.hbm.retire.isSome ||
  d.lah.takeover.isSome || !d.lah.jobs.isEmpty || d.parts.any fun q => q.2.st == .resetting

/-- FW_HANDOVER: from here no command is taken. -/
def fwHandover (d : Dev) (h : CmdHdr) : Dev :=
  onChannel d h 0x080C true fun d =>
    let fits := match d.obs.staged with
      | some x => decide (x.stateMin ≤ d.obs.running.stateVersion)
      | none => false
    checked d h 0x080C [(!fits, stw stParam 0), (handoverBars d || d.obs.draining, stw stRetry 0)]
      fun d => { d with obs.draining := true, obs.handover := some h }

def execFwHandover (h : CmdHdr) (s : State) : Host.Outcome State Fault Refusal := serve s fun d => fwHandover d h

/-- Every command taken but the handover itself is answered. -/
def drained (d : Dev) (h : CmdHdr) : Bool := d.host.taken.all fun t => t.h == h

/-- FW_HANDOVER_START, right after the boundary of tick B: B runs without dynamic work, the staged image runs and takes
commands again, and its bank becomes the active one of the boot record. -/
def fwHandoverStart (d : Dev) : Dev := match d.obs.handover, d.obs.staged with
  | some h, some x =>
    if !d.obs.draining ∨ !drained d h then d
    else
      let d := if d.plan.missed then d else missManifest d
      let b := standbyBank d
      let d := { d with obs.draining := false, obs.handover := none, obs.running := x, obs.staged := none, obs.bank := b,
                        obs.fw := ⟨0, 0, [], []⟩, obs.fwData := [], nv := { d.nv with bootBank := b },
                        plan.fwPlan := Config.fumarolePlan x.sigHead }
      reply d h 0x080C stOk
  | _, _ => d

def execFwHandoverStart (s : State) : Host.Outcome State Fault Refusal := serve s fwHandoverStart

end Sys2Proof.Machine
end

