-- ==== Sys2Proof/Machine/Boundary.lean ====
section
/-!
DEFINITION. Sys2Proof/Machine/Boundary.lean: the tick boundary and what happens at it, frame boundaries and the power states,
the start of fumarole service and the end of a wake (R47, R48, R55, R67 to R69, R71, R76, R498, R510, R592, R609, R632, R634,
R648 to R653, R657, R668, R669).
-/

namespace Sys2Proof.Machine

/-! ## Timer expiries (R71, R76, R79) -/

/-- R79: the event type of a timer's expiry. -/
def timerType : TimerKind → Nat
  | .thaw => 0x20
  | .response => 0x21
  | .host => 0x22
  | .epoch | .epochOwn => 0x23
  | .release => 0x24
  | .delta => 0x25
  | .gather => 0x26
  | .budget => 0x27
  | .query => 0x28

/-- R79: PARTITION and OBJECT of a timer's expiry. -/
def timerObject (d : Dev) (t : Timer) : Nat × Nat := match t.kind with
  | .thaw | .response | .host => (hPart t.obj, t.obj)
  | .release | .delta => (t.obj, t.arr)
  | .budget => (((d.vnt.launches.find? fun l => l.cmd.seq == t.arr).map (·.cmd.part)).getD 0xFF, t.obj)
  | .query => (((d.rtv.queries.find? fun q => q.cmd.seq == t.arr).map (·.cmd.part)).getD 0xFF, t.obj)
  | _ => (0xFF, t.obj)

/-- One expiry stamped in cycle 0 of the tick that begins. -/
def stampTimer (d : Dev) (t : Timer) : Dev :=
  let q := d.led.next
  let o := timerObject d t
  let d := stampAt d 0 (timerType t.kind) 0 o.1 o.2 0
  { d with timers := d.timers.map fun x => if x = t then { x with stamp := some q } else x }

/-- R76: the timers due at the boundary that ends tick `t`, in the order of the arrivals they belong to. -/
def dueTimers (d : Dev) (t : Nat) : List Timer :=
  sortBy (fun a b => !before b.arr a.arr) (d.timers.filter fun x => x.stamp.isNone && decide (x.due ≤ t))

/-! ## Manifests (R67 to R69) -/

/-- Admitted requests that no entry of the list holds are offered again. -/
def unadmitOthers (d : Dev) (es : List ManEnt) : Dev :=
  let placed := manifestReqs d es 1
  unadmit d ((d.reqs.filter fun r => r.phase == .admitted && !placed.contains r.seq).map (·.seq))

/-- The sealed manifest is latched from the standby store, its entries of another plan are skipped; a missing one is missed once a
plan is active. -/
def latchManifest (d : Dev) : Dev :=
  let clear := fun d : Dev => { d with
    plan.sealed := none, plan.copying := false, plan.prepared := [], plan.store := [],
    plan.descs := d.plan.descs.filter fun q => d.plan.latched.any fun m => m.desc == q.1 }
  match d.plan.active, d.plan.sealed, d.plan.copying with
  | some p, some _, false =>
    let ok := d.plan.store.filter fun m => m.planId == p.planId
    bumpBy (clear { unadmitOthers d ok with plan.latched := ok, plan.missed := false }) Addr.FSQ_MANIFEST_SKIP_CNT
      (d.plan.store.length - ok.length)
  | some _, _, _ => clear (missManifest (unadmitOthers { d with plan.latched := [] } []))
  | none, _, _ => clear { d with plan.latched := [], plan.missed := true }

/-! ## Upkeep of each tick (R498, R510, R609, R632, R634) -/

/-- One free frame of partition 0 joins the reserve, up to n. -/
def fillReserve : Nat → Dev → Dev
  | 0, d => d
  | n + 1, d => match allocOwn d false 0 with
    | .ok (f, d1) => fillReserve n (modFrame d1 f fun x => { x with st := .reserve })
    | .error _ => d

/-- R510: the reserve is filled, or, for an UNGROUPED device, given back. -/
def refillReserve (d : Dev) : Dev :=
  let free := reserveFree d
  if d.lah.st = 0 then
    { d with pg.frames := (free.take (unpromised d)).foldl (fun t f => tdel t f) d.pg.frames }
  else fillReserve (lim d Addr.LAH_RESERVE_MIN - free.length) d

/-- Records of `w` bytes written into a ring of `cap` records at `base`, the next one at index `pos` mod `cap`. -/
def ringWrite (m : List Host.Cell) (base cap w : Nat) : Nat → List (List Byte) → List Host.Cell
  | _, [] => m
  | pos, b :: r => ringWrite (Memory.writeBytes m (base + w * (pos % cap)) b) base cap w (pos + 1) r

/-- R80, R609: the captured records go to the ring in HBM at ELG_CAP_BASE. -/
def drainLedger (d : Dev) : Dev :=
  if d.led.buf.isEmpty then d
  else
    let n := 2 ^ bits (rd d Addr.ELG_CAP_CTRL) 4 0
    let base := rd d Addr.ELG_CAP_BASE_HI * 2 ^ 32 + rd d Addr.ELG_CAP_BASE_LO
    noteBg 3 { d with pg.hbm := ringWrite d.pg.hbm base n 32 d.led.wptr (d.led.buf.map ledBytes), led.buf := [],
                      led.wptr := (d.led.wptr + d.led.buf.length) % 2 ^ 32 }

/-- R498: the samples that wait go to the ring in HBM at TSH_SAMPLE_BASE. -/
def drainSamples (d : Dev) : Dev :=
  if d.tsh.sampleQ.isEmpty then d
  else
    let n := 2 ^ bits (rd d Addr.TSH_SAMPLE_CTRL) 4 0
    let base := rd d Addr.TSH_SAMPLE_BASE_HI * 2 ^ 32 + rd d Addr.TSH_SAMPLE_BASE_LO
    noteBg 3 { d with pg.hbm := ringWrite d.pg.hbm base n 16 d.tsh.samplePos (d.tsh.sampleQ.map (·.2)), tsh.sampleQ := [],
                      tsh.samplePos := (d.tsh.samplePos + d.tsh.sampleQ.length) % 2 ^ 24 }

/-- R498, R609: the telemetry activity works in its BG slot of the tick that ends. -/
def drainTelemetry (d : Dev) : Dev := if bgSlot d 3 then drainSamples (drainLedger d) else d

/-- R632: the gauges of partition p. -/
def gauges (d : Dev) (p : Nat) : List Nat :=
  let c := (part d p).cfg
  let n := (d.sess.filter fun q => q.2.st != .free && inRange c.sessBase c.sessCount q.1).length
  [n, charged d p, chargedUnits d p]

/-- R632, R634: what a multiple of 1,024 ticks samples. -/
def samplePart (d : Dev) (p : Nat) : Dev :=
  let g := gauges d p
  modPart d p fun q => { q with sampled := g ++ q.events.drop 3,
                                meters := q.meters.zipIdx.map fun (v, k) => if k < 3 then v + g.getD k 0 else v }

def sampleParts (d : Dev) : Dev :=
  ((d.parts.filter fun q => q.2.st != .unconfigured).map (·.1)).foldl samplePart d

/-- R649: the tolerance in force from this boundary; R651: one too low wakes the device. -/
def applyTolerance (d : Dev) : Dev :=
  let t := ((d.parts.filter fun q => q.2.st != .unconfigured).map fun q => q.2.tol).foldl min d.pwr.tolDevice
  let d := { d with pwr.tol := t }
  if (d.pwr.st = 1 ∧ t < 5) ∨ (d.pwr.st = 2 ∧ t < 2000) then wake d else d

/-! ## Frame boundaries -/

/-- R650: what denies SIMMER, or DORMANT, now. -/
def deniesSimmer (d : Dev) : Bool := !d.reqs.isEmpty || !d.mdl.switches.isEmpty
def deniesDormant (d : Dev) : Bool :=
  !d.host.taken.isEmpty || anyQueued d || (d.fab.ports.any fun p => p.2.fifos.any fun f => !f.isEmpty) ||
  !d.pg.xfers.isEmpty || (d.vnt.ctxs.any fun q => decide (q.1 < 65536)) || d.lah.st != 0 || d.pwr.fumarole ||
  d.pwr.migrating || d.plan.swapTick.isSome || d.hbm.retire.isSome

/-- R650: the deepest state that the frame just ended allows. -/
def powerTarget (d : Dev) : Nat :=
  if d.pwr.busySimmer ∨ deniesSimmer d then 0
  else if 2000 ≤ d.pwr.tol ∧ !d.pwr.busyDormant ∧ !deniesDormant d then 2
  else if 5 ≤ d.pwr.tol then 1 else 0

/-- The fabric ports that are UP. -/
def portsUp (d : Dev) : List Nat := (List.range 56).filter fun n => (port d n).st == 2

/-- R648: the device enters SIMMER or DORMANT. -/
def enterPower (d : Dev) (st : Nat) : Dev :=
  let d := { d with pwr.st := st }
  if st = 1 then (portsUp d).foldl rewidth d
  else
    let d := ((List.range 56).filter fun n => (port d n).st != 0 && (port d n).st != 3).foldl
      (fun d n => setCost (modPort d n fun p => { p with st := 0, width := 0 }) n) d
    { d with hbm.stks := tmap (fun x => { x with selfRefresh := true }) d.hbm.stks }

/-- R650 at a frame boundary. -/
def powerStep (d : Dev) : Dev :=
  let t := powerTarget d
  let d := if d.pwr.waking then d
    else if d.pwr.st < t then enterPower d t
    else if t < d.pwr.st then wake d else d
  { d with pwr.busySimmer := deniesSimmer d, pwr.busyDormant := deniesDormant d }

/-- R653; PWR_TEMP_MAX is what the sensors report, a free value (log 4). -/
def throttleStep (d : Dev) : Dev :=
  let t := Config.freeNat d.freeCnt % 256
  let d := freeNext { d with pwr.tempMax := t }
  let top := lim d Addr.PWR_THERM_LIMIT
  { d with pwr.throttle := if top ≤ t then true else if t + 3 ≤ top then false else d.pwr.throttle }

/-- R498: the record of 16 bytes of queue q at the frame of this tick. -/
def sampleRec (d : Dev) (q : Nat) : List Byte :=
  let ms := queue d q
  leBytes 4 q ++ leBytes 4 (min ((ms.map (·.len)).sum) 0xFFFFFFFF) ++ leBytes 2 (min ms.length 0xFFFF) ++
  leBytes 2 (d.tick / 64) ++ leBytes 4 (match ms with
    | m :: _ => min (2048 * d.tick - m.enq) 0xFFFFFFFF
    | [] => 0)

/-- R479: the configured subscribers. -/
def configuredSubs (d : Dev) : List Nat :=
  sortBy (fun a b => decide (a ≤ b)) (((List.range 256).map fun p =>
    (List.range (part d p).flowGroups).map fun k => (part d p).subBase + k).flatten)

/-- R498, in Compact mode with the ring enabled. -/
def sampleQueues (d : Dev) : Dev :=
  let c := rd d Addr.TSH_SAMPLE_CTRL
  if d.tsh.full ∨ !bit c 31 then d
  else
    let new := ((configuredSubs d).map fun s => (List.range 6).map fun c => sampleRec d (8 * s + c)).flatten
    { d with tsh.sampleQ := d.tsh.sampleQ ++ new.map fun b => (d.tick / 64, b) }

/-- Lanes that miss their target (R454, R667). -/
def lanesBehind (d : Dev) : Bool := (List.range 57).any fun n =>
  (port d n).st == 2 && ((lanesInUse d n).any fun l => decide (tgetD (port d n).readapted l 0 + 2 ^ 20 < d.tick)) ||
  (port d n).removedAt.any fun q => decide (q.2 + 64 < d.tick)

/-- R55, R432, R668: the activities that miss their targets; none that the power state or fumarole service stops (R652,
R657), nor one whose page is away (R213). -/
def behindNow (d : Dev) : List Nat :=
  let due := d.hbm.scrubDue + scrubPeriod d
  let stopped := d.pwr.st == 2 || d.pwr.fumarole
  [(0, !stopped && decide ((if d.hbm.scrubbing then due else due + scrubPeriod d) ≤ d.tick)),
   (1, d.pwr.st != 2 && lanesBehind d),
   (2, d.pwr.st != 2 && d.hbm.refreshQ.any fun q => decide (q.2.2.2 + 64 < d.tick)),
   (3, d.tsh.sampleQ.any fun q => decide (q.1 + 2 ≤ d.tick / 64)),
   (4, !stopped && d.vnt.sumQ.any fun j =>
      (residentFrame d j.spn).isSome && decide (j.tick + lim d Addr.MUD_SUM_TARGET < d.tick)),
   (5, !stopped && d.rtv.stores.any fun q => match q.2.mergeCmd with
      | some h => decide (h.tick + 1024 < d.tick)
      | none => false)].filterMap fun q => if q.2 then some q.1 else none

/-- R55: the alert and the event of an activity that was behind for a whole frame. -/
def reportBehind (d : Dev) (a : Nat) : Dev := alert (stampAt d 23 0x42 0 0xFF a 0) 1 a 0xFF

/-- R668, R669: the accounts of the frame just ended. The cycles that an activity used are free values (log 4). -/
def accountFrame (d : Dev) : Dev :=
  let cur := behindNow d
  let d := (cur.filter d.pwr.behind.contains).foldl reportBehind d
  let use := (List.range 7).map fun a => if d.pwr.bgNow.contains a then Config.freeNat (d.freeCnt + a) else 0
  { d with pwr.behind := cur, pwr.bgUse := use, pwr.bgNow := [], freeCnt := d.freeCnt + 7 }

/-- R652: time outside the states that scrub runs in does not count. -/
def holdScrub (d : Dev) : Dev :=
  if d.pwr.st = 2 ∨ d.pwr.fumarole then { d with hbm.scrubDue := d.hbm.scrubDue + 64 } else d

/-- What a frame boundary adds, in the tick that begins. -/
def frameBoundary (d : Dev) : Dev :=
  if d.tick % 64 ≠ 0 then d else sampleQueues (throttleStep (powerStep (accountFrame (holdScrub (swapPlan d)))))

/-! ## TICK_BOUNDARY -/

/-- The tick counter advances; what counts for one tick ends. -/
def nextTick (d : Dev) : Dev :=
  let cut := match d.plan.active with
    | some p => p.cutoff
    | none => 27648
  { d with tick := (d.tick + 1) % 2 ^ 64, plan.prevCutoff := cut, reg.raised := [], reg.eff := d.reg.vals,
           fab.seen := d.fab.seen.filter fun q => decide (d.tick + 1 < q.2.2.2 + 64) }

/-- Samples of every 1,024 ticks. -/
def sampleStepTick (d : Dev) : Dev := if d.tick % 1024 = 0 then sampleParts d else d

/-- TICK_BOUNDARY. -/
def tickBoundary (d : Dev) : Dev :=
  let due := dueTimers d d.tick
  let d := applyTolerance (applyShapers (due.foldl stampTimer (nextTick (drainTelemetry d))))
  settleMigration (sampleStepTick (refillReserve (latchManifest (frameBoundary d))))

def execTickBoundary (s : State) : Host.Outcome State Fault Refusal := run s tickBoundary

/-! ## FUMAROLE_START and WAKE_COMPLETE -/

/-- Stack k is trained. -/
def stackTrained (d : Dev) (k : Nat) : Bool := match tget d.hbm.stks k with
  | some x => x.trained
  | none => false

/-- FUMAROLE_START: the host link is UP and stack 0 trained; the firmware's plan becomes active. -/
def fumaroleStart (d : Dev) : Dev := match d.plan.active, d.plan.fwPlan with
  | none, some p =>
    if (port d 56).st = 2 ∧ stackTrained d 0 then { activatePlan d p with pwr.fumarole := true } else d
  | _, _ => d

def execFumaroleStart (s : State) : Host.Outcome State Fault Refusal := serve s fumaroleStart

/-- WAKE_COMPLETE: the ports get their widths back, or train again (R651). -/
def wakeComplete (d : Dev) : Dev :=
  if !d.pwr.waking then d
  else
    let deep := d.pwr.st == 2
    let d := { d with pwr.st := 0, pwr.waking := false }
    if deep then
      let ns := (List.range 56).filter fun n => portEnabled d n && portMode d n == 0
      { ns.foldl (fun d n => modPort d n fun p => { p with st := 1 }) d with
        hbm.stks := tmap (fun x => { x with selfRefresh := false }) d.hbm.stks }
    else (portsUp d).foldl rewidth d

def execWakeComplete (s : State) : Host.Outcome State Fault Refusal := serve s wakeComplete

end Sys2Proof.Machine
end

