-- ==== Sys2Proof/Machine/Regs.lean ====
section
/-!
DEFINITION. Sys2Proof/Machine/Regs.lean: what each register reads as (R599 to R614 and the register tables of the chapters).
A register that only shows other state is computed here; the others are stored. The outputs of R603, R679 and R693 stand at
the end.
-/

namespace Sys2Proof.Machine

/-! ## Stored and free values -/

/-- A register whose layout or value stands in no file of the spec: a free value (log 4). -/
def freeRegs : List (Nat × Nat) :=
  [(Addr.OBS_BOOT_STATE, 1), (Addr.PWR_RAIL_V 0, 5), (Addr.PWR_RAIL_I 0, 5), (Addr.PWR_CLK_STATE, 1),
   (Addr.TST_MODE, 1), (Addr.TST_BIST_RESULT, 1), (Addr.TST_FUSE_STATUS, 1)]

/-- TMC_PHY_TRAIN, TMC_PHY_TEMP and TMC_PHY_BANKS of each stack. -/
def isPhyRead (a : Nat) : Bool :=
  decide (0x700800 ≤ a) && decide (a < 0x700880) && a % 16 != 0

/-- Counters of physical events that no row of the table brings: corrected and uncorrectable codewords and PRBS bit errors of
the links (R475, R576) and misses of the vocabulary cache (R315). How many events a tick brings is a free value (log 4). -/
def isPhysicalCount (a : Nat) : Bool :=
  (decide (0x301000 ≤ a) && decide (a < 0x301380) && (a % 16 == 8 || a % 16 == 12)) ||
  (decide (0x302000 ≤ a) && decide (a < 0x302700)) || a == Addr.HLK_FEC_CE_CNT || a == Addr.HLK_FEC_UE_CNT ||
  (decide (0x1300100 ≤ a) && decide (a < 0x1300140)) || a == Addr.TOK_CACHE_MISS_CNT

/-- Physical events of `n` ticks from tick t on. -/
def physSum (a t : Nat) : Nat → Nat
  | 0 => 0
  | n + 1 => Config.physEvents a (t + n) + physSum a t n

/-- A counter of physical events: 0 at reset and after each read that clears it, then saturating (R586). -/
def physCount (d : Dev) (a : Nat) : Nat :=
  let t := tgetD d.reg.physFrom a 0
  min (physSum a t (d.tick - t)) 0xFFFFFFFF

/-- The register reads a free value. -/
def isFree (a : Nat) : Bool :=
  isPhyRead a || freeRegs.any fun q => decide (q.1 ≤ a) && decide (a < q.1 + 4 * q.2)

/-- The low and the high word of a 64-bit value, by the register's address. -/
def half (hi : Bool) (v : Nat) : Nat := if hi then v / 2 ^ 32 % 2 ^ 32 else v % 2 ^ 32

/-- The status register of each slow domain (R591): 0 MUD, 1 FAB SerDes, 2 HLK SerDes, 3 TMC HBM PHY, 4 OBS mailbox. -/
def domainStatus (k : Nat) : Nat :=
  [Addr.MUD_STATUS, Addr.FAB_STATUS, Addr.HLK_STATUS, Addr.TMC_STATUS, Addr.OBS_MBOX_STATUS].getD k 0

/-- BUSY of a domain (R591). -/
def domainBusy (d : Dev) (k : Nat) : Bool := (tget d.reg.posted k).isSome

/-- BUSY and DROPPED of a domain's status register. -/
def domainBits (d : Dev) (k : Nat) : Nat :=
  2 ^ 31 * b01 (domainBusy d k) + 2 ^ 30 * b01 (bit (rd d (domainStatus k)) 30)

/-- A set of bit numbers as a number. -/
def bitSet (l : List Nat) : Nat := (l.map fun k => 2 ^ k).sum

/-! ## GLB, FSQ, ELG (R594 to R608) -/

/-- The bytes of an error-log entry (R596). -/
def errBytes (e : ErrEnt) : List Byte :=
  leBytes 4 e.wseq ++ leBytes 2 e.status ++ leBytes 1 e.source ++ leBytes 1 e.part ++ leBytes 8 e.tick ++
  leBytes 6 e.seq ++ leBytes 2 e.unit ++ leBytes 8 e.object

def viewGLB (d : Dev) (o : Nat) : Nat :=
  if 0x10000 ≤ o then
    match tget d.reg.errlog ((o - 0x10000) / 32) with
    | some e => field (errBytes e) (o % 32) 4
    | none => 0
  else if o = 0x0 then 0x0960 * 2 ^ 16 + Config.grade.toNat * 256 + 0x10
  else if o = 0x8 ∨ o = 0xC then half (o == 0xC) Config.serial.toNat
  else if o = 0x10 then d.pwr.straps.toNat
  else if o = 0x30 then d.reg.wptr
  else rd d o

/-- PLAN_ID of a plan that may be absent. -/
def planIdOf (p : Option Plan) : Nat := match p with
  | some q => q.planId
  | none => 0

/-- PLAN_ID of the standby bank; 0 when it is empty. -/
def standbyId (d : Dev) : Nat :=
  if d.plan.standbySt = 0 then 0
  else match d.plan.standby with
    | some p => p.planId
    | none => leNat (Memory.readBytes d.plan.bank 8 8)

/-- The entries of the sealed manifest. -/
def sealedCount (d : Dev) : Nat := match d.plan.sealed with
  | some q => q.2
  | none => 0

def viewFSQ (d : Dev) (o : Nat) : Nat :=
  if o = 0x0 ∨ o = 0x4 then half (o == 0x4) d.tick
  else if o = 0x8 ∨ o = 0xC then half (o == 0xC) (planIdOf d.plan.active)
  else if o = 0x10 ∨ o = 0x14 then half (o == 0x14) (standbyId d)
  else if o = 0x18 then
    d.plan.standbySt * 2 ^ 30 + 2 ^ 29 * b01 d.plan.swapTick.isSome + d.plan.checkDetail * 2 ^ 16 + d.plan.swaps
  else if o = 0x20 ∨ o = 0x24 then half (o == 0x24) (d.plan.swapTick.getD 0)
  else if o = 0x40 then 2 ^ 31 * b01 d.plan.copying + 2 ^ 30 * b01 d.plan.sealed.isSome + sealedCount d % 2 ^ 17
  else rd d (0x100000 + o)

def viewELG (d : Dev) (o : Nat) : Nat :=
  if o = 0xC then d.led.wptr
  else if o = 0x18 ∨ o = 0x1C then half (o == 0x1C) d.led.next
  else rd d (0x200000 + o)

/-! ## FAB, TSH, VNT, SPM (R475 to R478, R500, R501, R414, R415, R610) -/

def viewFAB (d : Dev) (o : Nat) : Nat :=
  if o = 0x0 then domainBits d 1 + (portsUp d).length
  else if 0x1000 ≤ o ∧ o < 0x1380 ∧ o % 16 = 4 then
    let n := (o - 0x1000) / 16
    let p := port d n
    p.st * 2 ^ 29 + p.width * 2 ^ 25 + bitSet (lanesInUse d n) * 2 ^ 17 + bitSet p.failed * 2 ^ 9
  else rd d (0x300000 + o)

/-- R499: the marks of the selected queue. -/
def selectedMarks (d : Dev) : Nat × Nat := tgetD d.tsh.hwm (bits (rd d Addr.TSH_HWM_SEL) 17 0) (0, 0)

def viewTSH (d : Dev) (o : Nat) : Nat :=
  if o = 0x0 then 2 ^ 31 * b01 d.tsh.full + (configuredSubs d).length % 2 ^ 16
  else if o = 0x18 then (selectedMarks d).1
  else if o = 0x1C then (selectedMarks d).2
  else if o = 0x2C then d.tsh.overflow.length
  else rd d (0x400000 + o)

/-- The pool of the active plan that a cluster is in; 0 where it is in none. -/
def clusterPool (d : Dev) (n : Nat) : Nat := match d.plan.active with
  | some p => ((indicesOf (fun l => l.contains n) p.pools).head?).getD 0
  | none => 0

def viewVNT (d : Dev) (o : Nat) : Nat :=
  if o < 0x100 then
    let n := o / 4
    let busy := (d.vnt.ctxs.filter fun q => q.1 / 1024 == n).length + (d.rtv.queries.filter fun q => match q.place with
      | some (k, _) => k / 1024 == n
      | none => false).length
    tgetD d.vnt.clusters n 0 * 2 ^ 30 + clusterPool d n * 2 ^ 24 + busy * 2 ^ 13
  else rd d (0x500000 + o)

/-- The partition that SPM_PART_SEL selects. -/
def selPart (d : Dev) : Nat := bits (rd d Addr.SPM_PART_SEL) 7 0

/-- Sticky frames and copies of partition p (R106). -/
def stickyOf (d : Dev) (p : Nat) : Nat :=
  (d.pg.frames.filter fun q => q.2.own == p && q.2.refcnt == 0xFFFFFF).length +
  (d.pg.descs.filter fun q => q.2.own == p && q.2.refcnt == 0xFFFFFF).length

/-- HBM frames FREE. -/
def freeCount (d : Dev) : Nat :=
  let out := if d.hbm.bandOut then 196608 - (d.pg.frames.filter fun q => decide (6094848 ≤ q.1)).length else 0
  6291456 - d.pg.frames.length - out

def viewSPM (d : Dev) (o : Nat) : Nat :=
  if o = 0xC then (d.sess.filter fun q => q.2.st != .free).length
  else if o = 0x10 then freeCount d
  else if o = 0x14 then d.pg.blocks.length
  else if o = 0x24 then (gauges d (selPart d)).headD 0
  else if o = 0x28 then charged d (selPart d)
  else if o = 0x2C then chargedUnits d (selPart d)
  else if o = 0x30 then stickyOf d (selPart d)
  else rd d (0x600000 + o)

/-! ## TMC, MUD, GEY, SNT (R442 to R444, R162, R163, R416, R417, R225, R199, R200, R254, R255) -/

/-- The trained stacks. -/
def stacksTrained (d : Dev) : List Nat := (List.range 8).filter (stackTrained d)

/-- TMC_PC_STATE_n. -/
def pcWord (x : Pc) : Nat :=
  x.st * 2 ^ 29 + 2 ^ 28 * b01 x.failing + x.mark0.getD 0x3F * 2 ^ 22 + x.mark1.getD 0x3F * 2 ^ 16 + min x.uePass 0xFFFF

/-- TMC_RETIRE_CURSOR. -/
def cursorWord (d : Dev) : Nat := match d.hbm.retire with
  | some r => r.cursor
  | none => 0

def viewTMC (d : Dev) (o : Nat) : Nat :=
  if o = 0x0 then domainBits d 3 + bitSet (stacksTrained d)
  else if 0x100 ≤ o ∧ o < 0x500 then pcWord (pcAt d ((o - 0x100) / 4))
  else if o = 0x530 then cursorWord d
  else if 0x80000 ≤ o ∧ o < 0x80100 then
    let n := (o - 0x80000) / 16
    let t := slot d n
    if o % 16 = 0 then t.st * 2 ^ 29 + min ((d.pg.xfers.filter fun x => slotOf x.addr == n && x.sent).length) 4096 * 2 ^ 16
    else if o % 16 = 4 then t.cap - (usedUnits d n).length
    else if o % 16 = 8 then t.cap
    else rd d (0x700000 + o)
  else if o = 0x80100 then poolFree d
  else rd d (0x700000 + o)

def viewMUD (d : Dev) (o : Nat) : Nat :=
  if o = 0x0 then domainBits d 0 + bitSet ((stacksTrained d).filter fun _ => d.pwr.st != 2)
  else if o = 0x4004 then d.vnt.sumQ.length
  else rd d (0x800000 + o)

def viewGEY (d : Dev) (o : Nat) : Nat :=
  if o < 0x100 then
    let n := o / 4
    let g := match d.plan.active with
      | some p => n / max 1 p.groupSize
      | none => 0
    let x := pipe d n
    x.st * 2 ^ 30 + g * 2 ^ 24 + x.bound.getD 0 * 2 ^ 19 + 2 ^ 18 * b01 x.bound.isSome
  else rd d (0x900000 + o)

/-- DK and DV as R255 codes them. -/
def widthCode (w : Nat) : Nat := if w = 16 then 3 else if w = 8 then 2 else if w = 4 then 1 else 0

/-- SNT_FMT_n of a defined format. -/
def fmtWord (f : Fmt) : Nat :=
  f.run * 2 ^ 28 + widthCode f.dk * 2 ^ 26 + widthCode f.dv * 2 ^ 24 + f.refMax * 2 ^ 16 + f.denseKeep * 2 ^ 8 + 2 ^ 7 +
  f.kind * 2 ^ 6 + f.rounds * 4

def viewSNT (d : Dev) (o : Nat) : Nat :=
  if o < 0x40 then match tget d.snt.fmts (o / 4) with
    | some f => fmtWord f
    | none => 0
  else if o = 0x114 then backlog d
  else rd d (0xA00000 + o)

/-! ## PFX, ADP, TOK, RTV, LAH (R281, R308, R309, R345, R346, R377, R378, R537, R538) -/

def viewPFX (d : Dev) (o : Nat) : Nat := if o = 0x18 then bucketsUsed d else rd d (0xB00000 + o)

/-- ADP_MODEL_STATE_n. -/
def modelWord (d : Dev) (n : Nat) : Nat := match tget d.mdl.slots n with
  | none => 0
  | some m =>
    let last := match m.desc with
      | some ds => if m.img.st = 2 then ds.layers.length - 1 else 0
      | none => 0
    m.img.st * 2 ^ 30 + 2 ^ 29 * b01 ((windowModels d).contains n) + 2 ^ 28 * b01 (hasLatent d n) + last * 2 ^ 20 +
    coreGranules d n * 2 ^ 14

def viewADP (d : Dev) (o : Nat) : Nat :=
  if o < 0x80 then modelWord d (o / 4)
  else if o < 0x100 then (d.sess.filter fun q => q.2.st != .free && q.2.model == (o - 0x80) / 4).length
  else if o = 0x100 then windowSize d
  else if o = 0x104 then windowUsed d
  else if o = 0x110 then (d.adp.cache.filter fun u => u.fwd.isNone).length
  else rd d (0xC00000 + o)

def viewTOK (d : Dev) (o : Nat) : Nat :=
  if o < 0x20 then
    let v := vocab d (o / 4)
    let n := (d.mdl.slots.filter fun q => q.2.vocab == some (o / 4)).length
    v.img.st * 2 ^ 30 + (if v.img.st = 2 then v.entries * 2 ^ 9 + 2 ^ 8 * b01 (v.logitFmt == 0) else 0) + n
  else rd d (0xD00000 + o)

/-- R378's absolute store index: the stores of lower-numbered partitions first (log 35). -/
def absStore (d : Dev) (i : Nat) : Option Nat :=
  (List.range 256).findSome? fun p =>
    let base := ((List.range p).map fun q => (part d q).cfg.rtvStores).sum
    if base ≤ i ∧ i < base + (part d p).cfg.rtvStores then some (storeKey p (i - base)) else none

/-- RTV_STORE_STATUS. A merge round is one step of the model, so that MERGING is never seen (log 35). -/
def storeWord (s : Store) : Nat :=
  s.st * 2 ^ 30 + 2 ^ 29 * b01 s.book.isSome + 2 ^ 27 * b01 (storeForced s) + sideFill s

/-- Side-list entries of a store that no round has linked. -/
def unlinked (s : Store) : Nat := (s.side.filter fun e => match tget s.nodes e.slot with
  | some x => !x.linked
  | none => false).length

def viewRTV (d : Dev) (o : Nat) : Nat :=
  if o = 0x20 then (d.rtv.stores.map fun q => unlinked q.2).sum
  else if o = 0x24 then (d.rtv.stores.filter fun q => q.2.st != 0).length
  else if o = 0x2C then
    match (absStore d (bits (rd d Addr.RTV_STORE_SEL) 9 0)).bind (tget d.rtv.stores) with
    | some s => storeWord s
    | none => 0
  else rd d (0xE00000 + o)

/-- Gated tokens that await their acknowledgement. -/
def heldTokens (d : Dev) : Nat := (d.sess.map fun q => (q.2.ctrl.pend.filter fun t => !t.acked).length).sum

def viewLAH (d : Dev) (o : Nat) : Nat :=
  if o = 0x0 then
    d.lah.st * 2 ^ 29 + d.lah.self * 2 ^ 23 + d.lah.members * 2 ^ 16 +
    2 ^ 15 * b01 (d.lah.members != 0 && d.lah.self == 0) + 2 ^ 14 * b01 d.lah.predSuspect + 2 ^ 13 * b01 d.lah.buddyLost
  else if o = 0x8 ∨ o = 0xC then half (o == 0xC) d.lah.epoch
  else if o = 0x10 ∨ o = 0x14 then half (o == 0x14) d.lah.commit
  else if o = 0x1C then unpromised d
  else if o = 0x28 then heldTokens d
  else rd d (0xF00000 + o)

/-! ## OBS, PWR, HLK (R612, R646, R613, R671, R576 to R579) -/

/-- The states of R615 as R646 codes them. -/
def partCode : PartSt → Nat
  | .unconfigured => 0
  | .opened => 1
  | .fenced => 2
  | .resetting => 3

/-- OBS_KEY_STATE of partition p. -/
def keyWord (d : Dev) (p : Nat) : Nat :=
  let q := part d p
  partCode q.st * 2 ^ 30 + 2 ^ 29 * b01 q.kem.isSome + q.tierKeys.length * 2 ^ 24 + q.replKeys.length * 2 ^ 22 +
  ((q.tierKeys.head?.map (·.1)).getD 0)

/-- The partition that OBS_KEY_SEL selects. -/
def keySel (d : Dev) : Nat := bits (rd d Addr.OBS_KEY_SEL) 7 0

/-- SHA-256 measurement m (R612, R643). -/
def measurement (d : Dev) (m : Nat) : List Byte :=
  if m = 0 then fwMeasure d else if m = 1 then planMeasure d else configMeasure d (keySel d)

/-- The selected meter (R634, R647). -/
def selMeter (d : Dev) : Nat :=
  let v := rd d Addr.OBS_METER_SEL
  (part d (bits v 7 0)).meters.getD (bits v 15 8) 0

def viewOBS (d : Dev) (o : Nat) : Nat :=
  if o = 0x0 then domainBits d 4 + d.obs.mboxStatus
  else if 0x10 ≤ o ∧ o < 0x50 ∧ d.obs.mboxServed ∧ !domainBusy d 4 then
    (d.obs.mboxOut.getD ((o - 0x10) / 4) 0).toNat
  else if o = 0x108 then keyWord d (keySel d)
  else if o = 0x204 ∨ o = 0x208 then half (o == 0x208) (selMeter d)
  else if 0x300 ≤ o then field (measurement d ((o - 0x300) / 32)) (o % 32) 4
  else rd d (0x1000000 + o)

def viewPWR (d : Dev) (o : Nat) : Nat :=
  if o = 0x0 then
    d.pwr.st * 2 ^ 30 + 2 ^ 29 * b01 d.pwr.throttle + 2 ^ 28 * b01 d.pwr.fumarole + 2 ^ 27 * b01 d.pwr.migrating +
    d.pwr.tol % 2 ^ 27
  else if o = 0x4 then d.pwr.tolDevice
  else if o = 0x50 then d.pwr.tempMax
  else if 0x100 ≤ o ∧ o < 0x11C then d.pwr.bgUse.getD ((o - 0x100) / 4) 0
  else rd d (0x1100000 + o)

/-- The channel that HLK_CHAN_SEL selects. -/
def chanSel (d : Dev) : Nat := bits (rd d Addr.HLK_CHAN_SEL) 9 0

def viewHLK (d : Dev) (o : Nat) : Nat :=
  if o = 0x0 then
    domainBits d 2 + (port d 56).st * 2 ^ 27 + (port d 56).width * 2 ^ 22 + bitSet (lanesInUse d 56)
  else if o = 0x8 then d.host.cardRate
  else if o = 0x34 ∨ o = 0x38 then
    match tget d.host.chans (chanSel d) with
    | some c => if o = 0x34 then c.part * 2 ^ 24 + 2 ^ 23 + c.inHeld else c.outWin
    | none => 0
  else rd d (0x1300000 + o)

/-! ## The value of a register -/

/-- What register `a` holds. -/
def viewNat (d : Dev) (a : Nat) : Nat :=
  let o := a % 0x100000
  if isPhysicalCount a then physCount d a
  else match a / 0x100000 with
  | 0 => viewGLB d o
  | 1 => viewFSQ d o
  | 2 => viewELG d o
  | 3 => viewFAB d o
  | 4 => viewTSH d o
  | 5 => viewVNT d o
  | 6 => viewSPM d o
  | 7 => viewTMC d o
  | 8 => viewMUD d o
  | 9 => viewGEY d o
  | 10 => viewSNT d o
  | 11 => viewPFX d o
  | 12 => viewADP d o
  | 13 => viewTOK d o
  | 14 => viewRTV d o
  | 15 => viewLAH d o
  | 16 => viewOBS d o
  | 17 => viewPWR d o
  | 19 => viewHLK d o
  | _ => rd d a

/-- The 32 bits that a read of register `a` returns, and the device with a free value taken where the register is one. -/
def viewReg (d : Dev) (a : Nat) : Word × Dev :=
  if isFree a then (Config.freeReg a d.freeCnt, freeNext d) else (BitVec.ofNat 32 (viewNat d a), d)

/-! ## Output pins (R603, R675, R679, R693) -/

/-- ALERT_N is asserted (R603). -/
def alertAsserted (s : State) : Bool :=
  s.pins.running && (regGet s.dev Addr.GLB_ALERT_STATUS &&& regGet s.dev Addr.GLB_ALERT_MASK) != 0

/-- THERMTRIP_N is held low (R693). -/
def thermtripLow (s : State) : Bool := s.pins.tripped

/-- R679: the levels that GPIO[15:8] drive, from GPIO 8 up; none while they are inputs. -/
def gpioOut (s : State) : Option (List Bool) :=
  let d := s.dev
  if s.pins.running ∧ d.obs.stage = 2 ∧ !productionTest d then
    some [true, (port d 56).st == 2, (stacksTrained d).length == 8, d.plan.active.isSome && !d.pwr.fumarole,
          d.obs.fallback, d.pwr.throttle, d.pwr.st == 2, false]
  else none

end Sys2Proof.Machine
end

