-- ==== Sys2Proof/Machine/Access.lean ====
section
/-!
DEFINITION. Sys2Proof/Machine/Access.lean: register accesses by the masters of R580 and the management port (R580 to R593, R598,
R605, R609, R690), what each register's own rule says of a write, posted writes, and the Obsidian mailbox (R639, R644).
-/

namespace Sys2Proof.Machine

/-! ## Masters and the register table (R580, R583, R585) -/

/-- Masters 0 and 1 are privileged. -/
def privileged (m : Nat) : Bool := decide (m < 2)

/-- The device answers master m: the management port only while it holds a dynamic address (R690). -/
def answers (d : Dev) (m : Nat) : Bool := m != 1 && decide (m < 10) || m == 1 && d.reg.dynAddr.isSome

/-- The row of the register table for the register at `a`. -/
def regRowAt (a : Nat) : Option RegRow :=
  regRows.find? fun r => decide (r.lo ≤ a) && decide (a < r.lo + r.stride * r.count) && (a - r.lo) % r.stride == 0

/-- R583: the register's block answers. -/
def blockAnswers (d : Dev) (a : Nat) : Bool := decide (a < 0x100000) || d.obs.stage == 2

/-- The _LO registers of the _LO/_HI pairs; each _HI lies four bytes above. -/
def loRegs : List Nat :=
  [Addr.GLB_SERIAL_LO, Addr.FSQ_TICK_CNT_LO, Addr.FSQ_ACTIVE_PLAN_LO, Addr.FSQ_STANDBY_PLAN_LO, Addr.FSQ_SWAP_TICK_LO,
   Addr.FSQ_MANIFEST_BASE_LO, Addr.ELG_CAP_BASE_LO, Addr.ELG_NEXT_SEQ_LO, Addr.TSH_SAMPLE_BASE_LO, Addr.LAH_EPOCH_LO,
   Addr.LAH_COMMIT_LO, Addr.OBS_METER_LO]

def isLo (a : Nat) : Bool := loRegs.contains a
def isHi (a : Nat) : Bool := decide (4 ≤ a) && loRegs.contains (a - 4)

/-- The key of master m's shadow or holding of the register at `a` (R589, R590). -/
def ownKey (m a : Nat) : Nat := m * 2 ^ 32 + a

/-! ## Reads (R586, R587, R589, R499) -/

/-- What a read of a whole RC register clears: its own mark of the selected queue, or the stored value (R586, R499). -/
def clearRC (d : Dev) (a : Nat) : Dev :=
  let q := bits (rd d Addr.TSH_HWM_SEL) 17 0
  let m := selectedMarks d
  if a = Addr.TSH_HWM_DEPTH then { d with tsh.hwm := tset d.tsh.hwm q (0, m.2) }
  else if a = Addr.TSH_HWM_DELAY then { d with tsh.hwm := tset d.tsh.hwm q (m.1, 0) }
  else if isPhysicalCount a then { d with reg.physFrom := tset d.reg.physFrom a d.tick }
  else if a = Addr.OBS_MBOX_STATUS then regSet { d with obs.mboxStatus := 0 } a 0
  else regSet d a 0

/-- A _LO read copies the _HI into the master's shadow. -/
def latchHi (d : Dev) (m a : Nat) : Dev :=
  { d with reg.shadow := tset d.reg.shadow (ownKey m (a + 4)) (BitVec.ofNat 32 (viewNat d (a + 4))) }

/-- A read of the readable register `a` of type `k` by a master that may read it. -/
def readOpen (d : Dev) (m a : Nat) (k : RegKind) : Word × Dev :=
  if k = .wo then (0, d)
  else if isHi a then (tgetD d.reg.shadow (ownKey m a) 0, d)
  else
    let r := viewReg d a
    let d := if isLo a then latchHi r.2 m a else r.2
    (r.1, if k = .rc then clearRC d a else d)

/-- A read of 32 bits at `a` by master m: zero where it is not aligned, not mapped, not answered or not for the master. -/
def readReg (d : Dev) (m a : Nat) : Word × Dev :=
  if a % 4 ≠ 0 then (0, d)
  else match regRowAt a with
    | none => (0, d)
    | some r => if !blockAnswers d a || (r.prv && !privileged m) then (0, d) else readOpen d m a r.kind

/-- A read by master m whose word stands in `readOut`. -/
def readBy (d : Dev) (m a : Nat) : Dev :=
  if answers d m then
    let r := readReg d m a
    { r.2 with reg.readOut := [r.1] }
  else d

/-! ## What a register's own rule accepts -/

/-- lo ≤ v ≤ hi. -/
def within' (lo hi v : Nat) : Bool := decide (lo ≤ v) && decide (v ≤ hi)

/-- R609: a ring of `bytes` at the address of the pair at `lo` starts on a frame and lies in the capture area. -/
def ringFits (d : Dev) (lo bytes : Nat) : Bool :=
  let base := rd d (lo + 4) * 2 ^ 32 + rd d lo
  base % 65536 == 0 && (List.range (ceilDiv bytes 65536)).all fun k => d.plan.capture.contains (base / 65536 + k)

/-- The value rules of the RW registers. -/
def rwOk (d : Dev) (a v : Nat) : Bool :=
  if a = Addr.GLB_ERRLOG_RPTR then !precedes 32 d.reg.wptr v
  else if a = Addr.FSQ_MANIFEST_COUNT then decide (bits v 16 0 ≤ 65536)
  else if a = Addr.ELG_CAP_CTRL then
    within' 12 26 (bits v 4 0) && (!bit v 31 || ringFits d Addr.ELG_CAP_BASE_LO (32 * 2 ^ bits v 4 0))
  else if a = Addr.TSH_SAMPLE_CTRL then
    within' 12 24 (bits v 4 0) && (!bit v 31 || ringFits d Addr.TSH_SAMPLE_BASE_LO (16 * 2 ^ bits v 4 0))
  else if a = Addr.TSH_PORT_LEAD then within' 16 4096 v
  else if a = Addr.TMC_SCRUB_PERIOD then within' 3600 604800 v
  else if a = Addr.TMC_ROW_WEAR_THRESH then within' 512 16384 v
  else if a = Addr.TMC_PC_FAIL_THRESH then within' 1 65535 v
  else if a = Addr.TMC_POOL_LOW then decide (v < rd d Addr.TMC_POOL_HIGH)
  else if a = Addr.TMC_POOL_HIGH then decide (rd d Addr.TMC_POOL_LOW < v)
  else if a = Addr.TMC_TIER_TIMEOUT then within' 16 65535 v
  else if a = Addr.SNT_REFRESH_RATIO then within' 0x3F800000 0x42800000 v
  else if a = Addr.SNT_REF_THRESH then within' 0 0x3F800000 v
  else if a = Addr.ADP_CACHE_FRAMES then
    within' (cacheInUse d) 524288 v
  else if a = Addr.LAH_EPOCH_TICKS then within' 12208 488281 v
  else if a = Addr.LAH_RESERVE_MIN then within' 0 1048576 v
  else if a = Addr.LAH_SUSPECT_TICKS then within' 16 65535 v
  else if a = Addr.LAH_RESEND_MAX then within' 1 255 v
  else if a = Addr.OBS_METER_SEL then decide (bits v 15 8 ≤ 7)
  else if a = Addr.PWR_THERM_LIMIT then within' 85 105 v
  else true

/-- R416: an operator Mudpot package is loaded. -/
def mudpotLoaded (d : Dev) : Bool := d.vnt.pkgs.any fun q => q.2.img.st != 0 && q.2.target == 1

/-- The value rules of the WP registers. -/
def wpOk (d : Dev) (a v : Nat) : Bool :=
  if a = Addr.MUD_OP_CORES then within' 0 8 v && !mudpotLoaded d
  else if a = Addr.MUD_OP_SHARE then within' 0 8 v
  else if a = Addr.MUD_SUM_TARGET ∨ a = Addr.FAB_LANE_DROP_THRESH then within' 1 65535 v
  else if 0x301000 ≤ a ∧ a < 0x301380 then !(bit (rd d a) 31 && bits (rd d a) 30 25 != bits v 30 25)
  else if a = Addr.HLK_CTRL then !(bit (rd d a) 31 && bits (rd d a) 30 28 != bits v 30 28)
  else true

/-! ## Writes (R584, R587, R590, R592, R595) -/

/-- Capture starts with an empty ring when ENABLE is set (R608); so does sampling (log 36). -/
def enableRing (d : Dev) (a v : Nat) : Dev :=
  if !bit v 31 || bit (rd d a) 31 then d
  else if a = Addr.ELG_CAP_CTRL then { d with led.wptr := 0, led.buf := [] }
  else if a = Addr.TSH_SAMPLE_CTRL then { d with tsh.samplePos := 0, tsh.sampleQ := [] }
  else d

/-- R590: a commit of the pair whose _HI is at `a`. -/
def commitPair (d : Dev) (m a : Nat) (v : Word) : Dev :=
  let lo := tgetD d.reg.holding (ownKey m (a - 4)) (regGet d (a - 4))
  regSet (regSet { d with reg.holding := tdel d.reg.holding (ownKey m (a - 4)) } (a - 4) lo) a v

/-- A write accepted by an RW register. -/
def writeRW (d : Dev) (m a : Nat) (v : Word) : Dev :=
  if isLo a then { d with reg.holding := tset d.reg.holding (ownKey m a) v }
  else if isHi a then commitPair d m a v
  else if rwOk d a v.toNat then regSet (enableRing d a v.toNat) a v
  else refuseWrite d m 0x0304 a

/-- FSQ_MANIFEST_SEAL (R605): the seal names the next tick and no copy runs. -/
def sealManifest (d : Dev) (m a : Nat) (v : Word) : Dev :=
  if v.toNat = (d.tick + 1) % 2 ^ 32 ∧ d.plan.copying = false then
    { d with plan.sealed := some (manBase d, bits (rd d Addr.FSQ_MANIFEST_COUNT) 16 0), plan.copying := true }
  else refuseWrite d m 0x0304 a

/-- The slow domain of a WP register, by its block. -/
def domainOf (a : Nat) : Nat := match a / 0x100000 with
  | 8 => 0
  | 3 => 1
  | 0x13 => 2
  | 7 => 3
  | _ => 4

/-- R591: a WP write is posted, or dropped while its domain is BUSY. -/
def writeWP (d : Dev) (m a : Nat) (v : Word) : Dev :=
  let k := domainOf a
  if domainBusy d k then
    refuseWrite (regSet d (domainStatus k) (regGet d (domainStatus k) ||| 0x40000000)) m 0x0603 a
  else if wpOk d a v.toNat then { d with reg.posted := tset d.reg.posted k (a, v) }
  else refuseWrite d m 0x0304 a

/-- A write of 32 bits to the register at `a` by a master that may write it. -/
def writeOpen (d : Dev) (m a : Nat) (k : RegKind) (v : Word) : Dev := match k with
  | .ro | .rc => d
  | .rw => writeRW d m a v
  | .wo => sealManifest d m a v
  | .wp => writeWP d m a v

/-- What the bytes of a register that a narrow write leaves out hold (R584). -/
def baseWord (d : Dev) (m a : Nat) : Word :=
  if isLo a then tgetD d.reg.holding (ownKey m a) (regGet d a) else regGet d a

/-- The register's word with the low `w` bytes of v at byte `o`. -/
def mergeBytes (old v : Word) (o w : Nat) : Word :=
  BitVec.ofNat 32 (leNat ((leBytes 4 old.toNat).take o ++ leBytes w v.toNat ++ (leBytes 4 old.toNat).drop (o + w)))

/-- A write of `w` bytes at `a` by master m. Only the Obsidian core has widths other than 4 (R580). -/
def writeReg (d : Dev) (m a w : Nat) (v : Word) : Dev :=
  if !answers d m || !([1, 2, 4].contains w) || (w != 4 && m != 0) then d
  else if a % w ≠ 0 then refuseWrite d m 0x0305 a
  else
    let r := a - a % 4
    match regRowAt r with
    | none => refuseWrite d m 0x0301 a
    | some row =>
      if !blockAnswers d r then refuseWrite d m 0x0301 a
      else if row.prv && !privileged m then refuseWrite d m 0xC002 a
      else writeOpen d m r row.kind (if w = 4 then v else mergeBytes (baseWord d m r) v (a % 4) w)

/-! ## The management port (R581, R582, R690) -/

def i3cPrivateWrite (d : Dev) (a : Nat) (v : Word) : Dev :=
  if d.reg.dynAddr.isSome then
    let d := writeReg d 1 a 4 v
    { d with reg.cur := (a + 4) % 2 ^ 32 }
  else d

def execI3cPrivateWrite (addr : Nat) (data : Word) (s : State) : Host.Outcome State Fault Refusal :=
  run s fun d => i3cPrivateWrite d addr data

def i3cSetAddress (d : Dev) (a : Nat) : Dev :=
  if d.reg.dynAddr.isSome then { d with reg.cur := a % 2 ^ 32 } else d

def execI3cSetAddress (addr : Nat) (s : State) : Host.Outcome State Fault Refusal := run s fun d => i3cSetAddress d addr

/-- k words from the current address upward. -/
def readRun : Nat → Dev → Dev
  | 0, d => d
  | k + 1, d =>
    let r := readReg d 1 d.reg.cur
    readRun k { r.2 with reg.readOut := r.2.reg.readOut ++ [r.1], reg.cur := (r.2.reg.cur + 4) % 2 ^ 32 }

def i3cPrivateRead (d : Dev) (k : Nat) : Dev :=
  if d.reg.dynAddr.isSome then readRun k { d with reg.readOut := [] } else d

def execI3cPrivateRead (words : Nat) (s : State) : Host.Outcome State Fault Refusal := run s fun d => i3cPrivateRead d words

/-- R677, R690: the static address. -/
def staticAddr (d : Dev) : Nat := 0x58 + bits d.pwr.straps.toNat 2 1

def setdasa (d : Dev) (st dyn : Nat) : Dev :=
  if st = staticAddr d ∧ d.reg.dynAddr = none ∧ dyn < 128 then { d with reg.dynAddr := some dyn } else d

def execSetdasa (staticAddr dynAddr : Nat) (s : State) : Host.Outcome State Fault Refusal :=
  run s fun d => setdasa d staticAddr dynAddr

/-! ## The rows of single accesses -/

def execRegisterWrite (master addr width : Nat) (data : Word) (s : State) : Host.Outcome State Fault Refusal :=
  run s fun d => writeReg d master addr width data

def execReadClear (master addr : Nat) (s : State) : Host.Outcome State Fault Refusal := run s fun d => readBy d master addr

def execLoReadLatch (master addr : Nat) (s : State) : Host.Outcome State Fault Refusal := run s fun d => readBy d master addr

def execHwmRead (master addr : Nat) (s : State) : Host.Outcome State Fault Refusal := run s fun d => readBy d master addr

def execHiWriteCommit (master addr : Nat) (data : Word) (s : State) : Host.Outcome State Fault Refusal :=
  run s fun d => writeReg d master addr 4 data

def execPostedWrite (master addr : Nat) (data : Word) (s : State) : Host.Outcome State Fault Refusal :=
  run s fun d => writeReg d master addr 4 data

def execManifestSeal (master : Nat) (tickLow : Word) (s : State) : Host.Outcome State Fault Refusal :=
  run s fun d => writeReg d master Addr.FSQ_MANIFEST_SEAL 4 tickLow

def execErrlogRptrWrite (master : Nat) (data : Word) (s : State) : Host.Outcome State Fault Refusal :=
  run s fun d => writeReg d master Addr.GLB_ERRLOG_RPTR 4 data

def execCaptureEnable (master : Nat) (data : Word) (s : State) : Host.Outcome State Fault Refusal :=
  run s fun d => writeReg d master Addr.ELG_CAP_CTRL 4 data

def execMudOpCoresWrite (master : Nat) (data : Word) (s : State) : Host.Outcome State Fault Refusal :=
  run s fun d => writeReg d master Addr.MUD_OP_CORES 4 data

/-- MANIFEST_COPY_DONE (R605): the entries stand in the frame sequencer's standby store. -/
def manifestCopyDone (d : Dev) : Dev := match d.plan.copying, d.plan.sealed with
  | true, some (base, n) =>
    { d with plan.copying := false, plan.store := (List.range n).map fun k =>
        manOf (Memory.readBytes d.plan.caldera (base + 32 * k) 32) }
  | _, _ => d

def execManifestCopyDone (s : State) : Host.Outcome State Fault Refusal := serve s manifestCopyDone

/-! ## Posted writes take effect (R473, R476, R578, R591, R644) -/

/-- The lanes of a port start anew (R454). -/
def Port.lanesAnew (p : Port) : Port :=
  { p with removed := [], removedAt := [], failed := [], recals := [], prbs := [], readapted := [] }

/-- A port taken out of service by its control register: disabled, or in a test mode. -/
def stopPort (d : Dev) (n : Nat) : Dev :=
  let up := (port d n).st == 2
  let st := if !portEnabled d n && portMode d n != 0 then 3 else 0
  let d := setCost (modPort d n fun p => { p with st := st, width := 0 }) n
  let d := if portEnabled d n then d else modPort d n Port.lanesAnew
  if up ∧ n < 56 then resendPort d n else d

/-- A port follows its control register. -/
def applyPortCtrl (d : Dev) (n : Nat) : Dev :=
  if portEnabled d n ∧ portMode d n = 0 then
    if (port d n).st ≠ 2 then modPort d n fun p => { p with st := if n < 56 ∧ d.pwr.st = 2 then 0 else 1 }
    else if widthFor n (usableLanes d n).length ≠ 0 then rewidth d n
    else if n = 56 then hostLinkDown d
    else downPort (freeNext d) n (Config.freeCycle d.freeCnt % 30720)
  else stopPort d n

/-- A posted write takes effect. -/
def takeEffect (d : Dev) (a : Nat) (v : Word) : Dev :=
  let d := regSet d a v
  if 0x301000 ≤ a ∧ a < 0x301380 then applyPortCtrl d ((a - 0x301000) / 16)
  else if a = Addr.HLK_CTRL then applyPortCtrl d 56
  else if a = Addr.OBS_MBOX_CMD then
    { d with obs.mbox := some (bits v.toNat 7 0, rd d (Addr.OBS_MBOX_DATA 0)), obs.mboxServed := false }
  else if domainOf a = 4 then { d with obs.mboxServed := false }
  else d

/-- POSTED_WRITE_DONE. -/
def postedWriteDone (d : Dev) (k : Nat) : Dev := match tget d.reg.posted k with
  | some (a, v) => takeEffect { d with reg.posted := tdel d.reg.posted k } a v
  | none => d

def execPostedWriteDone (domain : Nat) (s : State) : Host.Outcome State Fault Refusal :=
  run s fun d => postedWriteDone d domain

/-! ## The Obsidian mailbox (R639, R644) -/

/-- The 16 words of 64 bytes of a certificate; word 15 of the first chunk is its length. -/
def certWords (cert : List Byte) (off : Nat) : List Word :=
  (List.range 16).map fun k =>
    BitVec.ofNat 32 (if off = 0 ∧ k = 15 then cert.length else field cert (off + 4 * k) 4)

/-- The alias certificate (R622), with the measurement of the boot (R663); none exists in production test (R630). -/
def aliasCert (d : Dev) : List Byte := match d.obs.aKey with
  | some n => Config.aliasCertDer n (sha256 d.obs.bootHead)
  | none => []

/-- The request served: status word and results. -/
def mboxResult (d : Dev) (st : Nat) (out : List Word) : Dev :=
  { d with obs.mbox := none, obs.mboxServed := true, obs.mboxStatus := st, obs.mboxOut := out }

/-- A certificate's chunk as the result of a request. -/
def certResult (d : Dev) (cert : List Byte) (off : Nat) : Dev :=
  if off % 64 ≠ 0 then mboxResult d (stw stParam 0) [] else mboxResult d stOk (certWords cert off)

/-- ADVANCE_SVN: the minimum rises to at most the running firmware's SVN, and never falls. -/
def advanceMin (d : Dev) (v : Nat) : Dev :=
  if 1 ≤ v ∧ v ≤ 64 ∧ v ≤ d.obs.running.svn ∧ d.nv.minSvn ≤ v then
    mboxResult { d with nv := { d.nv with minSvn := v } } stOk []
  else mboxResult d (stw stParam 0) []

/-- The request in the mailbox is completed. -/
def completeMbox (d : Dev) : Dev := match d.obs.mbox with
  | some (1, v) => certResult d Config.identityCert v
  | some (2, v) => certResult d (aliasCert d) v
  | some (3, v) => advanceMin d v
  | some _ => mboxResult d (stw stOpcode 0) []
  | none => d

/-- The request in the mailbox is completed where it is `req`. -/
def completeIf (req : Nat) (d : Dev) : Dev :=
  if (d.obs.mbox.map (·.1)) = some req then completeMbox d else d

def execReadIdentityCert (s : State) : Host.Outcome State Fault Refusal := serve s (completeIf 1)

def execReadAliasCert (s : State) : Host.Outcome State Fault Refusal := serve s (completeIf 2)

def execAdvanceSvn (s : State) : Host.Outcome State Fault Refusal := serve s (completeIf 3)

def execMailboxRequestDone (s : State) : Host.Outcome State Fault Refusal := serve s completeMbox

end Sys2Proof.Machine
end

