-- ==== Sys2Proof/Machine/Bringup.lean ====
section
/-!
DEFINITION. Sys2Proof/Machine/Bringup.lean: power, resets, thermal trip and reference clocks, the boot, the training of the HBM
stacks, and the test port (R46, R602, R616, R630, R654 to R656, R677, R678, R681 to R693).
-/

namespace Sys2Proof.Machine

/-! ## Rails and resets -/

/-- Everything the device held is lost but for the flash and the fuses (R46, R682). -/
def loseAll (s : State) : State := { s with dev := s.dev.lost }

/-- EXTEST instructions hold only while SYS_RESET_N is released (R691). -/
def tapInReset (t : TapInstr) : TapInstr := match t with
  | .extest | .extestPulse | .extestTrain => .bypass
  | t => t

/-- R677, R681, R602: the device starts: straps in GLB_STRAPS, the cause of the reset, the tick counter at 0. -/
def startDev (s : State) : State :=
  { s with dev := { s.dev.lost with
      pwr := { s.dev.lost.pwr with straps := s.pins.straps },
      reg := { s.dev.lost.reg with vals := [(Addr.GLB_RESET_CAUSE, BitVec.ofNat 32 (2 ^ s.pins.cause))] } },
           pins := { s.pins with cause := 0 } }

/-- A cause that waits for the next release: THERMAL stays (R693), else the one given. -/
def nextCause (old new : Nat) : Nat := if old = 2 then 2 else new

/-- POWER_ON: the rails are within tolerance, SYS_RESET_N is asserted. -/
def powerOn (s : State) : State :=
  if s.pins.powered then s
  else loseAll { s with pins := { s.pins with
    powered := true, released := false, tripped := false, cause := nextCause s.pins.cause 0, testInstr := .idcode } }

def execPowerOn (s : State) : Host.Outcome State Fault Refusal := .next (powerOn s)

/-- SYS_RESET_ASSERT (R682). -/
def sysResetAssert (s : State) : State :=
  if !s.pins.released then s
  else loseAll { s with pins := { s.pins with
    released := false, tripped := false, cause := nextCause s.pins.cause 1, testInstr := tapInReset s.pins.testInstr } }

def execSysResetAssert (s : State) : Host.Outcome State Fault Refusal := .next (sysResetAssert s)

/-- SYS_RESET_RELEASE (R677, R687): without REFCLK_SYS the device stays in reset. -/
def sysResetRelease (straps : BitVec 16) (refclk : Bool) (s : State) : State :=
  if s.pins.released ∨ !s.pins.powered then s
  else
    let s := { s with pins := { s.pins with released := true, straps := straps, refclk := refclk } }
    if refclk then startDev s else loseAll s

def execSysResetRelease (straps : BitVec 16) (refclkSys : Bool) (s : State) : Host.Outcome State Fault Refusal :=
  .next (sysResetRelease straps refclkSys s)

/-- BROWNOUT (R684): the device resets itself and, with the rails back, starts as from a release. -/
def brownout (rail : Nat) (s : State) : State :=
  if 4 < rail ∨ !s.pins.released ∨ !s.pins.powered then s
  else
    let s := { s with pins := { s.pins with tripped := false, cause := 0 } }
    if s.pins.refclk then startDev s else loseAll s

def execBrownout (rail : Nat) (s : State) : Host.Outcome State Fault Refusal := .next (brownout rail s)

/-- THERMAL_TRIP (R693): clocks stop, THERMTRIP_N is held low, everything is lost. -/
def thermalTrip (s : State) : State :=
  if s.pins.running then loseAll { s with pins := { s.pins with tripped := true, cause := 2 } } else s

def execThermalTrip (s : State) : Host.Outcome State Fault Refusal := .next (thermalTrip s)

/-- POWER_DOWN (R683): SYS_RESET_N is asserted before any rail falls. -/
def powerDown (s : State) : State :=
  loseAll { s with pins := { s.pins with
    powered := false, released := false, tripped := false, cause := nextCause s.pins.cause 0,
    testInstr := tapInReset s.pins.testInstr } }

def execPowerDown (s : State) : Host.Outcome State Fault Refusal := .next (powerDown s)

/-! ## Fabric reference clocks (R687) -/

/-- Port n goes DOWN at a cycle of its own. -/
def losePort (d : Dev) (n : Nat) : Dev :=
  if (port d n).st = 2 then downPort (freeNext d) n (Config.freeCycle d.freeCnt % 30720) else d

/-- REFCLK_LOSS: the ports 14k to 14k + 13 go DOWN, and do not leave TRAINING. -/
def refclkLoss (d : Dev) (k : Nat) : Dev :=
  if 3 < k ∨ d.pwr.refLost.contains k then d
  else ((List.range 14).map fun i => 14 * k + i).foldl losePort { d with pwr.refLost := d.pwr.refLost ++ [k] }

def execRefclkLoss (k : Nat) (s : State) : Host.Outcome State Fault Refusal := run s fun d => refclkLoss d k

/-! ## BOOT (R654 to R656, R678, R688) -/

/-- Bank b passes its checks: the ROM's verdict, an image that is there, and the fused minimum SVN (R637). -/
def bankPasses (d : Dev) (ok : List Bool) (b : Nat) : Bool :=
  let h := bankHdr d.nv b
  ok.getD b false && h.present && decide (d.nv.minSvn ≤ h.svn)

/-- The device stops in stage 1. -/
def stopBoot (d : Dev) : Dev := { d with obs.stage := 0 }

/-- R620, R621, R630, R638: what the Obsidian core draws and loads at a boot. Partition 0's salt and KEM pair are drawn here
(log 37); production test has no keys. -/
def bootTrust (d : Dev) : Dev :=
  let r := drawNext d
  let d := { r.2 with obs.nb := r.1 % 2 ^ 96, obs.opKey := d.nv.opRecord.map (·.1) }
  if productionTest d then modPart (drawIdentity d 0) 0 fun p => { p with kem := none }
  else
    let k := d.obs.drbg
    let d := (drawNext d).2
    drawIdentity { d with obs.aKey := some k } 0

/-- The image of bank b runs; the host link begins to train. -/
def startFirmware (d : Dev) (b : Nat) (fallback : Bool) : Dev :=
  let h := bankHdr d.nv b
  let d := bootTrust d
  let d := { d with obs.stage := 2, obs.bank := b, obs.fallback := fallback, obs.running := h, obs.bootHead := h.sigHead,
                    plan.fwPlan := Config.fumarolePlan h.sigHead }
  if portEnabled d 56 ∧ portMode d 56 = 0 then modPort d 56 fun p => { p with st := 1 } else d

/-- An error-log entry of the Obsidian core in stage 1. -/
def bootError (d : Dev) (status unit : Nat) : Dev := errEvent d 21 status 0xFF unit unit

/-- BOOT. -/
def boot (d : Dev) (flashOk : Bool) (bankOk : List Bool) : Dev :=
  let a := d.nv.bootBank
  if d.obs.stage ≠ 1 then d
  else if bits d.pwr.straps.toNat 15 5 ≠ 0 then bootError (stopBoot d) 0x0300 0
  else if flashOk = false then stopBoot d
  else if bankPasses d bankOk a then startFirmware d a false
  else if bankPasses d bankOk (1 - a) then startFirmware d (1 - a) true
  else bootError (bootError (stopBoot d) (stw stSignature 0) a) (stw stSignature 0) (1 - a)

def execBoot (flashOk : Bool) (bankOk : List Bool) (s : State) : Host.Outcome State Fault Refusal :=
  run s fun d => boot d flashOk bankOk

/-! ## HBM_STACK_TRAIN (R443, R654, R656) -/

/-- Stack k; one that no training named is untrained. -/
def stackAt (d : Dev) (k : Nat) : Stack := tgetD d.hbm.stks k ⟨false, 0, 0, 0, false⟩

/-- Stack k is not trained again. -/
def stackSettled (d : Dev) (k : Nat) : Bool := (stackAt d k).trained || decide (3 ≤ (stackAt d k).tries)

/-- The 32 pseudo-channels of stack k serve. -/
def servePcs (d : Dev) (k : Nat) : Dev :=
  (List.range 32).foldl (fun d i => setPc d (32 * k + i) { pcAt d (32 * k + i) with st := 1 }) d

/-- HBM_STACK_TRAIN: one training of stack k ends. The stacks train in increasing order; the third failure is reported. -/
def hbmStackTrain (d : Dev) (k : Nat) (ok : Bool) (banks spares : Nat) : Dev :=
  if 7 < k ∨ stackSettled d k ∨ !((List.range k).all (stackSettled d)) then d
  else
    let x := stackAt d k
    if ok then servePcs { d with hbm.stks := tset d.hbm.stks k ⟨true, x.tries + 1, banks, spares, false⟩ } k
    else
      let d := { d with hbm.stks := tset d.hbm.stks k { x with tries := x.tries + 1 } }
      if 3 ≤ x.tries + 1 then errEvent d 11 0 0xFF k k else d

def execHbmStackTrain (stack : Nat) (ok : Bool) (banks spares : Nat) (s : State) : Host.Outcome State Fault Refusal :=
  serve s fun d => hbmStackTrain d stack ok banks spares

/-! ## The test port (R691) -/

/-- The instruction that a code names: in service mode, and while SYS_RESET_N is asserted, the EXTEST group acts as BYPASS. -/
def tapOf (p : Pins) (code : BitVec 8) : TapInstr :=
  let test := p.released && bit p.straps.toNat 0
  match Config.tapCode code with
  | 1 => .idcode
  | 2 => .sample
  | 3 => if test then .extest else .bypass
  | 4 => if test then .extestPulse else .bypass
  | 5 => if test then .extestTrain else .bypass
  | _ => .bypass

/-- TEST_PORT_INSTRUCTION: a port without power takes none. -/
def testPortInstruction (code : BitVec 8) (s : State) : State :=
  if s.pins.powered then { s with pins := { s.pins with testInstr := tapOf s.pins code } } else s

def execTestPortInstruction (code : BitVec 8) (s : State) : Host.Outcome State Fault Refusal :=
  .next (testPortInstruction code s)

/-- What the port shifts out under IDCODE. -/
def idcode : Word := 0x10960D2B

end Sys2Proof.Machine
end

