-- ==== Sys2Proof/Machine/Dispatch.lean ====
section
/-!
DEFINITION. Sys2Proof/Machine/Dispatch.lean: one arm per command.
-/

namespace Sys2Proof.Machine

def exec (i : Instr) (s : State) : Host.Outcome State Fault Refusal :=
  match i with
  | .sessionCreate h model mode sinkPages adapter tau topkK recentPages => Sys2Proof.Machine.execSessionCreate h model mode sinkPages adapter tau topkK recentPages s
  | .sessionDestroy h handle => Sys2Proof.Machine.execSessionDestroy h handle s
  | .sessionFork h handle seed => Sys2Proof.Machine.execSessionFork h handle seed s
  | .sessionPark h handle pflags => Sys2Proof.Machine.execSessionPark h handle pflags s
  | .sessionSetSelect h handle mode sinkPages topkK recentPages tau => Sys2Proof.Machine.execSessionSetSelect h handle mode sinkPages topkK recentPages tau s
  | .sessionSetAdapter h handle adapter => Sys2Proof.Machine.execSessionSetAdapter h handle adapter s
  | .sessionSetSampling h handle p => Sys2Proof.Machine.execSessionSetSampling h handle p s
  | .sessionInfo h handle => Sys2Proof.Machine.execSessionInfo h handle s
  | .modelLoad h object length => Sys2Proof.Machine.execModelLoad h object length s
  | .modelData h object offset data => Sys2Proof.Machine.execModelData h object offset data s
  | .modelCommit h object digest => Sys2Proof.Machine.execModelCommit h object digest s
  | .modelUnload h object => Sys2Proof.Machine.execModelUnload h object s
  | .modelGrant h model mask => Sys2Proof.Machine.execModelGrant h model mask s
  | .modelBind h firstPipe size model => Sys2Proof.Machine.execModelBind h firstPipe size model s
  | .switchPhaseEnd firstPipe failed => Sys2Proof.Machine.execSwitchPhaseEnd firstPipe failed s
  | .adapterLoad h object length => Sys2Proof.Machine.execAdapterLoad h object length s
  | .adapterData h object offset data => Sys2Proof.Machine.execAdapterData h object offset data s
  | .adapterCommit h object digest => Sys2Proof.Machine.execAdapterCommit h object digest s
  | .adapterDrop h object => Sys2Proof.Machine.execAdapterDrop h object s
  | .sinterFormatSet h fmt kind run dk dv refMax denseKeep rounds => Sys2Proof.Machine.execSinterFormatSet h fmt kind run dk dv refMax denseKeep rounds s
  | .sinterMapSet h model map => Sys2Proof.Machine.execSinterMapSet h model map s
  | .prefixInsert h handle domain piflags firstBlock ids => Sys2Proof.Machine.execPrefixInsert h handle domain piflags firstBlock ids s
  | .prefixAttach h handle firstBlock ids => Sys2Proof.Machine.execPrefixAttach h handle firstBlock ids s
  | .prefixAttachPhase seq => Sys2Proof.Machine.execPrefixAttachPhase seq s
  | .prefixDomainConfig h domain opn buckets => Sys2Proof.Machine.execPrefixDomainConfig h domain opn buckets s
  | .tokenize h handle tflags text => Sys2Proof.Machine.execTokenize h handle tflags text s
  | .hostChoice h handle position token => Sys2Proof.Machine.execHostChoice h handle position token s
  | .stopSet h handle ids strings idSlots entries => Sys2Proof.Machine.execStopSet h handle ids strings idSlots entries s
  | .vocabLoad h object length => Sys2Proof.Machine.execVocabLoad h object length s
  | .vocabData h object offset data => Sys2Proof.Machine.execVocabData h object offset data s
  | .vocabCommit h object digest => Sys2Proof.Machine.execVocabCommit h object digest s
  | .vocabAssign h model slot => Sys2Proof.Machine.execVocabAssign h model slot s
  | .vocabUnload h object => Sys2Proof.Machine.execVocabUnload h object s
  | .grammarLoad h object length => Sys2Proof.Machine.execGrammarLoad h object length s
  | .grammarData h object offset data => Sys2Proof.Machine.execGrammarData h object offset data s
  | .grammarCommit h object digest => Sys2Proof.Machine.execGrammarCommit h object digest s
  | .grammarDrop h object => Sys2Proof.Machine.execGrammarDrop h object s
  | .storeCreate h localNo p => Sys2Proof.Machine.execStoreCreate h localNo p s
  | .storeDrop h store => Sys2Proof.Machine.execStoreDrop h store s
  | .storeMerge h store => Sys2Proof.Machine.execStoreMerge h store s
  | .vecInsert h store count user comps => Sys2Proof.Machine.execVecInsert h store count user comps s
  | .vecDelete h store vid => Sys2Proof.Machine.execVecDelete h store vid s
  | .vecQuery h store q comps => Sys2Proof.Machine.execVecQuery h store q comps s
  | .queryComplete seq cycle => Sys2Proof.Machine.execQueryComplete seq cycle s
  | .recoveryGroupSet h ringId members self shadowSlots predAddr buddyAddr releaseTicks => Sys2Proof.Machine.execRecoveryGroupSet h ringId members self shadowSlots predAddr buddyAddr releaseTicks s
  | .failover h => Sys2Proof.Machine.execFailover h s
  | .takeover h buddyAddr ringId epoch self => Sys2Proof.Machine.execTakeover h buddyAddr ringId epoch self s
  | .checkpointWrite h epoch imageSlot => Sys2Proof.Machine.execCheckpointWrite h epoch imageSlot s
  | .checkpointRestore h ringId imageSlot oldMembers newMembers newIndex => Sys2Proof.Machine.execCheckpointRestore h ringId imageSlot oldMembers newMembers newIndex s
  | .partitionConfig h partitionT c => Sys2Proof.Machine.execPartitionConfig h partitionT c s
  | .partitionReset h partitionT => Sys2Proof.Machine.execPartitionReset h partitionT s
  | .partitionResetResume partitionT => Sys2Proof.Machine.execPartitionResetResume partitionT s
  | .partitionFence h partitionT fence => Sys2Proof.Machine.execPartitionFence h partitionT fence s
  | .tierTargetConfig h slot planeMask addr capacity => Sys2Proof.Machine.execTierTargetConfig h slot planeMask addr capacity s
  | .fabricRouteSet h index role planeMask addr => Sys2Proof.Machine.execFabricRouteSet h index role planeMask addr s
  | .shaperConfig h partitionT c => Sys2Proof.Machine.execShaperConfig h partitionT c s
  | .shaperMode h mode => Sys2Proof.Machine.execShaperMode h mode s
  | .planLoad h plflags offset total data => Sys2Proof.Machine.execPlanLoad h plflags offset total data s
  | .planCheckDone plan => Sys2Proof.Machine.execPlanCheckDone plan s
  | .planSwap h tick => Sys2Proof.Machine.execPlanSwap h tick s
  | .kernelLoad h object length => Sys2Proof.Machine.execKernelLoad h object length s
  | .kernelData h object offset data => Sys2Proof.Machine.execKernelData h object offset data s
  | .kernelCommit h object digest => Sys2Proof.Machine.execKernelCommit h object digest s
  | .kernelDrop h object => Sys2Proof.Machine.execKernelDrop h object s
  | .kernelLaunch h d objs => Sys2Proof.Machine.execKernelLaunch h d objs s
  | .launchPlace seq => Sys2Proof.Machine.execLaunchPlace seq s
  | .launchComplete seq => Sys2Proof.Machine.execLaunchComplete seq s
  | .hbmRetire h pseudoChannel => Sys2Proof.Machine.execHbmRetire h pseudoChannel s
  | .bandRelocate frame => Sys2Proof.Machine.execBandRelocate frame s
  | .granuleMove granules => Sys2Proof.Machine.execGranuleMove granules s
  | .fwLoad h object length => Sys2Proof.Machine.execFwLoad h object length s
  | .fwData h object offset data => Sys2Proof.Machine.execFwData h object offset data s
  | .fwCommit h object digest => Sys2Proof.Machine.execFwCommit h object digest s
  | .fwHandover h => Sys2Proof.Machine.execFwHandover h s
  | .fwHandoverStart => Sys2Proof.Machine.execFwHandoverStart s
  | .attest h nonce => Sys2Proof.Machine.execAttest h nonce s
  | .attestDone part => Sys2Proof.Machine.execAttestDone part s
  | .keyDeliver h kind keygen ciphertext wrap => Sys2Proof.Machine.execKeyDeliver h kind keygen ciphertext wrap s
  | .operatorKeySet h key => Sys2Proof.Machine.execOperatorKeySet h key s
  | .telemetryRead h => Sys2Proof.Machine.execTelemetryRead h s
  | .latencyToleranceSet h scope toleranceUs => Sys2Proof.Machine.execLatencyToleranceSet h scope toleranceUs s
  | .packetArrival cycle bytes => Sys2Proof.Machine.execPacketArrival cycle bytes s
  | .window cycle chan credits => Sys2Proof.Machine.execWindow cycle chan credits s
  | .commandIntake => Sys2Proof.Machine.execCommandIntake s
  | .attnReq port cycle m => Sys2Proof.Machine.execAttnReq port cycle m s
  | .appendOnly port cycle m => Sys2Proof.Machine.execAppendOnly port cycle m s
  | .logits port cycle m => Sys2Proof.Machine.execLogits port cycle m s
  | .adapterGather port cycle m => Sys2Proof.Machine.execAdapterGather port cycle m s
  | .gatherDataSend bytes => Sys2Proof.Machine.execGatherDataSend bytes s
  | .tierAck port cycle m => Sys2Proof.Machine.execTierAck port cycle m s
  | .laharDelta port cycle m => Sys2Proof.Machine.execLaharDelta port cycle m s
  | .releaseLog port cycle m => Sys2Proof.Machine.execReleaseLog port cycle m s
  | .laharAck port cycle m => Sys2Proof.Machine.execLaharAck port cycle m s
  | .epochCommit epoch => Sys2Proof.Machine.execEpochCommit epoch s
  | .tickBoundary => Sys2Proof.Machine.execTickBoundary s
  | .manifestPrepare => Sys2Proof.Machine.execManifestPrepare s
  | .layerBatch slot decay => Sys2Proof.Machine.execLayerBatch slot decay s
  | .mergeSlot slot decay => Sys2Proof.Machine.execMergeSlot slot decay s
  | .controlPageThaw handle => Sys2Proof.Machine.execControlPageThaw handle s
  | .stateDecode spn => Sys2Proof.Machine.execStateDecode spn s
  | .sampleStep seq => Sys2Proof.Machine.execSampleStep seq s
  | .tokenRelease handle => Sys2Proof.Machine.execTokenRelease handle s
  | .forkComplete seq => Sys2Proof.Machine.execForkComplete seq s
  | .thawExpiry seq => Sys2Proof.Machine.execThawExpiry seq s
  | .responseExpiry seq => Sys2Proof.Machine.execResponseExpiry seq s
  | .hostDeadlineExpiry seq => Sys2Proof.Machine.execHostDeadlineExpiry seq s
  | .epochTimer => Sys2Proof.Machine.execEpochTimer s
  | .epochOwnTimer => Sys2Proof.Machine.execEpochOwnTimer s
  | .epochCut => Sys2Proof.Machine.execEpochCut s
  | .capture n => Sys2Proof.Machine.execCapture n s
  | .releaseTimerExpiry recSeq => Sys2Proof.Machine.execReleaseTimerExpiry recSeq s
  | .deltaTimerExpiry recSeq => Sys2Proof.Machine.execDeltaTimerExpiry recSeq s
  | .laharKeepalive => Sys2Proof.Machine.execLaharKeepalive s
  | .predSuspect => Sys2Proof.Machine.execPredSuspect s
  | .gatherExpiry tag => Sys2Proof.Machine.execGatherExpiry tag s
  | .launchBudgetExpiry seq => Sys2Proof.Machine.execLaunchBudgetExpiry seq s
  | .queryExpiry seq => Sys2Proof.Machine.execQueryExpiry seq s
  | .slotLost slot reported pathsDown => Sys2Proof.Machine.execSlotLost slot reported pathsDown s
  | .codedRunRetry entry layer => Sys2Proof.Machine.execCodedRunRetry entry layer s
  | .agePark => Sys2Proof.Machine.execAgePark s
  | .trafficHandover queue now => Sys2Proof.Machine.execTrafficHandover queue now s
  | .portTransmit port => Sys2Proof.Machine.execPortTransmit port s
  | .writeGrantRequest c spn frame raw cycle => Sys2Proof.Machine.execWriteGrantRequest c spn frame raw cycle s
  | .summaryBuild entry layer index => Sys2Proof.Machine.execSummaryBuild entry layer index s
  | .bookBuild domain model layer => Sys2Proof.Machine.execBookBuild domain model layer s
  | .runEncode entry layer first => Sys2Proof.Machine.execRunEncode entry layer first s
  | .mergeRound store => Sys2Proof.Machine.execMergeRound store s
  | .pendClear store => Sys2Proof.Machine.execPendClear store s
  | .scrubPass finds finished => Sys2Proof.Machine.execScrubPass finds finished s
  | .scrubRefill frame => Sys2Proof.Machine.execScrubRefill frame s
  | .refresh pc => Sys2Proof.Machine.execRefresh pc s
  | .targetedRefresh pc acts => Sys2Proof.Machine.execTargetedRefresh pc acts s
  | .rowTrackerClear => Sys2Proof.Machine.execRowTrackerClear s
  | .rowRepair pc bank row spare => Sys2Proof.Machine.execRowRepair pc bank row spare s
  | .frameMigrate frame => Sys2Proof.Machine.execFrameMigrate frame s
  | .laneRemove port lane => Sys2Proof.Machine.execLaneRemove port lane s
  | .laneRecalibrate port lane ok => Sys2Proof.Machine.execLaneRecalibrate port lane ok s
  | .laneRestore port lane => Sys2Proof.Machine.execLaneRestore port lane s
  | .laneReadapt port lane => Sys2Proof.Machine.execLaneReadapt port lane s
  | .portDown port cycle => Sys2Proof.Machine.execPortDown port cycle s
  | .linkReplay port fromSeq => Sys2Proof.Machine.execLinkReplay port fromSeq s
  | .hostLinkDown => Sys2Proof.Machine.execHostLinkDown s
  | .wakeComplete => Sys2Proof.Machine.execWakeComplete s
  | .ventInteger c op rd rs1 b => Sys2Proof.Machine.execVentInteger c op rd rs1 b s
  | .ventControl c op rs1 rs2 disp => Sys2Proof.Machine.execVentControl c op rs1 rs2 disp s
  | .ventLoad c bytes signed rd base off => Sys2Proof.Machine.execVentLoad c bytes signed rd base off s
  | .ventStore c bytes rs base off => Sys2Proof.Machine.execVentStore c bytes rs base off s
  | .ventAtomic c op rd rs1 rs2 => Sys2Proof.Machine.execVentAtomic c op rd rs1 rs2 s
  | .ventVector c op ty vd vs1 vs2 => Sys2Proof.Machine.execVentVector c op ty vd vs1 vs2 s
  | .ventConversion c vector src dst rd rs1 => Sys2Proof.Machine.execVentConversion c vector src dst rd rs1 s
  | .yield c => Sys2Proof.Machine.execYield c s
  | .fence c => Sys2Proof.Machine.execFence c s
  | .exit c => Sys2Proof.Machine.execExit c s
  | .deviceViewRequest c rd rs1 => Sys2Proof.Machine.execDeviceViewRequest c rd rs1 s
  | .waitSatisfied c => Sys2Proof.Machine.execWaitSatisfied c s
  | .mudpotWrite c spn off data => Sys2Proof.Machine.execMudpotWrite c spn off data s
  | .i3cPrivateWrite addr data => Sys2Proof.Machine.execI3cPrivateWrite addr data s
  | .i3cSetAddress addr => Sys2Proof.Machine.execI3cSetAddress addr s
  | .i3cPrivateRead words => Sys2Proof.Machine.execI3cPrivateRead words s
  | .setdasa staticAddr dynAddr => Sys2Proof.Machine.execSetdasa staticAddr dynAddr s
  | .registerWrite master addr width data => Sys2Proof.Machine.execRegisterWrite master addr width data s
  | .readClear master addr => Sys2Proof.Machine.execReadClear master addr s
  | .loReadLatch master addr => Sys2Proof.Machine.execLoReadLatch master addr s
  | .hiWriteCommit master addr data => Sys2Proof.Machine.execHiWriteCommit master addr data s
  | .postedWrite master addr data => Sys2Proof.Machine.execPostedWrite master addr data s
  | .postedWriteDone domain => Sys2Proof.Machine.execPostedWriteDone domain s
  | .manifestSeal master tickLow => Sys2Proof.Machine.execManifestSeal master tickLow s
  | .manifestCopyDone => Sys2Proof.Machine.execManifestCopyDone s
  | .errlogRptrWrite master data => Sys2Proof.Machine.execErrlogRptrWrite master data s
  | .hwmRead master addr => Sys2Proof.Machine.execHwmRead master addr s
  | .captureEnable master data => Sys2Proof.Machine.execCaptureEnable master data s
  | .mudOpCoresWrite master data => Sys2Proof.Machine.execMudOpCoresWrite master data s
  | .readIdentityCert => Sys2Proof.Machine.execReadIdentityCert s
  | .readAliasCert => Sys2Proof.Machine.execReadAliasCert s
  | .advanceSvn => Sys2Proof.Machine.execAdvanceSvn s
  | .mailboxRequestDone => Sys2Proof.Machine.execMailboxRequestDone s
  | .powerOn => Sys2Proof.Machine.execPowerOn s
  | .sysResetAssert => Sys2Proof.Machine.execSysResetAssert s
  | .sysResetRelease straps refclkSys => Sys2Proof.Machine.execSysResetRelease straps refclkSys s
  | .brownout rail => Sys2Proof.Machine.execBrownout rail s
  | .thermalTrip => Sys2Proof.Machine.execThermalTrip s
  | .powerDown => Sys2Proof.Machine.execPowerDown s
  | .refclkLoss k => Sys2Proof.Machine.execRefclkLoss k s
  | .boot flashOk bankOk => Sys2Proof.Machine.execBoot flashOk bankOk s
  | .hostLinkTrain lanes => Sys2Proof.Machine.execHostLinkTrain lanes s
  | .hbmStackTrain stack ok banks spares => Sys2Proof.Machine.execHbmStackTrain stack ok banks spares s
  | .fabricPortTrain port => Sys2Proof.Machine.execFabricPortTrain port s
  | .fumaroleStart => Sys2Proof.Machine.execFumaroleStart s
  | .partnerTrainingDetect port => Sys2Proof.Machine.execPartnerTrainingDetect port s
  | .creditReturn port ackSeq credits => Sys2Proof.Machine.execCreditReturn port ackSeq credits s
  | .cardRateChange rate => Sys2Proof.Machine.execCardRateChange rate s
  | .testPortInstruction code => Sys2Proof.Machine.execTestPortInstruction code s
  | .grantRelease c spn => Sys2Proof.Machine.execGrantRelease c spn s
  | .fwCommitDone bank ok => Sys2Proof.Machine.execFwCommitDone bank ok s
  | .prefixInsertDone seq => Sys2Proof.Machine.execPrefixInsertDone seq s

end Sys2Proof.Machine
end

