-- ==== Sys2Proof/Safety.lean ====
section
/-!
DEFINITION. Sys2Proof/Safety.lean: the terms that the statements about the machine use: a device that runs, one that serves,
the outcome of a command that changes only the device, and the invariant of a stopped device.
-/

namespace Sys2Proof.Machine

/-- The device runs and stage 1 of bring-up has ended: firmware and the engines serve (R654). -/
def Serving (s : State) : Prop := s.pins.running = true ∧ s.dev.obs.stage = 2

/-- The outcome of a command that leaves the queue and the pins and makes the device `d`. -/
def did (s : State) (d : Dev) : Host.Outcome State Fault Refusal := .next { s with dev := d }

/-- A command of partition `h.part` on a serving device whose partition serves commands (R559, R615, R619). -/
def Issued (s : State) (h : CmdHdr) : Prop := Serving s ∧ fencedFor s.dev h = false

/-- A command of the operator, partition 0 (R4), on a serving device. -/
def ByOperator (s : State) (h : CmdHdr) : Prop := Serving s ∧ h.part = 0 ∧ fenced s.dev 0 = false

/-- A command of partition `h.part` that names the live session of entry i (R83). -/
def OnSession (s : State) (h : CmdHdr) (handle i : Nat) : Prop :=
  Issued s h ∧ liveOn s.dev h.part handle = some i

/-- The device with entry i named in this tick (R152). -/
def touched (d : Dev) (i : Nat) : Dev := modSess d i fun e => { e with lastTick := d.tick }

/-- The control page of entry i can be read without a thaw (R699). -/
def CtrlReady (d : Dev) (i : Nat) : Prop :=
  pageSt d (sess d i).ctrlSpn ≠ .lost ∧ pageSt d (sess d i).ctrlSpn ≠ .inn ∧ pageSt d (sess d i).ctrlSpn ≠ .tephra ∧
  ((residentFrame d (sess d i).ctrlSpn).bind fun f => (badCws d).find? fun c => c.frame == f) = none

/-- The control page of entry i can be read, and the Write event on it leads to `d1` (R699, R700). -/
def CtrlWritable (d : Dev) (i : Nat) (d1 : Dev) : Prop :=
  CtrlReady d i ∧ writeEvent d i (ownerOf d i) (sess d i).ctrlSpn false = .ok d1

/-- A fabric message that the row of type `type` takes from port p: the checks of R455, R460 and R462 pass. -/
def Accepted (d : Dev) (p : Nat) (m : FabMsg) (type role : Nat) : Prop :=
  (port d p).st = 2 ∧ (d.pwr.fumarole = false ∨ role < 2) ∧ acceptedTypes.contains m.type = true ∧ m.type = type ∧
  hasRole d m.src role = true ∧ m.length ≤ 67108864 ∧ isDuplicate d m.src m.type m.tag = false

/-- A buddy message that the row of type `type` takes from port p and that opens under its partition's key (R472). -/
def LahAccepted (d : Dev) (p : Nat) (m : LahMsg) (type : Nat) : Prop :=
  Accepted d p (lahHeader m) type 3 ∧ m.opens = true ∧ (part d m.part).replKeys ≠ []

/-- Context c holds thread x, which does not wait, whose core has a slot in this tick and has come to it, and whose next instruction
lies in the code view (R73, R379, R380, R385, R386, R399). -/
def CtxReady (d : Dev) (c : CtxId) (x : VCtx) : Prop :=
  ctxOf d c = some x ∧ x.wait = none ∧ coreSlot d c x = true ∧ ctxTurn d c = true ∧ x.pc < (pkgOf d x).2.codeLen ∧ x.pc % 4 = 0

/-- The rows of the pins, the rails and the test port, which act whatever the device does (R46, R681 to R684, R691). -/
def pinRow : Instr → Bool
  | .powerOn | .sysResetAssert | .sysResetRelease .. | .brownout .. | .powerDown | .testPortInstruction .. => true
  | _ => false

/-- The rows that act from the release of SYS_RESET_N: register accesses, the boot, ticks and what the links do by
themselves (R583, R654). -/
def earlyRow : Instr → Bool
  | .registerWrite .. | .postedWrite .. | .postedWriteDone .. | .loReadLatch .. | .hiWriteCommit .. | .readClear ..
  | .hwmRead .. | .setdasa .. | .i3cPrivateWrite .. | .i3cSetAddress .. | .i3cPrivateRead .. | .errlogRptrWrite ..
  | .boot .. | .refclkLoss .. | .thermalTrip | .tickBoundary | .portDown .. | .hostLinkDown | .laneRemove ..
  | .fabricPortTrain .. | .hostLinkTrain .. | .linkReplay .. | .creditReturn .. | .cardRateChange .. | .portTransmit ..
  | .manifestSeal .. | .captureEnable .. | .mudOpCoresWrite .. => true
  | _ => false

/-- What the pins may show: SYS_RESET_N is released only with power, a trip holds only while it is released (R681, R683,
R693). -/
def Pins.legal (p : Pins) : Bool := (!p.released || p.powered) && (!p.tripped || (p.released && p.refclk))

/-- Everything a stopped device held is lost, but for the flash and the fuses (R46, R682, R693). -/
def Inv (s : State) : Prop :=
  (s.pins.running = false → s.dev = s.dev.lost) ∧ s.pins.legal = true

end Sys2Proof.Machine
end

