-- ==== Sys2Proof/Certificates/Slice0/Obligations.lean ====
section
/-!
DEFINITION. Sys2Proof/Certificates/Slice0/Obligations.lean: the statements for the provers.
-/

open Sys2Proof Sys2Proof.Machine

/-- The model's queue of commands, first in, first out (log 1): a step runs the command at the front on the state
with the queue's rest, and idles on an empty queue. -/
def Obligations.StepRunsFrontCommand : Prop :=  ∀ (c : Instr) (r : List Instr) (s : State),
    step { s with pending := c :: r } = exec c { s with pending := r } ∧
    step { s with pending := [] } = .next { s with pending := [] }

/-- Every command of the table completes on every state, and none of them touches the queue's rest (log 1). -/
def Obligations.EveryCommandAnswers : Prop :=  ∀ (c : Instr) (s : State), ∃ t, exec c s = .next t ∧ t.pending = s.pending

/-- R682, R693: a device that its pins hold stopped does nothing; R654: before stage 2 only the early rows act; and
the pins are moved by the rows of the pins and by a thermal trip alone. -/
def Obligations.RowsWaitForTheirDevice : Prop :=  ∀ (c : Instr) (s : State), pinRow c = false →
    (s.pins.running = false → exec c s = .next s) ∧
    (earlyRow c = false → s.dev.obs.stage ≠ 2 → exec c s = .next s) ∧
    (c ≠ .thermalTrip → ∀ t, exec c s = .next t → t.pins = s.pins)

/-- R46, R682: the machine right after reset meets the invariant of a stopped device. -/
def Obligations.ResetMeetsInvariant : Prop := Inv State.reset

/-- R46, R681, R682, R683, R693: in every state that a step reaches from a state with the invariant, a device that is
stopped holds nothing but its flash, its fuses and the checkpoint images on its targets (R127), and the pins are in a
legal combination. -/
def Obligations.StepsKeepInvariant : Prop :=  ∀ s t : State, Inv s → step s = .next t → Inv t

/-- R47: the tick counter is 0 in the first tick after the release of SYS_RESET_N and increments at every boundary,
and its two registers show it. -/
def Obligations.TickCounterCounts : Prop :=  (∀ (s : State) (st : BitVec 16), s.pins.legal = true → s.pins.powered = true → s.pins.released = false →
    ∃ t, exec (.sysResetRelease st true) s = .next t ∧ t.pins.running = true ∧ t.dev.tick = 0) ∧
  (∀ s : State, s.pins.running = true →
    ∃ t, exec .tickBoundary s = .next t ∧ t.dev.tick = (s.dev.tick + 1) % 2 ^ 64) ∧
  (∀ d : Dev, d.tick < 2 ^ 64 → (viewReg d Addr.FSQ_TICK_CNT_LO).1 = BitVec.ofNat 32 d.tick ∧
    (viewReg d Addr.FSQ_TICK_CNT_HI).1 = BitVec.ofNat 32 (d.tick / 2 ^ 32))

/-- R46, R677, R681 to R684, R691, R693: what the pins start, stop and lose. -/
def Obligations.PinsStartAndStop : Prop :=  ∀ s : State,
    (s.pins.powered = false → exec .powerOn s = .next { s with
      dev := s.dev.lost
      pins := { s.pins with powered := true, released := false, tripped := false,
                            cause := if s.pins.cause = 2 then 2 else 0, testInstr := .idcode } }) ∧
    (∀ st : BitVec 16, s.pins.powered = true → s.pins.released = false →
      ∃ t, exec (.sysResetRelease st true) s = .next t ∧ t.pins = { s.pins with
          released := true, straps := st, refclk := true, cause := 0 } ∧ t.pending = s.pending ∧ t.dev.nv = s.dev.nv ∧
        t.dev.tick = 0 ∧ t.dev.pwr.straps = st ∧ t.dev.obs.stage = 1 ∧
        t.dev.reg.vals = [(Addr.GLB_RESET_CAUSE, BitVec.ofNat 32 (2 ^ s.pins.cause))]) ∧
    (s.pins.released = true → exec .sysResetAssert s = .next { s with
      dev := s.dev.lost
      pins := { s.pins with released := false, tripped := false, cause := if s.pins.cause = 2 then 2 else 1,
                            testInstr := tapInReset s.pins.testInstr } }) ∧
    (∀ r, r ≤ 4 → s.pins.running = true →
      ∃ t, exec (.brownout r) s = .next t ∧ t.pins = { s.pins with cause := 0 } ∧ t.pending = s.pending ∧
        t.dev.nv = s.dev.nv ∧ t.dev.tick = 0 ∧ t.dev.pwr.straps = s.pins.straps ∧ t.dev.obs.stage = 1 ∧
        t.dev.reg.vals = [(Addr.GLB_RESET_CAUSE, 1)]) ∧
    (s.pins.running = true → exec .thermalTrip s = .next { s with
      dev := s.dev.lost, pins := { s.pins with tripped := true, cause := 2 } }) ∧
    (exec .powerDown s = .next { s with
      dev := s.dev.lost
      pins := { s.pins with powered := false, released := false, tripped := false,
                            cause := if s.pins.cause = 2 then 2 else 0, testInstr := tapInReset s.pins.testInstr } }) ∧
    (∀ code : BitVec 8, s.pins.powered = true →
      exec (.testPortInstruction code) s = .next { s with pins := { s.pins with testInstr := tapOf s.pins code } })

/-- R654 to R656, R688, R443, R687: the boot, the training of a stack, the start of service, a lost reference clock.
R648, R651: the end of a wake and a partner that trains. -/
def Obligations.BringupRowsComplete : Prop :=
  (∀ s : State,
    (s.pins.running = true → s.dev.obs.stage = 1 → bits s.dev.pwr.straps.toNat 15 5 = 0 →
      (∀ ok, bankPasses s.dev ok s.dev.nv.bootBank = true →
        exec (.boot true ok) s = did s (startFirmware s.dev s.dev.nv.bootBank false)) ∧
      (∀ ok, bankPasses s.dev ok s.dev.nv.bootBank = false → bankPasses s.dev ok (1 - s.dev.nv.bootBank) = true →
        exec (.boot true ok) s = did s (startFirmware s.dev (1 - s.dev.nv.bootBank) true)) ∧
      (∀ ok, exec (.boot false ok) s = did s { s.dev with obs.stage := 0 })) ∧
    (∀ k banks spares, Serving s → k ≤ 7 → stackSettled s.dev k = false →
      (List.range k).all (stackSettled s.dev) = true →
      exec (.hbmStackTrain k true banks spares) s = did s (servePcs
        { s.dev with hbm.stks := tset s.dev.hbm.stks k ⟨true, (stackAt s.dev k).tries + 1, banks, spares, false⟩ } k) ∧
      ((stackAt s.dev k).tries < 2 → exec (.hbmStackTrain k false banks spares) s = did s
        { s.dev with hbm.stks := tset s.dev.hbm.stks k { stackAt s.dev k with tries := (stackAt s.dev k).tries + 1 } })) ∧
    (∀ p, Serving s → s.dev.plan.active = none → s.dev.plan.fwPlan = some p → (port s.dev 56).st = 2 →
      stackTrained s.dev 0 = true → exec .fumaroleStart s = did s { activatePlan s.dev p with pwr.fumarole := true }) ∧
    (∀ k, s.pins.running = true → k ≤ 3 → s.dev.pwr.refLost.contains k = false →
      exec (.refclkLoss k) s = did s (((List.range 14).map fun i => 14 * k + i).foldl losePort
        { s.dev with pwr.refLost := s.dev.pwr.refLost ++ [k] }))) ∧
  (∀ s : State, Serving s →
    (s.dev.pwr.waking = true → s.dev.pwr.st ≠ 2 → exec .wakeComplete s = did s
      ((portsUp { s.dev with pwr.st := 0, pwr.waking := false }).foldl rewidth
        { s.dev with pwr.st := 0, pwr.waking := false })) ∧
    (s.dev.pwr.waking = true → s.dev.pwr.st = 2 → ∃ t, exec .wakeComplete s = did s t ∧ t.pwr.st = 0 ∧
      t.pwr.waking = false ∧ t.sess = s.dev.sess ∧
      t.hbm.stks = tmap (fun x => { x with selfRefresh := false }) s.dev.hbm.stks) ∧
    (∀ n, n < 56 → s.dev.pwr.st = 2 → portEnabled s.dev n = true →
      exec (.partnerTrainingDetect n) s = did s (wake s.dev)))

/-- R84: SESSION_CREATE takes the lowest entry of its partition's range that is FREE and not quarantined, answers a
handle with its stored generation, and ends with ST_NO_CAPACITY where there is none. -/
def Obligations.SessionCreateTakesLowestEntry : Prop :=  (∀ (d : Dev) (p i : Nat), freeEntryOf d p = some i →
    (part d p).cfg.sessBase ≤ i ∧ i < (part d p).cfg.sessBase + (part d p).cfg.sessCount ∧ (sess d i).st = .free ∧
    (sess d i).quar = false ∧
    ∀ j, (part d p).cfg.sessBase ≤ j → j < i → ¬ ((sess d j).st = .free ∧ (sess d j).quar = false)) ∧
  (∀ (d : Dev) (p : Nat), freeEntryOf d p = none →
    ∀ j, (part d p).cfg.sessBase ≤ j → j < (part d p).cfg.sessBase + (part d p).cfg.sessCount →
      ¬ ((sess d j).st = .free ∧ (sess d j).quar = false)) ∧
  (∀ (s : State) (h : CmdHdr) (model mode sink adapter topk recent ver : Nat) (tau : F32),
    Issued s h → modelUsable s.dev h.part model = true →
    firstFail (selectChecks mode tau.toNat topk sink recent (7, 11, 12, 8, 13)) = none →
    adapterVersion s.dev h.part adapter model = some ver →
    (s.dev.pwr.fumarole && (mode != 0 || gated s.dev h.part)) = false →
    gatedAlone s.dev h.part = false → keysMissing s.dev h.part = false →
    (freeEntryOf s.dev h.part = none →
      exec (.sessionCreate h model mode sink adapter tau topk recent) s = did s (reply s.dev h 0x0101 (stw stNoCap 0))) ∧
    (∀ (i : Nat) (d : Dev), freeEntryOf s.dev h.part = some i →
      createSession (drawSeed s.dev).2 h i model adapter ver (drawSeed s.dev).1
        { Ctrl.initial (drawSeed s.dev).1 h.chan with
          tau := tau, topkK := topk, sinkPages := sink, recentPages := recent } mode = .ok d →
      exec (.sessionCreate h model mode sink adapter tau topk recent) s =
        did s (replyBody d h 0x0101 stOk (leBytes 8 (handleOf d i) ++ leBytes 8 (drawSeed s.dev).1)) ∧
      (sess d i).gen = (sess s.dev i).gen ∧ hGen (handleOf d i) = (sess s.dev i).gen % 2 ^ 32))

/-- R97, R562, R202, R300: the commands on a live session. -/
def Obligations.SessionCommandsComplete : Prop :=  ∀ (s : State) (h : CmdHdr) (handle i : Nat),
    (Serving s → (h.part = 0 ∨ (hPart handle = h.part ∧ fencedFor s.dev h = false)) → live s.dev handle = some i →
      exec (.sessionDestroy h handle) s = did s (reply (destroySession s.dev i h.seq) h 0x0102 stOk)) ∧
    (OnSession s h handle i →
      exec (.sessionInfo h handle) s = did s (replyBody (touched s.dev i) h 0x0108 stOk
        (leBytes 1 (SessSt.code (sess s.dev i).st) ++ leBytes 1 (sess s.dev i).select ++
          leBytes 1 (sess s.dev i).model ++ leBytes 1 (sess s.dev i).degReason ++ leBytes 4 (sess s.dev i).length ++
          leBytes 4 (sess s.dev i).adapter ++ leBytes 4 (allSpns (sess s.dev i)).length))) ∧
    (∀ (mode sink topk recent : Nat) (tau : F32) (d1 : Dev), OnSession s h handle i →
      firstFail (selectChecks mode tau.toNat topk sink recent (7, 12, 9, 8, 10)) = none →
      (attaching (touched s.dev i) i || stepInProgress (touched s.dev i) i || (s.dev.pwr.fumarole && mode != 0)) = false →
      CtrlWritable (touched s.dev i) i d1 →
      exec (.sessionSetSelect h handle mode sink topk recent tau) s =
        did s (reply (modSess d1 i fun e => { e with select := mode, ctrl := { e.ctrl with
          tau := tau, topkK := topk, sinkPages := sink, recentPages := recent } }) h 0x0105 stOk)) ∧
    (∀ (adapter v : Nat), OnSession s h handle i →
      adapterVersion (touched s.dev i) h.part adapter (sess s.dev i).model = some v →
      stepInProgress (touched s.dev i) i = false →
      exec (.sessionSetAdapter h handle adapter) s =
        did s (replyBody (modSess (releaseVersion (holdVersion (touched s.dev i) adapter v) (sess s.dev i).adapter
          (sess s.dev i).adpVersion) i fun e => { e with adapter := adapter, adpVersion := v }) h 0x0106 stOk
          (leBytes 4 v ++ leBytes 12 0)))

/-- R85, R97: a destroyed session's entry takes the next generation, or is quarantined and counted; its pages go when
no admitted request keeps them; SESSION_CREATE never takes a quarantined entry. -/
def Obligations.DestroyedEntryMovesOn : Prop :=  (∀ (s : State) (h : CmdHdr) (handle i : Nat), Serving s →
    (h.part = 0 ∨ (hPart handle = h.part ∧ fencedFor s.dev h = false)) → live s.dev handle = some i →
    (sess s.dev i).quar = false →
    ∃ t, exec (.sessionDestroy h handle) s = did s t ∧
      ((sess s.dev i).gen ≠ 0xFFFFFFFF → (sess t i).gen = (sess s.dev i).gen + 1 ∧ (sess t i).quar = false) ∧
      ((sess s.dev i).gen = 0xFFFFFFFF → (sess t i).gen = 0xFFFFFFFF ∧ (sess t i).quar = true ∧
        rd t Addr.SPM_QUAR_CNT = min (rd s.dev Addr.SPM_QUAR_CNT + 1) 0xFFFFFFFF) ∧
      ((sess t i).st = .free ∨ (sess t i).doomed = true)) ∧
  (∀ (d : Dev) (p i : Nat), freeEntryOf d p = some i → (sess d i).st = .free ∧ (sess d i).quar = false)

/-- R115, R116, R135, R153: forks and parks. -/
def Obligations.ForksAndParksComplete : Prop :=  ∀ (s : State) (h : CmdHdr) (handle i : Nat),
    (∀ (seed c : Nat) (d1 : Dev), OnSession s h handle i → forkParkState (sess s.dev i) = none →
      (gatedAlone (touched s.dev i) h.part || attaching (touched s.dev i) i || stepBars (touched s.dev i) i) = false →
      inFlight (touched s.dev i) (sess (touched s.dev i) i) = false →
      ctrlPlace (touched s.dev i) (sess (touched s.dev i) i) = .here →
      freeEntryOf (touched s.dev i) h.part = some c →
      forkInto (touched s.dev i) h i c seed none = .ok d1 →
      exec (.sessionFork h handle seed) s = did s (putFork d1 ⟨h, i, seed, some c, false⟩)) ∧
    (∀ (k seed c : Nat), Serving s → forkOf s.dev h.seq = some ⟨h, k, seed, some c, false⟩ →
      svcSlot s.dev .spmPort h.part = true → (s.dev.pfx.jobs.any fun j => j.cmd == h) = false →
      let d1 := endFork s.dev h k
      exec (.forkComplete h.seq) s = did s (serveHeld (replyBody d1 h 0x0103 stOk
        (leBytes 8 (handleOf d1 c) ++ leBytes 8 (sess d1 c).ctrl.sampling.seed)))) ∧
    (∀ (pflags : Nat) (d2 : Dev), OnSession s h handle i → pflags ≤ 1 → s.dev.pwr.fumarole = false →
      (part s.dev h.part).tierKeys ≠ [] → forkParkState (sess s.dev i) = none → (sess s.dev i).st ≠ .parked →
      (forking (touched s.dev i) i || (!bit pflags 0 && codecWaits (touched s.dev i) i)) = false →
      (attaching (touched s.dev i) i || stepBars (touched s.dev i) i) = false →
      let need := beforePark (touched s.dev i) i (bit pflags 0)
      reserveUnits (touched s.dev i) h.part (unitsNeeded need (parkList need i (bit pflags 0))) = (d2, none) →
      let t := beforePark d2 i (bit pflags 0)
      let d3 := if bit pflags 0 then t else modSess t i fun e => { e with st := .parked }
      let r := parkAll d3 i h.seq (parkList d3 i (bit pflags 0))
      exec (.sessionPark h handle pflags) s = did s (settleParks { r.2 with pg.parks := r.2.pg.parks ++ [(h, i, r.1)] })) ∧
    (Serving s → s.dev.pwr.fumarole = false → poolFree s.dev < lim s.dev Addr.TMC_POOL_LOW →
      let a := { s.dev with pg.ageParking := true }
      ∀ (d2 : Dev) (older younger : List Nat), agedSessions a = older ++ i :: younger →
        (∀ j ∈ older, ageable a j = false) → ageable a i = true → (sess (beforePark d2 i false) i).st = .active →
        reserveUnits a (ownerOf a i) (unitsNeeded (beforePark a i false) (parkList (beforePark a i false) i false)) =
          (d2, none) →
        let d3 := modSess (beforePark d2 i false) i fun e => { e with st := .parked }
        exec .agePark s = did s (bump (parkAll d3 i 0 (parkList d3 i false)).2 Addr.TMC_AGE_PARK_CNT))

/-- R592: a write to an RW register that is no half of a pair and has no ring of its own takes effect at once. R584,
R585, R592, R595: a refused write leaves every register and is logged with its status. -/
def Obligations.RegisterWrites : Prop :=
  (∀ (s : State) (m a : Nat) (row : RegRow) (v : Word),
    s.pins.running = true → answers s.dev m = true → a % 4 = 0 → regRowAt a = some row → row.kind = .rw →
    blockAnswers s.dev a = true → (row.prv && !privileged m) = false → isLo a = false → isHi a = false →
    a ≠ Addr.ELG_CAP_CTRL → a ≠ Addr.TSH_SAMPLE_CTRL → rwOk s.dev a v.toNat = true →
    exec (.registerWrite m a 4 v) s = did s (regSet s.dev a v) ∧ regGet (regSet s.dev a v) a = v ∧
    ∀ b, b ≠ a → regGet (regSet s.dev a v) b = regGet s.dev b) ∧
  (∀ (s : State) (m a : Nat) (v : Word), s.pins.running = true → answers s.dev m = true →
    (a % 4 ≠ 0 → exec (.registerWrite m a 4 v) s = did s (refuseWrite s.dev m 0x0305 a)) ∧
    (a % 4 = 0 → regRowAt a = none → exec (.registerWrite m a 4 v) s = did s (refuseWrite s.dev m 0x0301 a)) ∧
    (a % 4 = 0 → (regRowAt a).isSome = true → blockAnswers s.dev a = false →
      exec (.registerWrite m a 4 v) s = did s (refuseWrite s.dev m 0x0301 a)) ∧
    (∀ row, a % 4 = 0 → regRowAt a = some row → blockAnswers s.dev a = true → row.prv = true → privileged m = false →
      exec (.registerWrite m a 4 v) s = did s (refuseWrite s.dev m 0xC002 a)) ∧
    (∀ row, a % 4 = 0 → regRowAt a = some row → blockAnswers s.dev a = true → privileged m = true → row.kind = .rw →
      isLo a = false → isHi a = false → rwOk s.dev a v.toNat = false →
      exec (.registerWrite m a 4 v) s = did s (refuseWrite s.dev m 0x0304 a)) ∧
    (∀ b, b ≠ Addr.GLB_ALERT_STATUS → b ≠ Addr.GLB_ERRLOG_OVF → ∀ st,
      regGet (refuseWrite s.dev m st a) b = regGet s.dev b))

/-- R594, R595, R603: one error-log entry: its index, its fields, the pointer, the alert bit, and what stays. -/
def Obligations.ErrorLogEntryWritten : Prop :=  ∀ (d : Dev) (m status a : Nat),
    tget (refuseWrite d m status a).reg.errlog (d.reg.wptr % 4096) =
      some ⟨d.reg.wptr, status, 0x40 + m, 0xFF, d.tick, 0xFFFFFFFFFFFF, 0, a⟩ ∧
    (∀ i, i ≠ d.reg.wptr % 4096 → tget (refuseWrite d m status a).reg.errlog i = tget d.reg.errlog i) ∧
    (refuseWrite d m status a).reg.wptr = (d.reg.wptr + 1) % 2 ^ 32 ∧
    bit (rd (refuseWrite d m status a) Addr.GLB_ALERT_STATUS) 0 = true ∧
    (∀ e, tget d.reg.errlog (d.reg.wptr % 4096) = some e → errUnconsumed d e = true →
      rd (refuseWrite d m status a) Addr.GLB_ERRLOG_OVF = min (rd d Addr.GLB_ERRLOG_OVF + 1) 0xFFFFFFFF) ∧
    (refuseWrite d m status a).sess = d.sess ∧ (refuseWrite d m status a).pg = d.pg ∧
    (refuseWrite d m status a).led = d.led ∧ (refuseWrite d m status a).nv = d.nv

/-- R591: a posted write: BUSY while it runs, DROPPED for a write that finds it, the value once it has taken effect. -/
def Obligations.PostedWritesTakeTurns : Prop :=  ∀ (s : State) (m a : Nat) (row : RegRow) (v : Word),
    s.pins.running = true → answers s.dev m = true → a % 4 = 0 → regRowAt a = some row → row.kind = .wp →
    blockAnswers s.dev a = true → (row.prv && !privileged m) = false →
    (domainBusy s.dev (domainOf a) = false → wpOk s.dev a v.toNat = true →
      exec (.postedWrite m a v) s =
        did s { s.dev with reg.posted := tset s.dev.reg.posted (domainOf a) (a, v) } ∧
      domainBusy { s.dev with reg.posted := tset s.dev.reg.posted (domainOf a) (a, v) } (domainOf a) = true) ∧
    (domainBusy s.dev (domainOf a) = true →
      exec (.postedWrite m a v) s =
        did s (refuseWrite (regSet s.dev (domainStatus (domainOf a))
          (regGet s.dev (domainStatus (domainOf a)) ||| 0x40000000)) m 0x0603 a)) ∧
    (∀ k, tget s.dev.reg.posted k = some (a, v) →
      exec (.postedWriteDone k) s = did s (takeEffect { s.dev with reg.posted := tdel s.dev.reg.posted k } a v)) ∧
    (domainOf a = 0 → takeEffect s.dev a v = regSet s.dev a v)

/-- R589, R590: a pair is read and written whole. -/
def Obligations.PairsAreConsistent : Prop :=  ∀ (s : State) (m a : Nat) (r1 r2 : RegRow) (v w : Word),
    s.pins.running = true → answers s.dev m = true → a % 4 = 0 → isLo a = true → isHi a = false →
    isLo (a + 4) = false → regRowAt a = some r1 → regRowAt (a + 4) = some r2 →
    blockAnswers s.dev a = true → blockAnswers s.dev (a + 4) = true →
    (r1.prv && !privileged m) = false → (r2.prv && !privileged m) = false →
    (r1.kind = .ro → r2.kind = .ro → isFree a = false →
      ∃ t, exec (.loReadLatch m a) s = did s t ∧ t.reg.readOut = [BitVec.ofNat 32 (viewNat s.dev a)] ∧
        (readReg t m (a + 4)).1 = BitVec.ofNat 32 (viewNat s.dev (a + 4)) ∧ t.reg.vals = s.dev.reg.vals) ∧
    (r1.kind = .rw → r2.kind = .rw → tget s.dev.reg.holding (ownKey m a) = some w →
      ∃ t, exec (.hiWriteCommit m (a + 4) v) s = did s t ∧ regGet t (a + 4) = v ∧ regGet t a = w ∧
        (∀ b, b ≠ a → b ≠ a + 4 → regGet t b = regGet s.dev b) ∧
        (tsorted s.dev.reg.holding = true → tget t.reg.holding (ownKey m a) = none)) ∧
    (r1.kind = .rw → r2.kind = .rw → tget s.dev.reg.holding (ownKey m a) = none →
      ∃ t, exec (.hiWriteCommit m (a + 4) v) s = did s t ∧ regGet t (a + 4) = v ∧ regGet t a = regGet s.dev a ∧
        ∀ b, b ≠ a → b ≠ a + 4 → regGet t b = regGet s.dev b) ∧
    (tget s.dev.reg.shadow (ownKey m (a + 4)) = none → (readReg s.dev m (a + 4)).1 = 0) ∧
    (r1.kind = .rw → ∃ t, exec (.registerWrite m a 4 w) s = did s t ∧
      tget t.reg.holding (ownKey m a) = some w ∧ t.reg.vals = s.dev.reg.vals)

/-- R586, R499: what a clearing read returns and clears. R598, R605, R608, R609, R416: the writes with a rule of
their own. -/
def Obligations.ClearingReadsAndRingWrites : Prop :=
  (∀ (s : State) (m a : Nat) (row : RegRow), s.pins.running = true → answers s.dev m = true → a % 4 = 0 →
    regRowAt a = some row → row.kind = .rc → blockAnswers s.dev a = true → (row.prv && !privileged m) = false →
    isLo a = false → isHi a = false → isFree a = false →
    (a ≠ Addr.TSH_HWM_DEPTH → a ≠ Addr.TSH_HWM_DELAY → isPhysicalCount a = false →
      ∃ t, exec (.readClear m a) s = did s t ∧ t.reg.readOut = [BitVec.ofNat 32 (viewNat s.dev a)] ∧ regGet t a = 0 ∧
        ∀ b, b ≠ a → regGet t b = regGet s.dev b) ∧
    (isPhysicalCount a = true → a ≠ Addr.TSH_HWM_DEPTH → a ≠ Addr.TSH_HWM_DELAY →
      ∃ t, exec (.readClear m a) s = did s t ∧ t.reg.readOut = [BitVec.ofNat 32 (viewNat s.dev a)] ∧
        tget t.reg.physFrom a = some s.dev.tick ∧ t.reg.vals = s.dev.reg.vals) ∧
    (a = Addr.OBS_MBOX_STATUS → ∃ t, exec (.readClear m a) s = did s t ∧ t.obs.mboxStatus = 0) ∧
    (a = Addr.TSH_HWM_DEPTH →
      ∃ t, exec (.hwmRead m a) s = did s t ∧ t.reg.readOut = [BitVec.ofNat 32 (viewNat s.dev a)] ∧
        tget t.tsh.hwm (bits (rd s.dev Addr.TSH_HWM_SEL) 17 0) = some (0, (selectedMarks s.dev).2)) ∧
    (a = Addr.TSH_HWM_DELAY →
      ∃ t, exec (.hwmRead m a) s = did s t ∧ t.reg.readOut = [BitVec.ofNat 32 (viewNat s.dev a)] ∧
        tget t.tsh.hwm (bits (rd s.dev Addr.TSH_HWM_SEL) 17 0) = some ((selectedMarks s.dev).1, 0))) ∧
  (∀ (s : State) (m : Nat) (v : Word), s.pins.running = true → s.dev.obs.stage = 2 → m < 2 → answers s.dev m = true →
    (v.toNat = (s.dev.tick + 1) % 2 ^ 32 → s.dev.plan.copying = false →
      exec (.manifestSeal m v) s = did s { s.dev with
        plan.sealed := some (manBase s.dev, bits (rd s.dev Addr.FSQ_MANIFEST_COUNT) 16 0),
        plan.copying := true }) ∧
    (v.toNat ≠ (s.dev.tick + 1) % 2 ^ 32 ∨ s.dev.plan.copying = true →
      exec (.manifestSeal m v) s = did s (refuseWrite s.dev m 0x0304 Addr.FSQ_MANIFEST_SEAL)) ∧
    (∀ base n, s.dev.plan.copying = true → s.dev.plan.sealed = some (base, n) →
      let es := (List.range n).map fun k => manOf (Memory.readBytes s.dev.plan.caldera (base + 32 * k) 32)
      exec .manifestCopyDone s = did s { s.dev with plan.copying := false, plan.store := es }) ∧
    (s.dev.plan.copying = false → exec .manifestCopyDone s = did s s.dev) ∧
    (precedes 32 s.dev.reg.wptr v.toNat = false →
      exec (.errlogRptrWrite m v) s = did s (regSet s.dev Addr.GLB_ERRLOG_RPTR v)) ∧
    (precedes 32 s.dev.reg.wptr v.toNat = true →
      exec (.errlogRptrWrite m v) s = did s (refuseWrite s.dev m 0x0304 Addr.GLB_ERRLOG_RPTR)) ∧
    (rwOk s.dev Addr.ELG_CAP_CTRL v.toNat = true → bit v.toNat 31 = true → bit (rd s.dev Addr.ELG_CAP_CTRL) 31 = false →
      exec (.captureEnable m v) s =
        did s (regSet { s.dev with led.wptr := 0, led.buf := [] } Addr.ELG_CAP_CTRL v)) ∧
    (domainBusy s.dev 0 = false → v.toNat ≤ 8 → mudpotLoaded s.dev = false →
      exec (.mudOpCoresWrite m v) s =
        did s { s.dev with reg.posted := tset s.dev.reg.posted 0 (Addr.MUD_OP_CORES, v) }) ∧
    (domainBusy s.dev 0 = false → mudpotLoaded s.dev = true →
      exec (.mudOpCoresWrite m v) s = did s (refuseWrite s.dev m 0x0304 Addr.MUD_OP_CORES)))

/-- R581, R582, R690: the management port. -/
def Obligations.ManagementPortAccess : Prop :=  ∀ (s : State) (a : Nat) (v : Word), s.pins.running = true →
    (∀ dyn, s.dev.reg.dynAddr = none → dyn < 128 →
      exec (.setdasa (staticAddr s.dev) dyn) s = did s { s.dev with reg.dynAddr := some dyn }) ∧
    (s.dev.reg.dynAddr.isSome = true →
      exec (.i3cPrivateWrite a v) s =
        did s { writeReg s.dev 1 a 4 v with reg.cur := (a + 4) % 2 ^ 32 } ∧
      exec (.i3cSetAddress a) s = did s { s.dev with reg.cur := a % 2 ^ 32 } ∧
      exec (.i3cPrivateRead 1) s =
        did s { (readReg { s.dev with reg.readOut := [] } 1 s.dev.reg.cur).2 with
          reg.readOut := (readReg { s.dev with reg.readOut := [] } 1 s.dev.reg.cur).2.reg.readOut ++
            [(readReg { s.dev with reg.readOut := [] } 1 s.dev.reg.cur).1],
          reg.cur := ((readReg { s.dev with reg.readOut := [] } 1 s.dev.reg.cur).2.reg.cur + 4) % 2 ^ 32 } ∧
      ∀ k, exec (.i3cPrivateRead k) s = did s (readRun k { s.dev with reg.readOut := [] }))

/-- R639, R644: the mailbox requests. -/
def Obligations.MailboxRequestsComplete : Prop :=  ∀ (s : State) (v : Nat), Serving s →
    (s.dev.obs.mbox = some (1, v) → v % 64 = 0 →
      exec .readIdentityCert s = did s (mboxResult s.dev stOk (certWords Config.identityCert v))) ∧
    (s.dev.obs.mbox = some (2, v) → v % 64 = 0 →
      exec .readAliasCert s = did s (mboxResult s.dev stOk (certWords (aliasCert s.dev) v))) ∧
    (s.dev.obs.mbox = some (3, v) → 1 ≤ v → v ≤ 64 → v ≤ s.dev.obs.running.svn → s.dev.nv.minSvn ≤ v →
      exec .advanceSvn s = did s (mboxResult { s.dev with nv := { s.dev.nv with minSvn := v } } stOk [])) ∧
    (∀ r, s.dev.obs.mbox = some (r, v) → r = 0 ∨ 3 < r →
      exec .mailboxRequestDone s = did s (mboxResult s.dev (stw stOpcode 0) [])) ∧
    (s.dev.obs.mbox = some (1, v) → v % 64 = 0 →
      exec .mailboxRequestDone s = did s (mboxResult s.dev stOk (certWords Config.identityCert v)))

/-- R283 to R287, R560, R561: the delivery of a model descriptor, its grant and its unload. R290 to R294: a switch
begins with MODEL_BIND and goes through its phases. -/
def Obligations.ModelCommandsComplete : Prop :=
  (∀ (s : State) (h : CmdHdr) (m : Nat), ByOperator s h →
    (∀ (length : Nat) (fs : List Nat) (d1 : Dev), m ≤ 31 → length % 64 = 0 → 128 ≤ length → length ≤ 0xFFFFFFC0 →
      (model s.dev m).img.st = 0 → allocOwnMany s.dev false 0 (ceilDiv length 65536) = .ok (fs, d1) →
      exec (.modelLoad h m length) s = did s (reply (setModel d1 m
        { Model.empty with img := { st := 1, length := length, frames := fs, digest := [] } }) h 0x0201 stOk)) ∧
    (∀ (offset : Nat) (data : List Byte), (model s.dev m).img.st = 1 → offset % 16 = 0 → data ≠ [] → data.length ≤ 65536 →
      offset + data.length ≤ (model s.dev m).img.length →
      exec (.modelData h m offset data) s =
        did s (reply (imageWrite s.dev (model s.dev m).img 3 offset data) h 0x0202 stOk)) ∧
    (∀ (digest : List Byte), (model s.dev m).img.st = 1 → badAmong s.dev (model s.dev m).img.frames = none →
      sha256 (imageAll s.dev (model s.dev m).img) = digest →
      (descrFault (imageAll s.dev (model s.dev m).img) = none →
        exec (.modelCommit h m digest) s = did s (reply (setModel s.dev m { model s.dev m with
          img := { (model s.dev m).img with st := 2, digest := digest },
          desc := some (descrFrom (imageAll s.dev (model s.dev m).img)), mask := 1,
          map := (descrFrom (imageAll s.dev (model s.dev m).img)).layers.map fun _ => 0 }) h 0x0203 stOk)) ∧
      (∀ o, descrFault (imageAll s.dev (model s.dev m).img) = some o →
        exec (.modelCommit h m digest) s =
          did s (replyBody s.dev h 0x0203 (stw stParam 0) (leBytes 4 o ++ leBytes 12 0)))) ∧
    (m ≤ 31 → (model s.dev m).img.st ≠ 0 →
      ((model s.dev m).img.st = 2 → modelNamed s.dev m = false ∧ (s.dev.mdl.pipes.any fun p => p.2.bound == some m) = false ∧
        (s.dev.mdl.switches.any fun w => w.model == m) = false) →
      let d1 := dropAdapters (dropBooks (freeFrames s.dev (model s.dev m).img.frames) m) m
      exec (.modelUnload h m) s = did s (reply { d1 with mdl.slots := tdel d1.mdl.slots m } h 0x0204 stOk)) ∧
    (m ≤ 31 → (model s.dev m).img.st = 0 → exec (.modelUnload h m) s = did s (reply s.dev h 0x0204 stOk)) ∧
    (∀ (mask : BitVec 256), m ≤ 31 → (model s.dev m).img.st = 2 →
      (s.dev.sess.any fun q => q.2.st != .free && q.2.model == m && !(mask ||| 1).getLsbD (ownerOf s.dev q.1)) = false →
      exec (.modelGrant h m mask) s =
        did s (reply (setModel s.dev m { model s.dev m with mask := mask ||| 1 }) h 0x0205 stOk) ∧
      (mask ||| 1).getLsbD 0 = true)) ∧
  (∀ (s : State) (h : CmdHdr) (first size m : Nat),
    (ByOperator s h → firstFail (bindChecks s.dev first size m) = none →
      let w : Switch :=
        { cmd := h, first := first, size := size, model := m, phase := 0, start := h.tick, phaseTick := s.dev.tick }
      let d1 := { s.dev with mdl.switches := s.dev.mdl.switches ++ [w], pwr.busySimmer := true }
      m = 0xFF ∨ windowUsed d1 ≤ windowSize d1 → exec (.modelBind h first size m) s = did s d1) ∧
    (∀ (w : Switch) (failed : Option Nat), Serving s → (s.dev.mdl.switches.find? fun w => w.first == first) = some w →
      let d1 := { s.dev with pwr.busySimmer := true }
      (w.phase = 0 → groupBusy d1 w = false → w.start < s.dev.tick → w.model = 0xFF →
        exec (.switchPhaseEnd first failed) s = did s (endSwitch d1 w none stOk)) ∧
      (w.phase = 0 → groupBusy d1 w = false → w.start < s.dev.tick → w.model ≠ 0xFF →
        exec (.switchPhaseEnd first failed) s =
          did s (setSwitch d1 { w with phase := if coreThere d1 w then 2 else 1, phaseTick := s.dev.tick })) ∧
      (w.phase = 1 → w.phaseTick + coreGranules s.dev w.model ≤ s.dev.tick →
        exec (.switchPhaseEnd first failed) s = did s (setSwitch d1 { w with phase := 2, phaseTick := s.dev.tick })) ∧
      (w.phase = 2 → w.phaseTick + 6 * w.size ≤ s.dev.tick →
        exec (.switchPhaseEnd first failed) s = did s (setSwitch d1 { w with phase := 3, phaseTick := s.dev.tick })) ∧
      (w.phase = 3 → w.phaseTick + 46 ≤ s.dev.tick →
        exec (.switchPhaseEnd first none) s =
          did s (bump (endSwitch d1 w (some w.model) stOk) Addr.ADP_SWITCH_CNT)) ∧
      (∀ k, w.phase = 3 → w.phaseTick + 46 ≤ s.dev.tick → k < w.size →
        exec (.switchPhaseEnd first (some k)) s =
          did s (endSwitch (setPipe d1 (w.first + k) { pipe d1 (w.first + k) with st := 3 }) w none
            (stw stInternal k)))))

/-- R226, R227: the formats and the maps of the Sinter codec. R231 to R234, R238 to R241, R252: the background work
of the Sinter codec. -/
def Obligations.SinterCommandsComplete : Prop :=
  (∀ (s : State) (h : CmdHdr), ByOperator s h →
    (∀ (n kind run dk dv refMax keep rounds : Nat), 1 ≤ n → n ≤ 15 → kind ≤ 1 → (kind = 0 → 4 ≤ run ∧ run ≤ 8) →
      (kind = 0 → dk ∈ [2, 4, 8, 16]) → dv ∈ [2, 4, 8, 16] → refMax ≤ 64 → (kind = 1 → refMax = 0) →
      1 ≤ rounds → rounds ≤ 15 → formatNamed s.dev n = false →
      exec (.sinterFormatSet h n kind run dk dv refMax keep rounds) s =
        did s (reply { s.dev with snt.fmts := tset s.dev.snt.fmts n ⟨kind, run, dk, dv, refMax, keep, rounds⟩ } h 0x020B stOk)) ∧
    (∀ (m : Nat) (map : List Byte) (ds : Descr), m < 32 → modelDesc s.dev m = some ds →
      (((List.range 256).map (mapEntry map)).zipIdx.any fun (v, i) => badEntry s.dev ds.layers[i]? v) = false →
      exec (.sinterMapSet h m map) s =
        did s (reply { s.dev with mdl.slots := tmod s.dev.mdl.slots m fun x =>
          { x with map := ((List.range 256).map (mapEntry map)).take ds.layers.length } } h 0x020C stOk))) ∧
  (∀ (s : State) (i l : Nat), Serving s → s.dev.pwr.fumarole = false →
    (∀ (dom m target : Nat) (ld : LayerDesc) (fm : Fmt),
      let d := { s.dev with pwr.busySimmer := true }
      let b := bookAt d (bookKey dom m l)
      (b.cur = none ∧ target = 0) ∨ (b.cur = some (1 - target) ∧ target ≤ 1) →
      s.dev.pwr.st < 1 → bgSlot s.dev 6 = true → (modelDesc s.dev m).bind (·.layers[l]?) = some ld →
      tget s.dev.snt.fmts (mapFmt s.dev m l) = some fm → confidential s.dev dom = false → buildDue d dom m l ld b = true →
      slotUses d (bookKey dom m l) target = 0 → ld.kind ≠ 2 →
      256 ≤ ((samplePages d dom m l ld).map (·.n)).sum → ((samplePages d dom m l ld).any fun q => inWindow d q.frame) = false →
      exec (.bookBuild dom m l) s = did s (noteBg 6 (finishBuild d fm ld dom m l target (samplePages d dom m l ld)))) ∧
    (∀ (k slot f spn : Nat) (ld : LayerDesc) (x : LayerSt) (fm : Fmt) (d1 d2 : Dev),
      let e := sess s.dev i
      let p := ownerOf s.dev i
      let dom := bookDomain s.dev p
      let run := slice x.pages k fm.run
      s.dev.pwr.st < 2 → bgSlot s.dev 6 = true → layerOf s.dev e l = some ld → e.layers[l]? = some x →
      tget s.dev.snt.fmts (mapFmt s.dev e.model l) = some fm → e.st ≠ .free → ld.kind ≠ 2 → fm.kind = 0 →
      confidential s.dev p = false → runShape s.dev fm ld x k = true →
      (s.dev.snt.retry.any fun r => r.1 == i && r.2.1 == l) = false → earlierRun s.dev i l k = false →
      (bookAt s.dev (bookKey dom e.model l)).cur = some slot →
      (s.dev.reqs.any fun r => r.entry == i && r.layer == l && r.phase != .waiting) = false →
      (run.all fun q => row28 s.dev q.spn) = true → badAmong s.dev (run.filterMap fun q => residentFrame s.dev q.spn) = none →
      allocFrame s.dev p true (homeStack i l) = .ok (f, d1) → allocSpn d1 i = .ok (spn, d2) →
      let r := encodeRun d2 e l (mapFmt s.dev e.model l) dom slot fm ld run
      exec (.runEncode i l k) s = did s (noteBg 6 (noteError
        (replaceRun d2 i l k (mapFmt s.dev e.model l) dom slot spn f run r.1) (bookKey dom e.model l) r.2))) ∧
    exec (.codedRunRetry i l) s = did s { s.dev with
      snt.retry := s.dev.snt.retry.filter fun r => !(r.1 == i && r.2.1 == l && decide (r.2.2 ≤ s.dev.tick)) } ∧
    (∀ (spn : Nat) (q : Pte) (ld : LayerDesc) (x : LayerSt) (rows : List (List F32)) (d2 : Dev),
      let e := sess s.dev q.owner
      pte s.dev spn = some q → q.cmp = true → layerWith e spn = some l → layerOf s.dev e l = some ld →
      e.layers[l]? = some x → ld.kind = 2 → svcSlot s.dev .codec (ownerOf s.dev q.owner) = true → (x.pages.all fun p => pageSt s.dev p.spn == .hbm && isCoded s.dev p.spn) = true →
      badAmong s.dev (x.pages.filterMap fun p => residentFrame s.dev p.spn) = none →
      decodeStatePages s.dev e l ld x.pages = .ok rows →
      let bytes := patBytes ld.elem (rows.flatten.map fun v => narrow (elemFmt ld.elem) v)
      writeStatePages (modLayer s.dev q.owner l fun x => { x with pages := [] }) q.owner (ownerOf s.dev q.owner) l
        (chunks 65536 bytes.length bytes) = .ok d2 →
      exec (.stateDecode spn) s = did s (activate (dropPages d2 (x.pages.map (·.spn))) q.owner)))

/-- R295 to R302, R560: the delivery of an adapter and its drop. -/
def Obligations.AdapterObjectCommandsComplete : Prop :=  ∀ (s : State) (h : CmdHdr) (id : Nat), Issued s h → ownAdapter s.dev h.part id = true →
    (∀ (length : Nat) (fs : List Nat) (d1 : Dev), length % 64 = 0 → 128 ≤ length → length ≤ 1073741824 →
      (part s.dev h.part).cfg.adpQuota ≠ 0 → keysMissing s.dev h.part = false → (adpId s.dev id).stage = none →
      cacheFrames s.dev h.part 0 (ceilDiv length 65536) = some (fs, d1) →
      exec (.adapterLoad h id length) s = did s (reply (setAdp d1 id { adpId d1 id with
        stage := some { st := 1, length := length, frames := fs, digest := [] } }) h 0x0207 stOk)) ∧
    (∀ (offset : Nat) (data : List Byte), (adpId s.dev id).commit = none → (stageOf s.dev id).st = 1 → offset % 16 = 0 →
      data ≠ [] → data.length ≤ 65536 → offset + data.length ≤ (stageOf s.dev id).length →
      exec (.adapterData h id offset data) s =
        did s (reply (imageWrite s.dev (stageOf s.dev id) 3 offset data) h 0x0208 stOk)) ∧
    (∀ (digest : List Byte) (key : Nat × List Byte) (d1 d2 d3 : Dev) (units : List Nat),
      (adpId s.dev id).commit = none → sealKey s.dev h.part = some key → (stageOf s.dev id).st = 1 →
      badAmong s.dev (stageOf s.dev id).frames = none → sha256 (imageAll s.dev (stageOf s.dev id)) = digest →
      adapterFault s.dev id (imageAll s.dev (stageOf s.dev id)) = none → makeRoom s.dev id = some d1 →
      reserveUnits d1 h.part (stageOf s.dev id).frames.length = (d2, none) →
      writeUnits h.part h.seq key d2 (stageOf s.dev id).frames = some (units, d3) →
      exec (.adapterCommit h id digest) s = did s (setAdp d3 id { adpId d3 id with
        commit := some h, waiting := units,
        vers := (adpId d3 id).vers ++ [⟨(adpId d3 id).last + 1, field (imageAll s.dev (stageOf s.dev id)) 6 1,
          (stageOf s.dev id).length, segmentsOf (imageAll s.dev (stageOf s.dev id)), units, 0, false⟩] })) ∧
    ((adpId s.dev id).stage = none →
      exec (.adapterDrop h id) s = did s (reply (dropCurrent s.dev id) h 0x020A stOk)) ∧
    (∀ img, (adpId s.dev id).stage = some img → (adpId s.dev id).commit = none →
      exec (.adapterDrop h id) s = did s (reply (dropCurrent (setAdp (freeFrames s.dev img.frames) id
        { adpId s.dev id with stage := none }) id) h 0x020A stOk))

/-- R303 to R307, R468: a gather is accepted, sends its data and its index, and expires. -/
def Obligations.GatherRowsComplete : Prop :=  ∀ (s : State), Serving s →
    (∀ (p cycle : Nat) (m : FabMsg), Accepted s.dev p m 0x06 1 → m.sub % 4 = 0 → 1 ≤ bodyAt m 8 2 → bodyAt m 8 2 ≤ 256 →
      m.length = 48 + roundUp (8 * bodyAt m 8 2) 16 →
      let d1 := noteSeen s.dev m.src m.type m.tag
      let d2 := stampAt d1 (portInput p) 0x02 0 m.part m.tag cycle
      let hs := (List.range (bodyAt m 8 2)).map fun i => gatherHandle d2 (bodyAt m (16 + 8 * i) 8)
      let ps := gatherPairs d2 (bodyAt m 0 2) (bodyAt m 2 2) (bodyAt m 4 2) hs
      ∃ g : Gather, g.seq = s.dev.led.next ∧ g.tick = d2.tick ∧ g.src = m.src ∧ g.tag = m.tag ∧ g.pairs = ps ∧
        g.expired = false ∧ g.handles.map (·.1) = hs.map (·.1) ∧
        exec (.adapterGather p cycle m) s = did s (addTimer { d2 with adp.gathers := d2.adp.gathers ++ [g] } .gather
          (d2.tick + if bodyAt m 6 2 = 0 then 4 else bodyAt m 6 2) s.dev.led.next m.tag)) ∧
    (∀ (g : Gather) (rest : List Gather) (n : Nat), s.dev.adp.gathers = g :: rest →
      g.tick ≠ s.dev.tick → ((slotsNow s.dev).any fun x => x.cls == .svc && x.kind == .modelEngine) = true →
      s.dev.plan.missed = false → dataWaits s.dev g = false → (∀ p ∈ g.pairs, p.segs = []) → ∃ d1 : Dev, d1.sess = s.dev.sess ∧ d1.pg = s.dev.pg ∧ d1.led = s.dev.led ∧
        d1.adp.gathers = s.dev.adp.gathers.map (fun q => if q.seq = g.seq then g else q) ∧
        exec (.gatherDataSend n) s = did s (sendIndex d1 g)) ∧
    (∀ (g : Gather) (p0 : GPair) (r : List GPair) (seg : Segment) (rest : List Segment) (k n : Nat),
      let p := nextSeg s.dev p0
      p.segs = seg :: rest → p.status = 0 → svcSlot s.dev .modelEngine (adapterOwner s.dev p.id) = true → n ≠ 0 → segReady s.dev p.id p.ver seg = true →
      segBad s.dev p.id p.ver seg = none → sendPairs g (k + 1) s.dev (p0 :: r) n =
        sendPairs g k (sendPiece s.dev g p seg n).1 ((sendPiece s.dev g p seg n).2.1 :: r)
          (n - (sendPiece s.dev g p seg n).2.2)) ∧
    (∀ (g : Gather) (tag : Nat),
      (s.dev.adp.gathers.find? fun g => g.tag == tag && !g.expired && (expiredAt s.dev .gather g.seq).isSome) = some g →
      exec (.gatherExpiry tag) s = did s (bumpBy (setGather s.dev { g with
        pairs := g.pairs.map fun p =>
          if p.status = 0 ∧ p.segs ≠ [] then { p with status := stw stTierLate 0, segs := [] } else p,
        expired := true }) Addr.ADP_GATHER_LATE_CNT
        (g.pairs.filter fun p => p.status == 0 && !p.segs.isEmpty).length))

/-- R257 to R259, R263, R267 to R273: the commands of the prefix index. R270, R273 to R279: the inserts and the
attaches end. -/
def Obligations.PrefixRowsComplete : Prop :=
  (∀ (s : State) (h : CmdHdr) (handle first i : Nat) (ids : List Nat),
    (∀ (domain piflags : Nat), OnSession s h handle i →
      (domain = 255 ∨ (h.part = 0 ∧ domain ≤ 15)) → piflags ≤ 1 → ids.length ≤ 65536 → (first = 0 ∨ piflags = 0) →
      badIds ids = false →
      let j : PfxJob :=
        { cmd := h, insert := true, handle := handle, domain := domain, firstBlock := first,
          lastBlock := first + (wholeBlocks ids).length, chains := [], hit := none, started := false,
          blocks := wholeBlocks ids, fork := piflags == 1 }
      let d := addJob (touched s.dev i) j
      let t := insertTable h.part domain
      (mayRun d h = false → exec (.prefixInsert h handle domain piflags first ids) s = did s d) ∧
      (∀ hs : List (Nat × List Byte), mayRun d h = true → liveOn d h.part handle = some i → stepInProgress d i = false →
        64 * (first + (wholeBlocks ids).length) ≤ (sess d i).length → (tget d.pfx.tables t).isSome = true →
        CtrlReady d i → chainHeads d i true [t] first = some hs →
        (piflags = 0 → exec (.prefixInsert h handle domain piflags first ids) s = did s (hashJob d j hs)) ∧
        (∀ d1 : Dev, piflags = 1 → forkBars d h.part i = none → forkStep (hashJob d j hs) h i 0 none = (d1, none) →
          exec (.prefixInsert h handle domain piflags first ids) s = did s d1))) ∧
    (OnSession s h handle i → ids.length ≤ 65536 → badIds ids = false →
      (s.dev.pfx.jobs.any fun q => q.cmd.seq == h.seq) = false →
      let j : PfxJob :=
        { cmd := h, insert := false, handle := handle, domain := 255, firstBlock := first,
          lastBlock := first + (wholeBlocks ids).length, chains := [], hit := none, started := false,
          blocks := wholeBlocks ids, fork := false }
      let d := addJob (touched s.dev i) j
      (mayRun d h = false → exec (.prefixAttach h handle first ids) s = did s d) ∧
      (∀ hs : List (Nat × List Byte), mayRun d h = true → liveOn d h.part handle = some i → stepInProgress d i = false →
        (sess d i).length = 64 * first → CtrlReady d i → chainHeads d i false (pfxTables d h.part) first = some hs →
        exec (.prefixAttach h handle first ids) s = did s (hashJob d j hs))) ∧
    (∀ (domain buckets : Nat) (fs : List Nat) (d1 : Dev), ByOperator s h → domain ≤ 15 →
      tget s.dev.pfx.tables (256 + domain) = none → bucketCountOk buckets = true →
      bucketsUsed s.dev + buckets ≤ 2 ^ 21 → allocOwnMany s.dev false 0 (tableFrames buckets) = .ok (fs, d1) →
      exec (.prefixDomainConfig h domain 1 buckets) s = did s (reply { (drawSalt d1).2 with
        pfx.tables := tset (drawSalt d1).2.pfx.tables (256 + domain) ⟨(drawSalt d1).1, buckets, fs, []⟩ } h 0x0303 stOk)) ∧
    (∀ (domain buckets : Nat) (x : PfxTable), ByOperator s h → domain ≤ 15 →
      tget s.dev.pfx.tables (256 + domain) = some x →
      exec (.prefixDomainConfig h domain 0 buckets) s = did s (reply (closeDomain s.dev (256 + domain) x) h 0x0303 stOk))) ∧
  (∀ (s : State) (seq i : Nat) (j : PfxJob) (d1 : Dev), Serving s →
    (jobOf s.dev seq true = some j → j.started = true → mayRun s.dev j.cmd = true →
      (j.fork = false → liveOn s.dev j.cmd.part j.handle = some i → CtrlWritable s.dev i d1 →
        exec (.prefixInsertDone seq) s = did s (serveHeld (finishInsert d1 j i))) ∧
      (∀ f k, j.fork = true → forkOf s.dev j.cmd.seq = some f → f.reading = false → f.child = some k →
        exec (.prefixInsertDone seq) s = did s (serveHeld (finishInsert (endFork s.dev j.cmd f.parent) j k)))) ∧
    (jobOf s.dev seq false = some j → liveOn s.dev j.cmd.part j.handle = some i →
      (j.hit = none → j.started = true → mayRun s.dev j.cmd = true →
        firstFail (targetChecks (lookupAll s.dev j).1 i j.firstBlock) = none → (lookupAll s.dev j).2 = none →
        CtrlWritable (lookupAll s.dev j).1 i d1 →
        exec (.prefixAttachPhase seq) s =
          did s (serveHeld (finishAttach d1 j i j.firstBlock 255 (j.chains.map fun c => (c.1, c.2.headD []))))) ∧
      (∀ (k t hold : Nat) (d2 : Dev), j.hit = some (k, t, hold) → inFlight s.dev (sess s.dev hold) = false →
        svcSlot s.dev .spmPort j.cmd.part = true → CtrlWritable s.dev i d1 →
        attachLayers i j.cmd.part hold j.firstBlock k d1 (sess d1 hold).layers.zipIdx = .ok d2 →
        let cs := (j.chains.filter fun c => c.1 == t).map fun c => (c.1, (nth c.2 (k - j.firstBlock)).getD [])
        let d3 := bumpBy (bump d2 Addr.PFX_HIT_CNT) Addr.PFX_ATTACH_PAGE_CNT (attachCount d1 hold j.firstBlock k)
        exec (.prefixAttachPhase seq) s = did s (serveHeld (finishAttach
          (thawTails (cs.foldl (fun d c => useEntry d c.1 k c.2) d3) i) j i k (if t < 256 then 0 else 1) cs)))))

/-- R310 to R314, R346, R560, R561: the delivery, the assignment and the unload of a vocabulary. R335, R336, R560,
R561: the delivery and the drop of a grammar image. -/
def Obligations.TextObjectCommandsComplete : Prop :=
  (∀ (s : State) (h : CmdHdr) (n : Nat), ByOperator s h →
    (∀ (length : Nat) (fs : List Nat) (d1 : Dev), n ≤ 7 → length % 64 = 0 → 256 ≤ length → length ≤ 268435456 →
      (vocab s.dev n).img.st = 0 → allocOwnMany s.dev false 0 (ceilDiv length 65536) = .ok (fs, d1) →
      exec (.vocabLoad h n length) s = did s (reply (setVocab d1 n
        { Vocab.empty with img := { st := 1, length := length, frames := fs, digest := [] } }) h 0x0404 stOk)) ∧
    (∀ (offset : Nat) (data : List Byte), (vocab s.dev n).img.st = 1 → offset % 16 = 0 → data ≠ [] →
      data.length ≤ 65536 → offset + data.length ≤ (vocab s.dev n).img.length →
      exec (.vocabData h n offset data) s =
        did s (reply (imageWrite s.dev (vocab s.dev n).img 3 offset data) h 0x0405 stOk)) ∧
    (∀ (digest b : List Byte), (vocab s.dev n).img.st = 1 → badAmong s.dev (vocab s.dev n).img.frames = none →
      b = imageAll s.dev (vocab s.dev n).img → sha256 b = digest → vocabFault b = none →
      exec (.vocabCommit h n digest) s = did s (reply (setVocab s.dev n
        { img := { (vocab s.dev n).img with st := 2, digest := digest }, logitFmt := field b 6 1, entries := field b 8 4,
          merges := field b 12 4, eos := field b 16 4, byteBase := field b 20 4, tokenOff := field b 24 4,
          poolOff := field b 28 4, mergeOff := field b 32 4 }) h 0x0406 stOk)) ∧
    (∀ (m : Nat), m ≤ 31 → (model s.dev m).img.st = 2 → n ≤ 7 → (vocab s.dev n).img.st = 2 → modelNamed s.dev m = false →
      exec (.vocabAssign h m n) s =
        did s (reply (setModel s.dev m { model s.dev m with vocab := some n }) h 0x0407 stOk)) ∧
    (n ≤ 7 → (s.dev.mdl.slots.any fun q => q.2.vocab == some n && modelNamed s.dev q.1) = false →
      (vocab s.dev n).img.st ≠ 0 →
      let d := freeFrames { s.dev with tok.vocabs := tdel s.dev.tok.vocabs n } (vocab s.dev n).img.frames
      exec (.vocabUnload h n) s = did s (reply { d with
        mdl.slots := tmap (fun x => if x.vocab = some n then { x with vocab := none } else x) d.mdl.slots } h 0x0408 stOk))) ∧
  (∀ (s : State) (h : CmdHdr) (id : Nat), Issued s h →
    (∀ (length : Nat) (fs : List Nat) (d1 : Dev), gramIdBad id = false → length % 64 = 0 → 128 ≤ length →
      length ≤ 67108864 → (gram s.dev h.part id).img.st = 0 → keysMissing s.dev h.part = false →
      gramCount s.dev h.part < 1024 → allocMany s.dev h.part (ceilDiv length 65536) = .ok (fs, d1) →
      exec (.grammarLoad h id length) s = did s (reply (setGram d1 h.part id
        { Gram.empty with img := { st := 1, length := length, frames := fs, digest := [] } }) h 0x0409 stOk)) ∧
    (∀ (offset : Nat) (data : List Byte), (gram s.dev h.part id).img.st = 1 → offset % 16 = 0 → data ≠ [] →
      data.length ≤ 65536 → offset + data.length ≤ (gram s.dev h.part id).img.length →
      exec (.grammarData h id offset data) s = did s (reply (setGram
        (imageWrite s.dev (gram s.dev h.part id).img 3 offset data) h.part id (gram s.dev h.part id)) h 0x040A stOk)) ∧
    (∀ (digest b : List Byte), (gram s.dev h.part id).img.st = 1 → badAmong s.dev (gram s.dev h.part id).img.frames = none →
      b = imageAll s.dev (gram s.dev h.part id).img → sha256 b = digest →
      gramFault b ((gramVocab s.dev h.part ((b.drop 8).take 32)).map (·.entries)) = none →
      exec (.grammarCommit h id digest) s = did s (reply (setGram s.dev h.part id
        { img := { (gram s.dev h.part id).img with st := 2, digest := digest }, eosFallback := bit (field b 6 1) 0,
          stackMax := field b 7 1, vocabDigest := slice b 8 32, states := field b 40 4, classes := field b 44 4,
          start := field b 48 4, mapOff := field b 52 4, stateOff := field b 56 4, transOff := field b 60 4,
          transCount := field b 64 4 }) h 0x040B stOk)) ∧
    (gramIdBad id = false → gramNamed s.dev h.part id = false → (gram s.dev h.part id).img.st ≠ 0 →
      let d := setGram s.dev h.part id (gram s.dev h.part id)
      exec (.grammarDrop h id) s = did s (reply (freeFrames { d with
        tok.grams := tdel d.tok.grams (gramKey h.part id) } (gram s.dev h.part id).img.frames) h 0x040C stOk)))

/-- R316 to R324, R342: the token commands on a session. -/
def Obligations.TokenCommandsComplete : Prop :=  ∀ (s : State) (h : CmdHdr) (handle i : Nat) (d1 : Dev), OnSession s h handle i → CtrlWritable (touched s.dev i) i d1 →
    (∀ (q : Sampling), firstFail (samplingChecks q) = none →
      grammarUsable (touched s.dev i) (sess s.dev i) h.part q.grammar = true → q.newGen = 0 → q.seed ≠ 0 →
      q.grammar = (sess s.dev i).ctrl.sampling.grammar → stepInProgress (touched s.dev i) i = false →
      (s.dev.pwr.fumarole && q.cls == 1) = false →
      exec (.sessionSetSampling h handle q) s = did s (replyBody
        (modSess d1 i fun e => { e with clsD := q.cls == 1, ctrl := { e.ctrl with sampling := q } }) h 0x0107 stOk
        (leBytes 8 q.seed ++ leBytes 8 0))) ∧
    (∀ (tflags : Nat) (text : List Byte) (v : Vocab), tflags ≤ 3 → text.length ≤ 65536 →
      sessVocab (touched s.dev i) (sess s.dev i) = some v → (sess s.dev i).ctrl.sampling.penScope = 0 →
      svcSlot (touched s.dev i) .sampler h.part = true → badAmong (touched s.dev i) v.img.frames = none →
      let r := tokenizeBytes d1 v (bit tflags 0) (bit tflags 1) ((sess s.dev i).ctrl.carry ++ text)
      exec (.tokenize h handle tflags text) s = did s (replyEntries
        (workDone (bumpBy (countEvent (modCtrl d1 i fun c => { c with carry := r.2 }) h.part 7 text.length)
          Addr.TOK_TOKENIZE_BYTE_CNT text.length) 16 stOk h.part h.tag) h 0x0401 stOk
        (leBytes 4 r.1.length ++ leBytes 1 r.2.length ++ leBytes 11 0) 4 (r.1.map (leBytes 4)).flatten)) ∧
    (∀ (ids strings : Nat) (slots : List Nat) (ents : List (Nat × List Byte)),
      firstFail (stopChecks ids strings slots ents) = none →
      (((ents.take strings).map fun e => e.2.take e.1).all utf8Valid) = true → stepInProgress (touched s.dev i) i = false →
      exec (.stopSet h handle ids strings slots ents) s = did s (reply (modCtrl d1 i fun c =>
        { c with stopIds := slots.take ids, stopStrs := (ents.take strings).map fun e => e.2.take e.1 }) h 0x0403 stOk))

/-- R325 to R334, R697: a LOGITS from its arrival to its token. -/
def Obligations.LogitsRowsComplete : Prop :=  ∀ (s : State), Serving s →
    (∀ (p cycle i : Nat) (m : FabMsg) (v : Vocab), Accepted s.dev p m 0x04 1 →
      let d := stampAt (noteSeen s.dev m.src m.type m.tag) (portInput p) 0x02 0 (hPart m.handle) m.handle cycle
      firstFail (logitsHead d m) = none → live d m.handle = some i → logitsBarred (touched d i) i = false →
      ((touched d i).tok.logits.any fun l => l.entry == i && l.held.isSome) = false →
      logitsServe (touched d i) i s.dev.led.next m = .ok v →
      exec (.logits p cycle m) s = did s { touched d i with tok.logits := (touched d i).tok.logits ++
        [mkLogits (touched d i) m i s.dev.led.next (logitsOf v m v.entries) none] }) ∧
    (∀ (l : LogitsReq) (v : Vocab) (d1 : Dev),
      (s.dev.tok.logits.find? fun q => q.seq == l.seq) = some l → logitsBarred s.dev l.entry = false → l.held = none →
      l.sent = false → l.fenced = false → listed s.dev 4 l.seq = true →
      let d := unlist s.dev 4 l.seq
      sessVocab d (sess d l.entry) = some v → CtrlWritable d l.entry d1 →
      exec (.sampleStep l.seq) s = did s (workDone (chooseFor d1 l v) 16 0 (hPart l.handle) l.handle)) ∧
    (∀ (handle : Nat),
      let i := (part s.dev (hPart handle)).cfg.sessBase + hLocal handle
      (live s.dev handle).isSome = true ∨ ((sess s.dev i).doomed = true ∧ handleKept s.dev i = handle) →
      exec (.tokenRelease handle) s = did s (releaseAll s.dev i)) ∧
    (∀ (l : LogitsReq) (x : Nat), (s.dev.tok.logits.find? fun q => q.seq == l.seq && q.sent) = some l →
      expiredAt s.dev .host l.seq = some x → choiceWaits s.dev l.handle x = false →
      exec (.hostDeadlineExpiry l.seq) s = did s (hostTimeout s.dev l)) ∧
    (∀ (h : CmdHdr) (handle i token : Nat) (l : LogitsReq) (v : Vocab) (d1 : Dev), OnSession s h handle i →
      (sess s.dev i).st = .awaitHost → awaitingHost (touched s.dev i) i = some l →
      (∀ x, expiredAt (touched s.dev i) .host l.seq = some x → before h.seq x = true) →
      sessVocab (touched s.dev i) (sess s.dev i) = some v →
      gramUe (touched s.dev i) (sess s.dev i) h.part v = none → tokenUe (touched s.dev i) v token = none →
      (allowedIds (touched s.dev i) (sess s.dev i) h.part v).contains token = true → CtrlWritable (touched s.dev i) i d1 →
      exec (.hostChoice h handle l.pos token) s = did s (reply (settleToken (bump
        (modSess (dropTimer d1 .host l.seq) i fun e => { e with st := if e.st = .awaitHost then .active else e.st })
        Addr.TOK_HOST_CHOICE_CNT) l v token false)
        h 0x0402 stOk))

/-- R339, R326, R528: what the sampler chooses for a LOGITS. -/
def Obligations.SamplerChoice : Prop :=  ∀ (d : Dev) (l : LogitsReq) (v : Vocab),
    let e := sess d l.entry
    let p := hPart l.handle
    let fb := e.ctrl.sampling.grammar != 0 && (gram d p e.ctrl.sampling.grammar).eosFallback
    (∀ c, gramUe d e p v = some c → chooseFor d l v = endLogits (noteUncorrectable d c) l (stw stUncorr 0) 0) ∧
    (∀ id f c, tokenUe d v id = some c → settleRead d l v id f = endLogits (noteUncorrectable d c) l (stw stUncorr 0) 0) ∧
    (∀ id f, tokenUe d v id = none → settleRead d l v id f = settleToken d l v id f) ∧
    (gramUe d e p v = none →
      (∀ id, forcedAt e.ctrl l.pos = some id →
        chooseFor d l v = settleRead (bump (modCtrl d l.entry fun c => { c with
          forced := c.forced.filter fun f => f.1 != l.pos }) Addr.LAH_FORCED_CNT) l v id true) ∧
      (forcedAt e.ctrl l.pos = none → allowedIds d e p v = [] →
        (fb = false ∨ e.ctrl.sampling.cls ≠ 1 → chooseFor d l v = deadEnd d l v fb) ∧
        (fb = true → e.ctrl.sampling.cls = 1 → chooseFor d l v = deadEnd (bump d Addr.TOK_SAMPLE_CNT) l v true)) ∧
      (forcedAt e.ctrl l.pos = none → allowedIds d e p v ≠ [] → e.ctrl.sampling.cls = 0 →
        chooseFor d l v = sendSet d l (ranked l.logits (allowedIds d e p v))) ∧
      (∀ id z r, forcedAt e.ctrl l.pos = none → allowedIds d e p v ≠ [] → e.ctrl.sampling.cls ≠ 0 →
        e.ctrl.sampling.temp = 0 → ranked (penalized e.ctrl l.logits) (allowedIds d e p v) = (id, z) :: r →
        chooseFor d l v = settleRead (bump d Addr.TOK_SAMPLE_CNT) l v id false))

/-- R347 to R352, R371: the commands on a store. R355, R356, R359 to R362, R366: vectors are inserted, deleted and
queried; an insert or delete whose turn has not come waits. -/
def Obligations.StoreCommandsComplete : Prop :=
  (∀ (s : State) (h : CmdHdr), Issued s h →
    (∀ (l : Nat) (p : StoreParams) (fs : List Nat) (d1 : Dev), l < (part s.dev h.part).cfg.rtvStores →
      firstFail (storeParamChecks p) = none → tget s.dev.rtv.stores (storeKey h.part l) = none →
      storeGen s.dev (storeKey h.part l) < 2 ^ 16 → (s.dev.rtv.stores.map fun x => x.2.p.capacity).sum + p.capacity ≤ 2 ^ 32 →
      allocHome s.dev h.part (roomiest s.dev) (storeFrames p) = .ok (fs, d1) →
      exec (.storeCreate h l p) s = did s (replyBody (setStore (drawNext d1).2 (storeKey h.part l)
        { gen := storeGen s.dev (storeKey h.part l), st := 1, p := p, frames := fs, home := roomiest s.dev,
          levelSalt := (drawNext d1).1 % 2 ^ 256, nodes := [], side := [], sideVer := 0, other := [],
          verTick := s.dev.tick, entry := none, book := none, mergeCmd := none }) h 0x0501 stOk
        (leBytes 4 (storeHandle (storeKey h.part l) (storeGen s.dev (storeKey h.part l))) ++ leBytes 12 0))) ∧
    (∀ (store key : Nat) (x : Store), storeLive s.dev h.part store = some (key, x) →
      exec (.storeDrop h store) s = did s (reply (retireStore s.dev key x) h 0x0502 stOk) ∧
      (x.mergeCmd = none → exec (.storeMerge h store) s =
        did s { s.dev with rtv.stores := tset s.dev.rtv.stores key { x with mergeCmd := some h } })) ∧
    (∀ (store : Nat), storeLive s.dev h.part store = none →
      exec (.storeDrop h store) s = did s (reply s.dev h 0x0502 (stw stStale 6)))) ∧
  (∀ (s : State) (h : CmdHdr) (store key : Nat) (x : Store), Issued s h → storeLive s.dev h.part store = some (key, x) →
    (∀ (count user vid : Nat) (comps : List (BitVec 16)), updateTurn s.dev h store = false →
      exec (.vecInsert h store count user comps) s = did s s.dev ∧ exec (.vecDelete h store vid) s = did s s.dev) ∧
    (∀ (count user slot : Nat) (comps : List (BitVec 16)), updateTurn s.dev h store = true → comps.length = count → count = x.p.dim →
      ((compsOf comps).any (fun c => !finite32 c) || (x.p.metric == 1 && zeroVec (compsOf comps))) = false →
      x.side.length < x.p.sideMax → freeSlot x = some slot →
      let gen := (tgetD x.nodes slot (Node.free 0)).gen
      let u := if x.p.metric = 1 then unitVec (compsOf comps) else compsOf comps
      let v := rerankVec x.p.rerankFmt (rerankScale u) u
      let n : Node := { Node.free gen with
        used := true, insTick := s.dev.tick, user := user, vec := v, scale := rerankScale u,
        codes := (x.book.map fun b => encodeVec b x.p.dsub v).getD [] }
      let d1 := setStore s.dev key { x with nodes := tset x.nodes slot n, side := x.side ++ [⟨slot, gen, s.dev.tick⟩] }
      exec (.vecInsert h store count user comps) s = did s (bump (replyNextTick d1 h 0x0504 stOk
        (leBytes 8 (vidOf slot gen) ++ epochBytes d1 ++ leBytes 3 0)) Addr.RTV_INSERT_CNT)) ∧
    (∀ (vid slot : Nat) (n : Node), updateTurn s.dev h store = true → vidFound x vid = some (slot, n) →
      let d1 := setStore s.dev key
        { x with nodes := tset x.nodes slot { n with delTick := some s.dev.tick, tomb := true } }
      exec (.vecDelete h store vid) s = did s (bump (replyNextTick d1 h 0x0505 stOk (epochBytes d1 ++ leBytes 11 0))
        Addr.RTV_DELETE_CNT)) ∧
    (∀ (vid : Nat), updateTurn s.dev h store = true → vidFound x vid = none →
      exec (.vecDelete h store vid) s = did s (reply s.dev h 0x0505 (stw stVecNotFound 8))) ∧
    (∀ (q : QueryParams) (comps : List (BitVec 16)), comps.length = q.count → q.count = x.p.dim → 1 ≤ q.k → q.k ≤ 1024 →
      q.k ≤ q.ef → q.ef ≤ 4096 → q.k ≤ q.rerank → q.rerank ≤ 4096 → q.deadline ≤ 4096 →
      (s.dev.rtv.queries.any fun q => q.cmd == h) = false →
      exec (.vecQuery h store q comps) s = did s (placeQuery (addTimer { s.dev with rtv.queries := s.dev.rtv.queries ++
        [{ cmd := h, key := key, gen := x.gen, sideVer := (sideAt x h.tick).1, side := (sideAt x h.tick).2, q := q,
           vec := compsOf comps, expiry := none, place := none }] } .query
        (h.tick + if q.deadline = 0 then 64 else q.deadline) h.seq h.tag) h.seq)))

/-- R367 to R369, R371 to R375: queries end and stores are merged. R363: which vectors a query that started in tick t
sees. -/
def Obligations.RetrievalWorkCompletes : Prop :=
  (∀ (s : State), Serving s →
    (∀ (q : Query) (x : Store) (cycle : Nat), (s.dev.rtv.queries.find? fun r => r.cmd.seq == q.cmd.seq) = some q →
      q.place.isSome = true → kernelSlot s.dev (rtvClusters s.dev) q.cmd.part = true →
      svcSlot s.dev .adc q.cmd.part = true →
      let d1 := stampAt s.dev 17 0x10 0 q.cmd.part q.cmd.tag cycle
      expiredAt d1 .query q.cmd.seq = none → tget d1.rtv.stores q.key = some x → badAmong d1 x.frames = none →
      let r := runQuery x q.side q.q q.vec q.cmd.tick
      r.2.2 = false →
      exec (.queryComplete q.cmd.seq cycle) s = did s (replyBody (meter (countEvent
        (bump (endQuery (bumpBy d1 Addr.RTV_STALE_EDGES r.2.1) q) Addr.RTV_QUERY_CNT) q.cmd.part 8 1) q.cmd.part 7 1)
        q.cmd 0x0506 stOk (leBytes 2 r.1.length ++ leBytes 14 0 ++ (r.1.map (resultBytes x.p.metric)).flatten))) ∧
    (∀ (q : Query), (s.dev.rtv.queries.find? fun r => r.cmd.seq == q.cmd.seq) = some q →
      (expiredAt s.dev .query q.cmd.seq).isSome = true →
      exec (.queryExpiry q.cmd.seq) s = did s (bump (reply (endQuery s.dev q) q.cmd 0x0506 (stw stRetry 0))
        Addr.RTV_QUERY_LATE_CNT)) ∧
    (∀ (key : Nat) (x : Store), s.dev.pwr.st < 2 → s.dev.pwr.fumarole = false → bgSlot s.dev 5 = true → nextDue s.dev = some key →
      tget s.dev.rtv.stores key = some x → otherRead s.dev key x = false →
      x.frames.any (inWindow s.dev) = false → badAmong s.dev x.frames = none → x.book.isSome = true → x.mergeCmd = none →
      let r := mergeStore x s.dev.tick (horizon s.dev key x)
      exec (.mergeRound key) s = did s (noteBg 5 (bumpBy (bumpBy (bump (setStore s.dev key { r.1 with mergeCmd := none })
        Addr.RTV_MERGE_ROUND_CNT) Addr.RTV_SLOT_QUAR_CNT r.2.1) Addr.RTV_VISIT_CAP_CNT r.2.2))) ∧
    (∀ (key : Nat) (x : Store), tget s.dev.rtv.stores key = some x →
      exec (.pendClear key) s = did s (setStore s.dev key
        { x with nodes := tmap (fun n => { n with pend := n.pend && olderQuery s.dev key x n.pendAt }) x.nodes }))) ∧
  (∀ (n : Node) (t : Nat), visible n t = true ↔
    n.used = true ∧ n.insTick < t ∧ (n.delTick = none ∨ ∃ x, n.delTick = some x ∧ t ≤ x))

/-- R122 to R125, R157 to R161, R469, R571: the target slots and the answers of the targets. R133, R158, R469: what
TIER_ACK does with a durable write and with a unit that is read back. -/
def Obligations.TierRowsComplete : Prop :=
  (∀ (s : State), Serving s →
    (∀ (p cycle : Nat) (m : FabMsg) (x : Xfer), Accepted s.dev p m 0x12 2 →
      (s.dev.pg.xfers.find? fun x => x.tag == m.tag) = some x →
      exec (.tierAck p cycle m) s =
        did s (serveHeld (copyNext (tierAckFor (noteSeen s.dev m.src m.type m.tag) p cycle m x) (slotOf x.addr)))) ∧
    (∀ (p cycle : Nat) (m : FabMsg), Accepted s.dev p m 0x12 2 → (s.dev.pg.xfers.find? fun x => x.tag == m.tag) = none →
      exec (.tierAck p cycle m) s = did s (serveHeld (bump (noteSeen s.dev m.src m.type m.tag) Addr.FAB_DUP_CNT))) ∧
    (∀ (n : Nat) (pathsDown : Bool), (slot s.dev n).st = 1 → exec (.slotLost n true pathsDown) s = did s (serveHeld (loseSlot s.dev n))) ∧
    (∀ (n : Nat) (x : Xfer) (r pd : Bool), x ∈ s.dev.pg.xfers → slotOf x.addr = n → x.sent = true →
      x.issued + lim s.dev Addr.TMC_TIER_TIMEOUT ≤ s.dev.tick → exec (.slotLost n r pd) s = did s (serveHeld (loseSlot s.dev n))) ∧
    (∀ (h : CmdHdr) (sl mask addr cap : Nat), ByOperator s h → sl < 16 → addr < 2 ^ 24 → s.dev.pwr.fumarole = false →
      ((slot s.dev sl).st = 0 → 1 ≤ cap → cap ≤ 2 ^ 30 → capSumOk s.dev sl cap = true →
        exec (.tierTargetConfig h sl mask addr cap) s = did s (bindSlot s.dev h sl mask addr cap)) ∧
      ((slot s.dev sl).st = 1 → cap = 0 →
        exec (.tierTargetConfig h sl mask addr cap) s = did s (unbindSlot s.dev h sl)) ∧
      ((slot s.dev sl).st = 1 → cap ≠ 0 → addr ≠ (slot s.dev sl).addr → (slot s.dev sl).cap ≤ cap →
        capSumOk s.dev sl cap = true →
        exec (.tierTargetConfig h sl mask addr cap) s = did s (copyNext (setSlot s.dev sl { slot s.dev sl with
          st := 2, newAddr := addr, newPlane := mask, copied := [], cmd := some h }) sl)))) ∧
  (∀ (d : Dev) (p cycle : Nat) (m : FabMsg) (x : Xfer), bodyAt m 5 1 = 0 →
    (x.kind = .park → bodyAt m 4 1 = 0 →
      let d1 := endXfer d x.tag
      tierAckFor d p cycle m x = writeDone (stampAt d1 (portInput p) 0x08 0 (match desc d1 x.addr with
        | some q => q.own
        | none => 0xFF) x.addr cycle) x) ∧
    (∀ a b data, x.kind = .thaw → bodyAt m 4 1 = 1 →
      openUnit (endXfer d x.tag) x.addr (slice m.body 16 32) (slice m.body 48 65536) = some (a, b, data) →
      tierAckFor d p cycle m x = settleParks (arrive (endXfer d x.tag) x data)) ∧
    (x.kind = .thaw → bodyAt m 4 1 = 1 → x.retried = false →
      openUnit (endXfer d x.tag) x.addr (slice m.body 16 32) (slice m.body 48 65536) = none →
      let d1 := bump (endXfer d x.tag) Addr.TMC_TAG_FAIL_CNT
      tierAckFor d p cycle m x = issueRead d1 (match desc d1 x.addr with
        | some q => q.own
        | none => 0) { x with retried := true, sent := false }))

/-- R505 to R508, R511 to R516, R524: a ring member's timers, cuts and captures. -/
def Obligations.EpochRowsComplete : Prop :=  ∀ (s : State), Serving s →
    (cutting s.dev = true → (expiredAt s.dev .epoch 0).isSome = true →
      exec .epochTimer s = did s (proposeCut (dropTimer s.dev .epoch 0) (s.dev.lah.epoch + 1))) ∧
    (cutting s.dev = true → (expiredAt s.dev .epochOwn 0).isSome = true →
      exec .epochOwnTimer s = did s (proposeCut (dropTimer s.dev .epochOwn 0) (s.dev.lah.epoch + 1))) ∧
    (∀ f, s.dev.lah.cutTo = some f → cutting s.dev = true →
      (s.dev.lah.work = [] → s.dev.lah.endDue = false → exec .epochCut s = did s (takeCut s.dev f)) ∧
      (s.dev.lah.work ≠ [] → s.dev.lah.cutWaits = false →
        exec .epochCut s = did s (bump { s.dev with lah.cutWaits := true } Addr.LAH_CUT_DEFER_CNT))) ∧
    (∀ (it : CapItem) (rest : List CapItem) (d1 : Dev), s.dev.lah.work = it :: rest → captureWaits s.dev it = false → captureItem s.dev it = some d1 →
      exec (.capture 1) s = did s (sendEnd d1)) ∧
    (∀ (seq : Nat) (u : Unacked), (s.dev.lah.unacked.find? fun u => u.rel == false && u.seq == seq) = some u →
      (expiredAt s.dev .delta seq).isSome = true →
      let d1 := bump (dropTimer s.dev .delta seq) Addr.LAH_RESEND_CNT
      exec (.deltaTimerExpiry seq) s = did s (sendLah { d1 with
        lah.unacked := d1.lah.unacked.map fun q =>
          if q.rel = false ∧ q.seq = seq then { q with expiries := q.expiries + 1 } else q } false u.recd.part seq u.epoch
        (some u.recd))) ∧
    (∀ (seq : Nat) (u : Unacked), (s.dev.lah.unacked.find? fun u => u.rel == true && u.seq == seq) = some u →
      (expiredAt s.dev .release seq).isSome = true → cutting s.dev = false →
      let d1 := bump (dropTimer s.dev .release seq) Addr.LAH_RESEND_CNT
      exec (.releaseTimerExpiry seq) s = did s (sendLah { d1 with
        lah.unacked := d1.lah.unacked.map fun q =>
          if q.rel = true ∧ q.seq = seq then { q with expiries := q.expiries + 1 } else q } true u.recd.part seq u.epoch
        (some u.recd))) ∧
    (cutting s.dev = true → s.dev.lah.lastSent + lim s.dev Addr.LAH_SUSPECT_TICKS / 4 ≤ s.dev.tick →
      exec .laharKeepalive s =
        did s (sendLah { s.dev with lah.lastSent := s.dev.tick } false 0 s.dev.lah.dSeq s.dev.lah.epoch none)) ∧
    (cutting s.dev = true → s.dev.lah.fencedPred = false → s.dev.lah.predSuspect = false →
      s.dev.lah.predTick + lim s.dev Addr.LAH_SUSPECT_TICKS ≤ s.dev.tick →
      exec .predSuspect s = did s (alert { s.dev with lah.predSuspect := true } 5 (predAddr s.dev) 0xFF))

/-- R505, R507: a cut moves the epoch and remembers the one that it closes. -/
def Obligations.CutMovesEpoch : Prop :=  ∀ (s : State) (f : Nat), Serving s → s.dev.lah.cutTo = some f → cutting s.dev = true → s.dev.lah.work = [] →
    s.dev.lah.endDue = false → ∃ t, exec .epochCut s = did s t ∧ t.lah.epoch = f ∧ t.lah.closing = s.dev.lah.epoch ∧
      t.lah.cutTo = none ∧ t.lah.lastCut = s.dev.tick ∧ t.sess = s.dev.sess ∧ t.pg.hbm = s.dev.pg.hbm

/-- R513, R515, R519, R523: the messages of the ring and the commit of an epoch. -/
def Obligations.RingMessagesComplete : Prop :=  ∀ (s : State) (p cycle : Nat) (m : LahMsg), Serving s →
    (LahAccepted s.dev p m 0x21 →
      let d1 := notePred (stampAt (noteSeen s.dev m.src m.type m.tag) (portInput p) 0x05 0 0 m.seq cycle) m.src
      m.src = buddyAddr d1 → m.sub = 1 →
      let done := d1.lah.unacked.filter fun u => u.rel == true && !precedes 32 m.seq u.seq
      exec (.laharAck p cycle m) s = did s (ackTokens (buddyBack (done.foldl (fun d u => dropTimer d .release u.seq)
        { d1 with lah.unacked := d1.lah.unacked.filter fun u => !(u.rel == true && !precedes 32 m.seq u.seq) }))
        (done.map (·.seq)))) ∧
    (LahAccepted s.dev p m 0x22 →
      let d1 := notePred (stampAt (noteSeen s.dev m.src m.type m.tag) (portInput p) 0x06 0 m.part m.seq cycle) m.src
      d1.lah.st ≠ 0 → d1.lah.st ≠ 4 → m.src = predAddr d1 → m.recs ≠ [] →
      let d2 := takeRecs d1 true d1.lah.inRel m.seq m.epoch m.recs
      let d3 := drainTokens d2 (d2.lah.early.length + 1)
      exec (.releaseLog p cycle m) s =
        did s (sendAck d3 true ((d3.lah.inRel + 2 ^ 32 - 1) % 2 ^ 32) (newestImage d3))) ∧
    (LahAccepted s.dev p m 0x20 →
      let d1 := notePred (stampAt (noteSeen s.dev m.src m.type m.tag) (portInput p) 0x06 0 m.part m.seq cycle) m.src
      d1.lah.st ≠ 0 → d1.lah.st ≠ 4 → m.src = predAddr d1 → m.recs ≠ [] →
      let d2 := takeRecs d1 false d1.lah.inSeq m.seq m.epoch m.recs
      exec (.laharDelta p cycle m) s = did s (ackDelta (drainEarly d2 (d2.lah.early.length + 1)))) ∧
    (∀ (q : Nat) (i : ShadowImg), s.dev.lah.ended = [(q, i)] →
      (s.dev.pg.xfers.any fun x => x.kind == .shadow && (i.recs.filterMap (·.2)).contains x.addr) = false →
      let d1 := sweepShadow { s.dev with
        lah.ended := [], lah.images := i :: s.dev.lah.images.take 1,
        lah.tokLog := s.dev.lah.tokLog.filter fun t => decide (i.epoch < t.2.2.2) }
      exec (.epochCommit i.epoch) s = did s (sendAck d1 false (ackableSeq d1) i.epoch))

/-- R503, R504, R525 to R527, R532 to R535: the recovery commands. -/
def Obligations.RecoveryCommandsComplete : Prop :=  ∀ (s : State) (h : CmdHdr), ByOperator s h → s.dev.pwr.fumarole = false →
    (∀ (ring n self slots pred buddy rel : Nat), 2 ≤ n → n ≤ 64 → self < n → shadowSlotsOk s.dev slots = true →
      pred < 2 ^ 24 → buddy < 2 ^ 24 → 1 ≤ rel → rel ≤ 1024 → (part s.dev 0).tierKeys ≠ [] → (part s.dev 0).replKeys ≠ [] →
      s.dev.lah.st = 0 →
      exec (.recoveryGroupSet h ring n self slots pred buddy rel) s = did s (reply (armEpoch (startStreams (startShadow
        { setRoute (setRoute s.dev 4080 (some ⟨pred, 3, 0xFF⟩)) 4081 (some ⟨buddy, 3, 0xFF⟩) with
          lah.ringId := ring, lah.members := n, lah.self := self, lah.shadowSlots := slots, lah.releaseTicks := rel,
          lah.lastCut := s.dev.tick }))) h 0x0601 stOk)) ∧
    (∀ (i : ShadowImg) (r : List ShadowImg), s.dev.lah.images = i :: r →
      exec (.failover h) s = did s (replyBody (sweepShadow { setRoute s.dev 4080 none with
        lah.fencedPred := true, lah.building := i.recs, lah.ended := [], lah.early := [], lah.predSuspect := false })
        h 0x0602 stOk (leBytes 5 i.epoch ++ leBytes 3 0 ++ leBytes 4 (imageSessions i.recs) ++ leBytes 4 0))) ∧
    (s.dev.lah.images = [] → exec (.failover h) s = did s (reply s.dev h 0x0602 (stw stNoStep 0))) ∧
    (∀ (buddy ring epoch self : Nat), buddy < 2 ^ 24 → isSpare s.dev = true →
      exec (.takeover h buddy ring epoch self) s = did s { setRoute s.dev 4081 (some ⟨buddy, 3, 0xFF⟩) with
        lah.st := 4, lah.ringId := ring, lah.self := self, lah.inSeq := 0, lah.inRel := 0, lah.early := [],
        lah.building := [], lah.ended := [], lah.tokLog := [], lah.takeover := some (h, epoch) }) ∧
    (∀ (epoch sl : Nat) (im : ShadowImg), epoch ≠ 2 ^ 40 - 1 → (s.dev.lah.images.find? fun i => i.epoch == epoch) = some im →
      sl < 16 → (slot s.dev sl).st ≠ 0 → (shareRepeats [] im.recs).filterMap (·.2) ≠ [] →
      let i : CkptImg := ⟨sl, (slot s.dev sl).addr, (s.dev.lah.self + s.dev.lah.members - 1) % s.dev.lah.members, s.dev.lah.ringId,
        s.dev.lah.members, epoch, true, [], []⟩
      exec (.checkpointWrite h epoch sl) s = did s (((shareRepeats [] im.recs).filterMap (·.2)).foldl
        (fun d a => issueRead d 0 (mkXfer .imageRead 0 a [] h.seq))
        { s.dev with lah.jobs := s.dev.lah.jobs ++ [⟨h, 0x0604, stOk, [], some i, shareRepeats [] im.recs⟩] })) ∧
    (∀ (ring sl n m j : Nat), sl < 16 → (slot s.dev sl).st ≠ 0 → 2 ≤ n → n ≤ 64 → 2 ≤ m → m ≤ 64 → j < m →
      exec (.checkpointRestore h ring sl n m j) s =
        did s (restoreFrom (freeNext s.dev) h (imagesOf s.dev sl ring n) n m j)) ∧
    (∀ (d d1 : Dev) (is : List CkptImg) (n m j e : Nat) (ents : List Byte), wholeEpochs is n = [e] →
      let mine := is.filter fun c => c.epoch == e && c.shard % m == j
      (mine.any fun c => c.recs.any fun r => r.rtype == 0x01 && gatedAlone d r.part) = false →
      restoreShards d h.seq mine = .ok (ents, d1) →
      let st := if 1 < (dedup (is.map (·.epoch))).length then stw stOk stMixed else stOk
      restoreFrom d h is n m j = settleJobs { d1 with lah.jobs := d1.lah.jobs ++
        [⟨h, 0x0605, st, leBytes 5 e ++ leBytes 3 0 ++ leBytes 4 (ents.length / 24) ++ leBytes 4 0 ++ ents, none, []⟩] }) ∧
    (∀ (d : Dev) (is : List CkptImg) (n m j : Nat), wholeEpochs is n = [] →
      restoreFrom d h is n m j = reply d h 0x0605 (stw stNoStep 0))

/-- R449, R451 to R454, R456, R541, R542, R569, R667: the links that stay up, and routes. -/
def Obligations.LinkRowsComplete : Prop :=  ∀ s : State,
    (∀ n l, Serving s → s.dev.pwr.st < 3 → s.dev.pwr.fumarole = false → bgSlot s.dev 1 = true → (port s.dev n).removed.contains l = true →
      (exec (.laneRecalibrate n l true) s = did s (noteBg 1 (modPort s.dev n fun p => { p with
        removedAt := tdel p.removedAt l, prbs := if p.prbs.contains l then p.prbs else p.prbs ++ [l] }))) ∧
      (tgetD (port s.dev n).recals l 0 < 15 → exec (.laneRecalibrate n l false) s = did s (noteBg 1 (modPort s.dev n fun p =>
        { p with recals := tset p.recals l (tgetD (port s.dev n).recals l 0 + 1), removedAt := tdel p.removedAt l,
                 prbs := p.prbs.filter (· != l) }))) ∧
      (15 ≤ tgetD (port s.dev n).recals l 0 → exec (.laneRecalibrate n l false) s = did s (noteBg 1 (modPort s.dev n fun p =>
        { p with recals := tset p.recals l (tgetD (port s.dev n).recals l 0 + 1), removedAt := tdel p.removedAt l,
                 prbs := p.prbs.filter (· != l), failed := p.failed ++ [l], removed := p.removed.filter (· != l) })))) ∧
    (∀ n l, Serving s → s.dev.pwr.st < 3 → s.dev.pwr.fumarole = false → bgSlot s.dev 1 = true → (port s.dev n).st = 2 →
      (lanesInUse s.dev n).contains l = true →
      exec (.laneReadapt n l) s = did s (noteBg 1 (modPort s.dev n fun p => { p with
        readapted := tset p.readapted l s.dev.tick }))) ∧
    (∀ n l, Serving s → (port s.dev n).prbs.contains l = true → (port s.dev n).st = 2 →
      exec (.laneRestore n l) s = did s (rewidth (modPort s.dev n fun p => { p with
        removed := p.removed.filter (· != l), prbs := p.prbs.filter (· != l), recals := tdel p.recals l }) n)) ∧
    (∀ n q, s.pins.running = true → n ≤ 56 → (port s.dev n).st = 2 →
      exec (.linkReplay n q) s = did s (bump s.dev (if n = 56 then Addr.HLK_REPLAY_CNT else Addr.FAB_REPLAY_CNT n))) ∧
    (∀ n ack cs, s.pins.running = true → n ≤ 56 → (port s.dev n).st = 2 →
      (flitHeld (port s.dev n) ack = true → exec (.creditReturn n ack cs) s = did s (modPort s.dev n fun p => { p with
        credits := p.credits.zipIdx.map fun (c, k) => c + cs.getD k 0, unacked := (ack + 1) % 2 ^ 24
        replayBuf := p.replayBuf.filter fun q => flitHeld { p with unacked := (ack + 1) % 2 ^ 24 } q.1 })) ∧
      (flitHeld (port s.dev n) ack = false → exec (.creditReturn n ack cs) s = did s (modPort s.dev n fun p => { p with
        credits := p.credits.zipIdx.map fun (c, k) => c + cs.getD k 0 }))) ∧
    (∀ r, s.pins.running = true → 1 ≤ r → r ≤ 183 →
      exec (.cardRateChange r) s = did s (setCost { s.dev with host.cardRate := r } 56)) ∧
    (∀ h i role mask a, ByOperator s h → i ≤ 4063 → role ≤ 1 → a < 2 ^ 24 →
      exec (.fabricRouteSet h i role mask a) s =
        did s (reply (setRoute s.dev i (if role = 0 then none else some ⟨a, 1, mask⟩)) h 0x0705 stOk))

/-- R453, R455, R473, R540, R543, R654: the links that train and go down. -/
def Obligations.PortsTrainAndGoDown : Prop :=  ∀ s : State, s.pins.running = true →
    (∀ n c, n < 56 → (port s.dev n).st = 2 → exec (.portDown n c) s = did s
      (resendPort (setCost (modPort (errEventAt s.dev (portInput n) 0 0xFF n c) n fun p =>
        { p with st := 0, width := 0 }) n) n)) ∧
    ((port s.dev 56).st = 2 → exec .hostLinkDown s = did s
      (setCost (modPort s.dev 56 fun p => { p with st := if portEnabled s.dev 56 then 1 else 0, width := 0 }) 56)) ∧
    (∀ n, n < 56 → portEnabled s.dev n = true → portMode s.dev n = 0 → (port s.dev n).st ≠ 2 → s.dev.obs.stage = 2 →
      s.dev.pwr.refLost.contains (n / 14) = false → s.dev.pwr.st ≠ 2 →
      (portWidth s.dev n ≠ 0 → exec (.fabricPortTrain n) s = did s
        (setCost (modPort s.dev n fun p => { p with st := 2, width := portWidth s.dev n }) n)) ∧
      (portWidth s.dev n = 0 → exec (.fabricPortTrain n) s = did s
        (modPort s.dev n fun p => { p with st := 1 }))) ∧
    (∀ lanes, portEnabled s.dev 56 = true → portMode s.dev 56 = 0 → (port s.dev 56).st ≠ 2 → s.dev.obs.stage = 2 →
      let d := modPort s.dev 56 fun p => { p with removed := (laneMask s.dev 56).filter fun l => !bit lanes l }
      widthFor 56 (usableLanes d 56).length ≠ 0 → exec (.hostLinkTrain lanes) s = did s
        (setCost (modPort d 56 fun p => { p with st := 2, width := widthFor 56 (usableLanes d 56).length }) 56)) ∧
    (∀ n l, n ≤ 56 → (port s.dev n).st = 2 → (usableLanes s.dev n).contains l = true →
      let d := errEvent (modPort s.dev n fun p => { p with
        removed := p.removed ++ [l], removedAt := tset p.removedAt l s.dev.tick, prbs := p.prbs.filter (· != l) })
        (portInputOf n) 0 0xFF n n
      widthFor n (usableLanes d n).length ≠ 0 → exec (.laneRemove n l) s = did s (rewidth d n))

/-- R544 to R549: packets, windows and the intake of commands. -/
def Obligations.HostLinkRowsComplete : Prop :=  ∀ s : State, Serving s →
    (∀ (cycle : Nat) (bytes : List Byte) (ch : Chan), (port s.dev 56).st = 2 → field bytes 4 4 = bytes.length →
      field bytes 2 1 = 0 → tget s.dev.host.chans (field bytes 0 2) = some ch →
      ch.inHeld + bytes.length / 16 ≤ 131072 → field (bytes.drop 16) 0 2 ≠ 0x0402 →
      let d := bindWakes (stampAt s.dev 1 0x01 0 ch.part (field (bytes.drop 16) 4 4) cycle) (field (bytes.drop 16) 0 2)
      let d1 := { d with
        host.chans := tset d.host.chans (field bytes 0 2) { ch with inHeld := ch.inHeld + bytes.length / 16 }
        host.stamped := d.host.stamped ++ [⟨s.dev.led.next, d.tick, cycle, field bytes 0 2, bytes.drop 16⟩] }
      exec (.packetArrival cycle bytes) s = did s (if field (bytes.drop 16) 0 2 = 0x0102
        then destroyStamped d1 ch.part (field (bytes.drop 16) 16 8) s.dev.led.next else d1)) ∧
    (∀ (cycle : Nat) (bytes : List Byte), (port s.dev 56).st = 2 → field bytes 4 4 = bytes.length →
      field bytes 2 1 = 0 → tget s.dev.host.chans (field bytes 0 2) = none →
      exec (.packetArrival cycle bytes) s = did s (bump s.dev Addr.HLK_BAD_CHAN_CNT)) ∧
    (∀ (cycle c n : Nat) (ch : Chan), (port s.dev 56).st = 2 → tget s.dev.host.chans c = some ch →
      queuesOn s.dev c = [] →
      let d := stampAt s.dev 1 0x07 0 ch.part c cycle
      exec (.window cycle c n) s = did s { d with
        host.chans := tset d.host.chans c { ch with outWin := min (ch.outWin + n) 0xFFFFFFFF } }) ∧
    (∀ p : Plan, s.dev.plan.active = some p → s.dev.obs.draining = false → mgmtSlot s.dev = true →
      s.dev.host.lastIntake ≠ some s.dev.tick →
      let ts := pickIntake s.dev s.dev.host.stamped []
      exec .commandIntake s = did s (ts.foldl takeOne { s.dev with
        host.lastIntake := some s.dev.tick
        host.stamped := s.dev.host.stamped.filter fun t => !(ts.any fun u => u.seq == t.seq) }))

/-- R549: an intake takes at most 64 commands, in the order of their stamps. -/
def Obligations.IntakeIsBounded : Prop :=  ∀ d : Dev, (pickIntake d d.host.stamped []).length ≤ 64 ∧ (pickIntake d d.host.stamped []).Sublist d.host.stamped ∧
    ∀ t ∈ pickIntake d d.host.stamped [], intakeReady d t = true

/-- R52, R53, R57, R58, R572: a plan is delivered, checked and swapped. -/
def Obligations.PlanCommandsComplete : Prop :=  ∀ (s : State) (h : CmdHdr), ByOperator s h →
    (∀ total (data : List Byte), s.dev.plan.finalCmd = none → s.dev.plan.swapTick = none → data ≠ [] →
      data.length ≤ 65536 → data.length ≤ total →
      exec (.planLoad h 1 0 total data) s = did s (reply { s.dev with
        plan.bank := Memory.writeBytes [] 0 data, plan.total := total, plan.standbySt := 1, plan.standby := none }
        h 0x0801 stOk)) ∧
    (∀ off total (data : List Byte), s.dev.plan.standbySt = 1 → s.dev.plan.total = total → s.dev.plan.finalCmd = none →
      s.dev.plan.swapTick = none → off % 16 = 0 → data ≠ [] → data.length ≤ 65536 → off + data.length ≤ total →
      (exec (.planLoad h 0 off total data) s = did s (reply { s.dev with
        plan.bank := Memory.writeBytes s.dev.plan.bank off data } h 0x0801 stOk)) ∧
      (exec (.planLoad h 2 off total data) s = did s { s.dev with
        plan.bank := Memory.writeBytes s.dev.plan.bank off data, plan.finalCmd := some h })) ∧
    (∀ t, s.dev.plan.standbySt = 2 → h.tick + 2 ≤ t → t < 2 ^ 64 - 1 → s.dev.pwr.fumarole = false →
      s.dev.mdl.switches = [] → retiredBusy s.dev = false → s.dev.plan.swapTick = none →
      exec (.planSwap h t) s = did s (reply { s.dev with plan.swapTick := some t, pwr.busyDormant := true } h 0x0802 stOk)) ∧
    (∀ (f : CmdHdr) (p : Plan) (img blk : List Byte), s.dev.plan.finalCmd = some f → mgmtSlot s.dev = true →
      signedImage s.dev 1 false true (bankBytes s.dev) = some (img, blk) → headerOk (bankBytes s.dev) = true →
      headerIs (bankBytes s.dev) p = true →
      (planDetail s.dev (bankBytes s.dev) p = 0 → exec (.planCheckDone p) s = did s (reply { s.dev with
        plan.finalCmd := none, plan.standbySt := 2, plan.checkDetail := 0,
        plan.standby := some { p with sigHead := blk.take 48 } } f 0x0801 stOk)) ∧
      (planDetail s.dev (bankBytes s.dev) p ≠ 0 → exec (.planCheckDone p) s = did s (reply { s.dev with
        plan.finalCmd := none, plan.standbySt := 3, plan.checkDetail := planDetail s.dev (bankBytes s.dev) p } f 0x0801
        (stw stParam (planDetail s.dev (bankBytes s.dev) p)))))

/-- R486, R487, R489 to R493, R497: the scheduler's commands, a handover and a transmission. -/
def Obligations.TrafficRowsComplete : Prop :=  ∀ s : State,
    (∀ h mode, ByOperator s h → mode ≤ 1 → anyQueued s.dev = false →
      (∀ q ∈ s.dev.parts, q.2.st ≠ .unconfigured → (subRange s.dev q.1).1 + (subRange s.dev q.1).2 ≤ modeSubs (mode == 1)) →
      exec (.shaperMode h mode) s = did s (reply { s.dev with tsh.full := mode == 1 } h 0x0707 stOk)) ∧
    (∀ h p (c : ShaperCfg), ByOperator s h → (part s.dev p).st ≠ .unconfigured → (c.subBase, c.flowGroups) = subRange s.dev p →
      1 ≤ c.flowGroups → c.flowGroups ≤ 64 → c.flow < c.flowGroups →
      (∀ o ∈ s.dev.parts, o.1 ≠ p → overlap c.subBase c.flowGroups (subRange s.dev o.1).1 (subRange s.dev o.1).2 = false) →
      c.subBase + c.flowGroups ≤ modeSubs s.dev.tsh.full → 2 ^ 20 ≤ c.subBytes → c.subBytes ≤ 2 ^ 34 →
      c.subCost ≤ 0x03200000 → c.subBurst ≤ 16777216 → (∀ x ∈ c.classes, x.1 ≤ 0x03200000 ∧ x.2 ≤ 16777216) →
      exec (.shaperConfig h p c) s = did s (reply { s.dev with
        tsh.changes := s.dev.tsh.changes ++ [(p, c.subBase, c.flowGroups, c.subBase + c.flow, subOfCfg c)] } h 0x0706 stOk)) ∧
    (∀ (n k : Nat) (m : Msg), s.pins.running = true → n ≤ 56 → (port s.dev n).st = 2 → readyFifo (port s.dev n) = some (k, m) →
      exec (.portTransmit n) s = did s (modPort s.dev n (sendFlits (vcOn m) (flitsOf m)))) ∧
    (∀ (n k : Nat) (m : Msg), s.pins.running = true → n ≤ 56 → (port s.dev n).st = 2 → flitsHeld (port s.dev n) < 512 →
      readyFifo (port s.dev n) = some (k, m) → m.gone = 0 → 0 < m.len → m.len ≤ 592 →
      nextOn (chunksGo (port s.dev n) k (chunksOf m) (port s.dev n).flitSeq m) (vcOn m) = none →
      exec (.portTransmit n) s = did s (modPort s.dev n fun p => { p with
        fifos := modNth p.fifos k (·.drop 1), flitSeq := (p.flitSeq + 1) % 2 ^ 24
        replayBuf := p.replayBuf ++ [(p.flitSeq, m)], credits := modNth p.credits (vcOn m) fun c => c - 1 })) ∧
    (∀ (q e now port : Nat) (m : Msg) (r : List Msg), Serving s → now / 2048 = s.dev.tick → s.dev.tsh.clock ≤ now →
      let d := moveBuckets { s.dev with tsh.clock := now } now
      nextEntry d now = some (q, e) → now < e + 1 →
      let d1 := { d with tsh.wheel := d.tsh.wheel.filter fun w => w.1 != q }
      queue d1 q = m :: r → canHand d1 q now m = some port →
      exec (.trafficHandover q now) s = did s (handOver d1 q port now m))

/-- R95, R569, R570, R617 to R619: a partition is configured, fenced, unfenced and reset. -/
def Obligations.PartitionCommandsComplete : Prop :=  ∀ (s : State) (h : CmdHdr), ByOperator s h →
    (∀ (p : Nat) (c : PartCfg) (d1 : Dev), productionTest s.dev = false → (part s.dev p).st ≠ .resetting →
      firstFail (partitionChecks s.dev p c) = none → reserveOk s.dev p c = true →
      bucketsUsed s.dev - (part s.dev p).cfg.pfxBuckets + c.pfxBuckets ≤ 2 ^ 21 → applyConfig s.dev p c = .ok d1 →
      exec (.partitionConfig h p c) s = did s (reply d1 h 0x0701 stOk)) ∧
    (∀ p : Nat, p ≠ 0 → (part s.dev p).st = .opened → exec (.partitionFence h p 1) s = did s
      (reply (fenceSessions (modPart s.dev p fun q => { q with st := .fenced }) p) h 0x0703 stOk)) ∧
    (∀ p : Nat, (part s.dev p).st = .fenced → exec (.partitionFence h p 0) s = did s
      (reply ((entriesOf (modPart s.dev p fun q => { q with st := .opened }) p).foldl unfenceSession
        (modPart s.dev p fun q => { q with st := .opened })) h 0x0703 stOk)) ∧
    (∀ p : Nat, p ≠ 0 → (part s.dev p).st = .opened ∨ (part s.dev p).st = .fenced → earlierOpen s.dev p h.seq = false →
      exec (.partitionReset h p) s = did s
        (fenceSessions (modPart s.dev p fun q => { q with st := .resetting, resetCmd := some h }) p)) ∧
    (∀ (p : Nat) (c : CmdHdr), (part s.dev p).st = .resetting → (part s.dev p).resetCmd = some c →
      unanswered s.dev p = false →
      let d := modPart (wipeStorage (wipeObjects (wipeEntries s.dev p) p) p) p fun q =>
        { q with tierKeys := [], replKeys := [], kem := none }
      exec (.partitionResetResume p) s = did s (reply (modPart (wholeWindows (drawIdentity d p) p) p fun q =>
        { q with st := .opened, resetCmd := none, tol := 0 }) c 0x0702 stOk))

/-- R95: a fence fences every session of the partition. -/
def Obligations.FenceFencesSessions : Prop :=  ∀ (d : Dev) (p i : Nat), i ∈ entriesOf d p → (sess d i).doomed = false →
    (sess (fenceSessions d p) i).st = .fenced

/-- R620 to R649: keys, attestation, telemetry and tolerances. -/
def Obligations.TrustCommandsComplete : Prop :=  ∀ (s : State) (h : CmdHdr), Issued s h →
    (∀ (gen : Nat) (ct wrap key : List Byte), productionTest s.dev = false →
      openDelivery s.dev h.part 0 gen ct wrap = some key →
      (∀ k ∈ (part s.dev h.part).tierKeys.head?, precedes 16 k.1 gen = true) →
      exec (.keyDeliver h 0 gen ct wrap) s = did s (reply (modPart s.dev h.part fun q =>
        { q with tierKeys := (gen, s.dev.tick, key) :: keptTier q.tierKeys gen }) h 0x0902 stOk)) ∧
    (∀ (gen : Nat) (ct wrap key : List Byte), productionTest s.dev = false →
      openDelivery s.dev h.part 1 gen ct wrap = some key →
      (∀ k ∈ (part s.dev h.part).replKeys.head?, precedes 16 k.1 gen = true) →
      exec (.keyDeliver h 1 gen ct wrap) s = did s (reply (modPart s.dev h.part fun q =>
        { q with replKeys := (gen, key) :: q.replKeys.take 1 }) h 0x0902 stOk)) ∧
    (∀ (kind gen : Nat) (ct wrap : List Byte), productionTest s.dev = false → kind ≤ 1 →
      openDelivery s.dev h.part kind gen ct wrap = none →
      exec (.keyDeliver h kind gen ct wrap) s = did s (reply s.dev h 0x0902 (stw stSignature 11))) ∧
    (∀ key, h.part = 0 → s.dev.obs.opKey = none →
      exec (.operatorKeySet h key) s = did s (reply { s.dev with obs.opKey := some key } h 0x0903 stOk)) ∧
    (∀ nonce, productionTest s.dev = false → (part s.dev h.part).attesting = none →
      exec (.attest h nonce) s = did s (modPart s.dev h.part fun q => { q with attesting := some (h, nonce) })) ∧
    (∀ (p : Nat) (c : CmdHdr) (nonce : List Byte), (part s.dev p).attesting = some (c, nonce) →
      attestFirst s.dev c.seq = true →
      exec (.attestDone p) s = did s (replyBody (modPart s.dev p fun q => { q with attesting := none }) c 0x0901 stOk
        (leBytes 4 (reportOf s.dev p nonce).length ++ leBytes 12 0 ++ reportOf s.dev p nonce))) ∧
    (exec (.telemetryRead h) s = did s (replyBody s.dev h 0x0A01 stOk (leBytes 2 10 ++ leBytes 14 0 ++
      ((part s.dev h.part).sampled.map fun v => leBytes 4 (v / 4096 * 4096)).flatten))) ∧
    (∀ us, us ≤ 10000000 → exec (.latencyToleranceSet h 0 us) s = did s
      (reply (modPart s.dev h.part fun q => { q with tol := us }) h 0x0A02 stOk)) ∧
    (∀ us, us ≤ 10000000 → h.part = 0 →
      exec (.latencyToleranceSet h 1 us) s = did s (reply { s.dev with pwr.tolDevice := us } h 0x0A02 stOk))

/-- R624: the KEYGEN of a delivery that opens is compared with the newest of its KIND, and only a later one is taken. -/
def Obligations.KeyGenerationsAreCompared : Prop :=  ∀ (s : State) (h : CmdHdr) (gen : Nat) (ct wrap key : List Byte), Issued s h → productionTest s.dev = false →
    (openDelivery s.dev h.part 0 gen ct wrap = some key →
      let new := did s (reply (modPart s.dev h.part fun q =>
        { q with tierKeys := (gen, s.dev.tick, key) :: keptTier q.tierKeys gen }) h 0x0902 stOk)
      ((part s.dev h.part).tierKeys = [] → exec (.keyDeliver h 0 gen ct wrap) s = new) ∧
      (∀ g t k r, (part s.dev h.part).tierKeys = (g, t, k) :: r →
        (precedes 16 g gen = true → exec (.keyDeliver h 0 gen ct wrap) s = new) ∧
        (precedes 16 g gen = false → gen = g → key = k →
          exec (.keyDeliver h 0 gen ct wrap) s = did s (reply s.dev h 0x0902 stOk)) ∧
        (precedes 16 g gen = false → gen ≠ g ∨ key ≠ k →
          exec (.keyDeliver h 0 gen ct wrap) s = did s (reply s.dev h 0x0902 (stw stParam 8))))) ∧
    (openDelivery s.dev h.part 1 gen ct wrap = some key →
      let new := did s (reply (modPart s.dev h.part fun q => { q with replKeys := (gen, key) :: q.replKeys.take 1 })
        h 0x0902 stOk)
      ((part s.dev h.part).replKeys = [] → exec (.keyDeliver h 1 gen ct wrap) s = new) ∧
      (∀ g k r, (part s.dev h.part).replKeys = (g, k) :: r →
        (precedes 16 g gen = true → exec (.keyDeliver h 1 gen ct wrap) s = new) ∧
        (precedes 16 g gen = false → gen = g → key = k →
          exec (.keyDeliver h 1 gen ct wrap) s = did s (reply s.dev h 0x0902 stOk)) ∧
        (precedes 16 g gen = false → gen ≠ g ∨ key ≠ k →
          exec (.keyDeliver h 1 gen ct wrap) s = did s (reply s.dev h 0x0902 (stw stParam 8)))))

/-- R560, R637, R661 to R663: firmware images and the hot handover. -/
def Obligations.FirmwareCommandsComplete : Prop :=  ∀ (s : State) (h : CmdHdr), ByOperator s h →
    (∀ n, 32560 ≤ n → n ≤ 16809712 → s.dev.obs.fwCmd = none →
      exec (.fwLoad h (standbyBank s.dev) n) s = did s
        (reply { s.dev with obs.fw := ⟨1, n, [], []⟩, obs.fwData := [] } h 0x0809 stOk)) ∧
    (∀ off data, firstFail (dataChecks s.dev.obs.fw off data) = none →
      exec (.fwData h (standbyBank s.dev) off data) s = did s
        (reply { s.dev with obs.fwData := Memory.writeBytes s.dev.obs.fwData off data } h 0x080A stOk)) ∧
    (let bytes := Memory.readBytes s.dev.obs.fwData 0 s.dev.obs.fw.length
     let n := bytes.length - 32496
     (∀ (img blk : List Byte), s.dev.obs.fw.st = 1 → s.dev.obs.fwCmd = none →
       firstFail (fwHeaderChecks (bytes.take n) (bytes.drop n)) = none →
       signedImage s.dev 0 true (cosign s.dev) bytes = some (img, blk) → s.dev.nv.minSvn ≤ field blk 6 2 →
       exec (.fwCommit h (standbyBank s.dev) (sha256 bytes)) s =
         did s { s.dev with obs.fwCmd := some h, obs.staged := none }) ∧
     (∀ (c : CmdHdr), s.dev.obs.fwCmd = some c →
       let hdr := fwHdrOf (bytes.take n) (bytes.drop n)
       (exec (.fwCommitDone (standbyBank s.dev) true) s = did s (reply { s.dev with
         obs.fwCmd := none, obs.fw := { s.dev.obs.fw with st := 2 }, obs.staged := some hdr,
         nv := setBank s.dev.nv (standbyBank s.dev) hdr } c 0x080B stOk)) ∧
       (exec (.fwCommitDone (standbyBank s.dev) false) s = did s (reply { s.dev with
         obs.fwCmd := none, nv := setBank s.dev.nv (standbyBank s.dev) ⟨false, 0, 0, 0, []⟩ } c 0x080B
         (stw stInternal 0))))) ∧
    (∀ x : FwHdr, s.dev.obs.staged = some x → x.stateMin ≤ s.dev.obs.running.stateVersion → handoverBars s.dev = false →
      s.dev.obs.draining = false →
      exec (.fwHandover h) s = did s { s.dev with obs.draining := true, obs.handover := some h }) ∧
    (∀ (c : CmdHdr) (x : FwHdr), s.dev.obs.handover = some c → s.dev.obs.staged = some x → s.dev.obs.draining = true →
      drained s.dev c = true → s.dev.plan.missed = true →
      exec .fwHandoverStart s = did s (reply { s.dev with
        obs.draining := false, obs.handover := none, obs.running := x, obs.staged := none, obs.bank := standbyBank s.dev,
        obs.fw := ⟨0, 0, [], []⟩, obs.fwData := [], nv := { s.dev.nv with bootBank := standbyBank s.dev },
        plan.fwPlan := Config.fumarolePlan x.sigHead } c 0x080C stOk))

/-- R423, R429 to R435: scrub, refill, refresh and row repair. -/
def Obligations.ScrubRowsComplete : Prop :=  ∀ s : State, Serving s → s.dev.pwr.st < 2 → s.dev.pwr.fumarole = false →
    (∀ finds, bgSlot s.dev 0 = true → s.dev.hbm.scrubbing = true →
      (exec (.scrubPass finds false) s = did s (noteBg 0 (finds.foldl scrubFind s.dev))) ∧
      (exec (.scrubPass finds true) s = did s (noteBg 0 (bump { finds.foldl scrubFind s.dev with hbm.scrubbing := false }
        Addr.TMC_SCRUB_PASS_CNT)))) ∧
    (∀ finds, bgSlot s.dev 0 = true → s.dev.hbm.scrubbing = false → s.dev.hbm.scrubDue + scrubPeriod s.dev ≤ s.dev.tick →
      exec (.scrubPass finds false) s = did s (noteBg 0 (finds.foldl scrubFind (passBegins s.dev)))) ∧
    (∀ (f : Nat) (x : Frame), bgSlot s.dev 0 = true → s.dev.hbm.refills.contains f = true →
      (s.dev.pg.xfers.any fun x => x.kind == .refill && x.frame == f) = false → frame s.dev f = some x → x.st = .valid →
      x.tv = true →
      exec (.scrubRefill f) s = did s (noteBg 0 (issueRead s.dev x.own (mkXfer .refill f x.twin [] 0)))) ∧
    (∀ pc, bgSlot s.dev 2 = true → exec (.refresh pc) s = did s (noteBg 2 s.dev)) ∧
    (∀ pc acts, bgSlot s.dev 2 = true → bgOn s.dev 2 (pc / 32) = true →
      let d := acts.foldl (trackRow pc) s.dev
      let due := (d.hbm.refreshQ.filter fun q => q.1 == pc).take 4
      exec (.targetedRefresh pc acts) s = did s (noteBg 2 (bumpBy { d with
        hbm.refreshQ := d.hbm.refreshQ.filter fun q => !due.contains q } Addr.TMC_ROW_MITIG_CNT due.length))) ∧
    (s.dev.tick % 1536 = 0 → exec .rowTrackerClear s = did s { s.dev with hbm.tracker := [] }) ∧
    (∀ (pc bank row n : Nat), bgSlot s.dev 2 = true → bgOn s.dev 2 (pc / 32) = true →
      (s.dev.hbm.rowErrs.find? fun q => q.1 == pc && q.2.1 == bank && q.2.2.1 == row) = some (pc, bank, row, n) → 4 ≤ n →
      let d := { s.dev with hbm.rowErrs := s.dev.hbm.rowErrs.filter fun q => !(q.1 == pc && q.2.1 == bank && q.2.2.1 == row) }
      let inRow := fun c : CwAddr => (granuleAt d c.frame c.granule).1 == pc &&
        bankRow d (granuleAt d c.frame c.granule).1 (granuleAt d c.frame c.granule).2 == (bank, row)
      exec (.rowRepair pc bank row true) s = did s (noteBg 2 (bump (sealWhere d inRow) Addr.TMC_ROW_REPAIR_CNT)) ∧
      exec (.rowRepair pc bank row false) s = did s (noteBg 2 (bump d Addr.TMC_ROW_REPAIR_FAIL_CNT)))

/-- R437 to R441, R660: a pseudo-channel is retired, and the fumarole window emptied. -/
def Obligations.RetirementRowsComplete : Prop :=  ∀ s : State,
    (∀ (h : CmdHdr) (pc : Nat) (p : Plan), ByOperator s h → s.dev.plan.active = some p → p.retiredPcs.contains pc = true →
      (pcAt s.dev pc).st = 1 → stackSpent s.dev pc = false → s.dev.hbm.retire = none → s.dev.pwr.fumarole = false →
      s.dev.pwr.migrating = false →
      exec (.hbmRetire h pc) s = did s { setPc s.dev pc { pcAt s.dev pc with st := 2 } with
        hbm.retire := some ⟨h, pc, 0⟩, hbm.bandOut := true, pwr.busyDormant := true }) ∧
    (∀ (r : Retire) (x : Frame) (f g : Nat) (d : Dev), Serving s → s.dev.pwr.st < 2 → s.dev.pwr.fumarole = false → bgSlot s.dev 2 = true →
      s.dev.hbm.retire = some r → frame s.dev f = some x → (bandInUse s.dev).contains f = true →
      placeOrEvict s.dev x.loc (f % 8) 64 = (some g, d) → (bandInUse d).contains f = true →
      exec (.bandRelocate f) s = did s (noteBg 2 { setFrame d g ⟨0, .retired, false, false, 0, 0, 0, x.loc, 0⟩ with
        hbm.reloc := tset d.hbm.reloc f g })) ∧
    (∀ (r : Retire) (n : Nat), Serving s → s.dev.pwr.st < 2 → s.dev.pwr.fumarole = false → bgSlot s.dev 2 = true →
      s.dev.hbm.retire = some r → bandInUse s.dev = [] → bgOn s.dev 2 (r.pc / 32) = true → r.cursor + n < retireGranules →
      let moved := fun w : CwAddr => (granuleAt s.dev w.frame w.granule).1 == r.pc &&
        decide (r.cursor ≤ (granuleAt s.dev w.frame w.granule).2) && decide ((granuleAt s.dev w.frame w.granule).2 < r.cursor + n)
      exec (.granuleMove n) s = did s (noteBg 2 { sealWhere s.dev moved with
        hbm.retire := some { r with cursor := r.cursor + n } })) ∧
    (∀ (r : Retire) (n : Nat), Serving s → s.dev.pwr.st < 2 → s.dev.pwr.fumarole = false → bgSlot s.dev 2 = true →
      s.dev.hbm.retire = some r → bandInUse s.dev = [] → bgOn s.dev 2 (r.pc / 32) = true → retireGranules ≤ r.cursor + n →
      let moved := fun w : CwAddr => (granuleAt s.dev w.frame w.granule).1 == r.pc &&
        decide (r.cursor ≤ (granuleAt s.dev w.frame w.granule).2) && decide ((granuleAt s.dev w.frame w.granule).2 < retireGranules)
      exec (.granuleMove n) s = did s (noteBg 2 (endRetire { sealWhere s.dev moved with
        hbm.retired := (s.dev.hbm.retired + 1) % 8 } r 3 stOk))) ∧
    (∀ f, Serving s → s.dev.pwr.st < 2 → s.dev.pwr.fumarole = false → bgSlot s.dev 2 = true →
      s.dev.pwr.migrating = true →
      (toMigrate s.dev).head? = some f →
      exec (.frameMigrate f) s = did s (noteBg 2 (settleMigration { s.dev with pwr.cursor := f + 1 })))

/-- R22, R71, R92, R697: a request that passes every check joins the waiting ones. R697: a request that fails a check
of its head is answered at once with that check's status. -/
def Obligations.RequestsAreAdmitted : Prop :=
  (∀ (s : State) (p cycle : Nat) (m : FabMsg) (app : Bool) (i : Nat) (ld : LayerDesc) (x : LayerSt) (ds : Descr),
    Serving s → Accepted s.dev p m (if app then 0x03 else 0x01) 1 →
    let a := askOf app m
    let d1 := noteSeen s.dev m.src m.type m.tag
    let d2 := stampAsk d1 p cycle m
    let d3 := touched d2 i
    firstFail (headChecks d2 m) = none → live d2 m.handle = some i → stateStatus (sess d3 i) = none →
    modelServed d3 (sess d3 i).model = true → layerOf d3 (sess d3 i) a.layer = some ld →
    (sess d3 i).layers[a.layer]? = some x → modelDesc d3 (sess d3 i).model = some ds →
    firstFail (askChecks x ld ds.maxQtok m.length a) = none →
    exec (if app then .appendOnly p cycle m else .attnReq p cycle m) s = did s (admitAsk d3 m a i d1.led.next cycle ld)) ∧
  (∀ (s : State) (p cycle st : Nat) (m : FabMsg), Serving s → Accepted s.dev p m 0x01 1 →
    let d1 := noteSeen s.dev m.src m.type m.tag
    let d2 := stampAsk d1 p cycle m
    firstFail (headChecks d2 m) = some st →
    exec (.attnReq p cycle m) s = did s (rejectAsk d2 m (askOf false m) st d1.led.next))

/-- R29 to R34, R59 to R71, R92, R193, R207 to R213: admission, batches, merges, expiries, thaws and summaries. -/
def Obligations.RequestRowsComplete : Prop :=  ∀ (s : State), Serving s →
    (∀ (handle i : Nat), live s.dev handle = some i → (sess s.dev i).st = .thawing → forking s.dev i = false →
      attachHolder s.dev i = false → svcSlot s.dev .mover (ownerOf s.dev i) = true →
      ((∀ r ∈ s.dev.reqs, r.entry ≠ i) ∨ ∃ r ∈ s.dev.reqs, r.entry = i ∧ r.tick ≠ s.dev.tick) →
      exec (.controlPageThaw handle) s =
        did s (activate ((controlSpns s.dev (sess s.dev i)).foldl (thawControl i) s.dev) i)) ∧
    (∀ p : Plan, s.dev.reqs ≠ [] → planFor { s.dev with pwr.busySimmer := true } (s.dev.tick + 1) = some p →
      mgmtSlot s.dev = true → s.dev.pwr.st = 0 → s.dev.pwr.throttle = false →
      let t := s.dev.tick + 1
      exec .manifestPrepare s = did s (writeManifest (offerItems p t (offerLaunches p t
        ((s.dev.reqs.map (·.seq)).foldl (admitOne p t) { s.dev with pwr.busySimmer := true }))) p t)) ∧
    (∀ (p : Plan) (idx : Nat) (m : ManEnt), s.dev.plan.active = some p → latchedAt s.dev idx 1 = some m →
      s.dev.plan.missed = false → m.planId = p.planId →
      exec (.layerBatch idx []) s = did s ((descReqs s.dev m).foldl runReq { s.dev with
        plan.latched := s.dev.plan.latched.filter fun q => !(q.slot == idx && q.kind == 1), pwr.busySimmer := true })) ∧
    (∀ (p : Plan) (idx : Nat) (decay : List CwErr) (m : ManEnt),
      (decay.foldl readErrs s.dev).plan.active = some p → latchedAt (decay.foldl readErrs s.dev) idx 1 = some m →
      (decay.foldl readErrs s.dev).plan.missed = false → m.planId ≠ p.planId →
      let d := decay.foldl readErrs s.dev
      exec (.layerBatch idx decay) s = did s (unadmit (bump { d with
        plan.latched := d.plan.latched.filter fun q => !(q.slot == idx && q.kind == 1), pwr.busySimmer := true }
        Addr.FSQ_MANIFEST_SKIP_CNT) (tgetD d.plan.descs m.desc []))) ∧
    (∀ (p : Plan) (idx : Nat) (sl : Slot), s.dev.plan.active = some p → p.slots[idx]? = some sl → sl.cls = .merge →
      sl.index = s.dev.tick % 64 → s.dev.plan.missed = false → (latchedAt s.dev idx 2).isSome = true →
      let d0 := { s.dev with plan.latched := s.dev.plan.latched.filter fun q => !(q.slot == idx && q.kind == 2) }
      carried d0 sl.unit = [] →
      let d := bumpBy d0 Addr.GEY_MERGE_CARRY_CNT 0
      exec (.mergeSlot idx []) s = did s (((d.reqs.filter fun r => r.group == sl.unit && r.phase == .merging).map
        (·.seq)).foldl settleReq d)) ∧
    (∀ (seq n : Nat) (r : Req), expiredAt s.dev .thaw seq = some n →
      ((dropTimer s.dev .thaw seq).reqs.find? fun r => r.seq == seq) = some r →
      let d := noteLateThaws (dropTimer s.dev .thaw seq) (r.kept.filter (lateAt n))
      exec (.thawExpiry seq) s = did s { d with reqs := d.reqs.map fun r => if r.seq = seq then
        { r with thawStamp := some n,
                 failed := if r.phase = .merging ∧ (r.kept.any (lateAt n)) then stTierLate else r.failed } else r }) ∧
    (∀ seq n : Nat, expiredAt s.dev .response seq = some n →
      exec (.responseExpiry seq) s = did s { s.dev with
        reqs := s.dev.reqs.map fun r => if r.seq = seq then { r with respStamp := some n } else r }) ∧
    (∀ (i l k f : Nat) (ld : LayerDesc) (x : LayerSt) (q : PageEnt) (job : SumJob) (page : Nat × PageData),
      s.dev.pwr.st < 2 → s.dev.pwr.fumarole = false → bgSlot s.dev 4 = true → layerOf s.dev (sess s.dev i) l = some ld →
      (sess s.dev i).layers[l]? = some x → x.pages[k]? = some q →
      (s.dev.vnt.sumQ.find? fun j => j.entry == i && j.layer == l && j.spn == q.spn) = some job →
      residentFrame s.dev q.spn = some f → sumWaits s.dev x ld k f = false →
      ((bgSlotsNow s.dev).any fun y => y.activity == 4 && onStack y (stackOf f)) = true →
      let d := dropJob s.dev i l q.spn
      oneStack d x ld k f = true → pageData d (sess s.dev i) l ld q.spn q.first (pageEnd x k) = .ok page →
      let d1 := bump (modLayer d i l fun x => { x with pages := modNth x.pages k fun p => { p with
        sum := { valid := true, spn := q.spn, posCount := pageEnd x k - q.first, heads := sumHeads ld page.2 } } })
        Addr.MUD_SUM_BUILT_CNT
      d1.tick - job.tick ≤ lim d1 Addr.MUD_SUM_TARGET →
      exec (.summaryBuild i l k) s = did s (noteBg 4 d1))

/-- R34, R465: an answered request leaves its append in the layer's length, and any other status does not. -/
def Obligations.AnswersAdvanceLengths : Prop :=  ∀ (d : Dev) (r : Req) (x : LayerSt) (out : List Byte) (code : Nat), (sess d r.entry).doomed = false →
    (sess d r.entry).layers[r.layer]? = some x →
    (r.fenced = false → r.appended ≠ 0 → ∃ y, (sess (endReq d r stOk out) r.entry).layers[r.layer]? = some y ∧
      y.len = r.first + r.appended) ∧
    (code ≠ stOk ∨ r.fenced = true → ∃ y, (sess (endReq d r code out) r.entry).layers[r.layer]? = some y ∧ y.len = x.len)

/-- R380, R383 to R386, R397: the integer, control and system classes on a ready context, whose next word is the
instruction's (log 9). R380: a wait ends and its result reaches its register. R382: g0 reads as zero and what is
written to it is discarded; any other register holds what it was given. -/
def Obligations.VentScalarRowsComplete : Prop :=
  (∀ (s : State) (c : CtxId) (x : VCtx), Serving s → CtxReady s.dev c x →
    let i := codeWord s.dev c x
    let d := turnTo s.dev c false
    let dw := turnTo s.dev c true
    (∀ (op : IntOp) (rd rs1 : Nat) (b : Src2), op ≠ .illegal → op ≠ .div → op ≠ .rem → (rowInteger op rd rs1 b).fits i = true →
      exec (.ventInteger c op rd rs1 b) s = did s (setCtx d c { gset x rd
        (intResult op (gget x rs1) (src2 x b) (if b matches .imm _ then (src2 x b).setWidth 16 else 0)) with pc := x.pc + 4 })) ∧
    (∀ (op : IntOp) (rd rs1 : Nat) (b : Src2), op = .div ∨ op = .rem → src2 x b ≠ 0 → (rowInteger op rd rs1 b).fits i = true →
      exec (.ventInteger c op rd rs1 b) s = did s (setCtx dw c { x with
        pc := x.pc + 4, wait := some (.result rd (divResult op (gget x rs1) (src2 x b))) })) ∧
    (∀ (op : IntOp) (rd rs1 : Nat) (b : Src2), op = .div ∨ op = .rem → src2 x b = 0 → (rowInteger op rd rs1 b).fits i = true →
      exec (.ventInteger c op rd rs1 b) s = did s (endThread dw c 8)) ∧
    (∀ (rs1 rs2 : Nat) (disp : Int),
      ((rowControl .jump rs1 rs2 disp).fits i = true →
        exec (.ventControl c .jump rs1 rs2 disp) s = did s (setCtx d c { x with pc := branchTo x.pc disp })) ∧
      ((rowControl .jumpReg rs1 rs2 disp).fits i = true →
        exec (.ventControl c .jumpReg rs1 rs2 disp) s = did s (setCtx d c { x with pc := jumpTo (gget x rs1) })) ∧
      ((rowControl .jumpLink rs1 rs2 disp).fits i = true →
        exec (.ventControl c .jumpLink rs1 rs2 disp) s = did s (setCtx d c
          { gset x (Config.linkReg % 32) (BitVec.ofNat 64 (2 ^ 60 + x.pc + 4)) with pc := branchTo x.pc disp })) ∧
      (∀ op, op ∈ [CtlOp.beq, .bne, .blt, .bge, .bltu, .bgeu] → (rowControl op rs1 rs2 disp).fits i = true →
        exec (.ventControl c op rs1 rs2 disp) s = did s (setCtx d c { x with
          pc := if taken op (gget x rs1) (gget x rs2) then branchTo x.pc disp else x.pc + 4 }))) ∧
    ((rowSystem true).fits i = true →
      exec (.yield c) s = did s (setCtx dw c { x with pc := x.pc + 4, wait := some .plain }) ∧
      exec (.fence c) s = did s (setCtx d c { x with pc := x.pc + 4 }) ∧
      exec (.exit c) s = did s (endThread d c 0) ∧
      (∀ rd rs1, c.mudpot = false → (pkgOf s.dev x).2.device = true →
        exec (.deviceViewRequest c rd rs1) s =
          did s (setCtx dw c { x with pc := x.pc + 4, wait := some (.device rd) })))) ∧
  (∀ (s : State) (c : CtxId) (x : VCtx), Serving s → ctxOf s.dev c = some x →
    (x.wait = some .plain → exec (.waitSatisfied c) s = did s (setCtx s.dev c { x with wait := none })) ∧
    (∀ rd v, x.wait = some (.result rd v) →
      exec (.waitSatisfied c) s = did s (setCtx s.dev c (gset { x with wait := none } rd v))) ∧
    (∀ rd lo hi, x.wait = some (.result2 rd lo hi) →
      exec (.waitSatisfied c) s = did s (setCtx s.dev c (vset { x with wait := none } rd (hi ++ lo)))) ∧
    (∀ rd, x.wait = some (.device rd) → ∃ v : VReg, exec (.waitSatisfied c) s = did s
      { setCtx s.dev c (gset { x with wait := none } rd v) with freeCnt := s.dev.freeCnt + 1 })) ∧
  (∀ (x : VCtx) (r k : Nat) (v : VReg), x.regs.length = 32 → r < 32 →
    gget x 0 = 0 ∧ gset x 0 v = x ∧ (r ≠ 0 → gget (gset x r v) r = v) ∧ (k ≠ r → gget (gset x r v) k = gget x k) ∧
    (gset x r v).regs.length = 32)

/-- R380, R383, R385 to R388, R390: loads, stores and atomics of the arena, on a ready context whose next word is the
instruction's. -/
def Obligations.VentMemoryRowsComplete : Prop :=  ∀ (s : State) (c : CtxId) (x : VCtx) (base : Nat) (off : BitVec 16), Serving s → CtxReady s.dev c x →
    let a := memAddr x base off
    let i := codeWord s.dev c x
    let w := arenaBase c (pkgOf s.dev x).1 (pkgOf s.dev x).2 + a
    (∀ (n : Nat) (sg : Bool) (rd : Nat), n ∈ [1, 2, 4, 8] → a + n ≤ (pkgOf s.dev x).2.arenaBytes → a < 2 ^ 60 → a % n = 0 →
      (rowMemory true rd base off).fits i = true →
      exec (.ventLoad c n sg rd base off) s = did s (setCtx (freeNext (turnTo s.dev c true)) c { x with
        pc := x.pc + 4, wait := some (.result rd (extendTo sg n (Memory.readBytes s.dev.vnt.arena w n))) })) ∧
    (∀ rd, a + 16 ≤ (pkgOf s.dev x).2.arenaBytes → a < 2 ^ 60 → a % 16 = 0 → (rowMemory true rd base off).fits i = true →
      exec (.ventLoad c 16 false rd base off) s = did s (setCtx (freeNext (turnTo s.dev c true)) c { x with
        pc := x.pc + 4, wait := some (.result2 rd (BitVec.ofNat 64 (leNat ((Memory.readBytes s.dev.vnt.arena w 16).take 8)))
          (BitVec.ofNat 64 (leNat ((Memory.readBytes s.dev.vnt.arena w 16).drop 8)))) })) ∧
    (∀ (n rs : Nat), n ∈ [1, 2, 4, 8, 16] → a + n ≤ (pkgOf s.dev x).2.arenaBytes → a < 2 ^ 60 → a % n = 0 →
      (rowMemory false rs base off).fits i = true →
      exec (.ventStore c n rs base off) s = did s (setCtx { turnTo s.dev c false with
        vnt.arena := Memory.writeBytes s.dev.vnt.arena w (storeSource x n rs) } c { x with pc := x.pc + 4 })) ∧
    (∀ (n rs : Nat), n ∈ [1, 2, 4, 8, 16] → (pkgOf s.dev x).2.arenaBytes < a + n → a < 2 ^ 60 →
      (rowMemory false rs base off).fits i = true →
      exec (.ventStore c n rs base off) s = did s (endThread (turnTo s.dev c false) c 2)) ∧
    (∀ (n rs : Nat), n ∈ [1, 2, 4, 8, 16] → a + n ≤ (pkgOf s.dev x).2.arenaBytes → a < 2 ^ 60 → a % n ≠ 0 →
      (rowMemory false rs base off).fits i = true →
      exec (.ventStore c n rs base off) s = did s (endThread (turnTo s.dev c false) c 3)) ∧
    (∀ (op : AtomicOp) (rd rs1 rs2 : Nat), op ≠ .illegal → c.mudpot = false →
      let b := (gget x rs1).toNat
      let old := BitVec.ofNat 64 (leNat (Memory.readBytes s.dev.vnt.arena
        (arenaBase c (pkgOf s.dev x).1 (pkgOf s.dev x).2 + b) 8))
      b + 8 ≤ (pkgOf s.dev x).2.arenaBytes → b < 2 ^ 60 → b % 8 = 0 → (rowAtomic op rd rs1 rs2).fits i = true →
      exec (.ventAtomic c op rd rs1 rs2) s = did s (setCtx { turnTo s.dev c true with
        vnt.arena := Memory.writeBytes s.dev.vnt.arena (arenaBase c (pkgOf s.dev x).1 (pkgOf s.dev x).2 + b)
          (leBytes 8 (atomicNew op old (gget x rs2) (gget x rd)).toNat) } c
        { x with pc := x.pc + 4, wait := some (.result rd old) }))

/-- R388, R390: an arena store leaves every other byte of the arena and of the HBM. -/
def Obligations.ArenaStoreFrame : Prop :=  ∀ (s : State) (c : CtxId) (x : VCtx) (n rs base : Nat) (off : BitVec 16) (t : State), Serving s → CtxReady s.dev c x →
    n ∈ [1, 2, 4, 8, 16] → memAddr x base off < 2 ^ 60 → Memory.wf s.dev.vnt.arena = true →
    exec (.ventStore c n rs base off) s = .next t →
    let w := arenaBase c (pkgOf s.dev x).1 (pkgOf s.dev x).2 + memAddr x base off
    t.dev.pg.hbm = s.dev.pg.hbm ∧ t.dev.sess = s.dev.sess ∧ Memory.wf t.dev.vnt.arena = true ∧
    ∀ k, ¬ (w ≤ k ∧ k < w + n) → Memory.read t.dev.vnt.arena k = Memory.read s.dev.vnt.arena k

/-- R383, R384: the vector and conversion classes, on a ready context whose next word is the instruction's (log 9). -/
def Obligations.VentVectorRowsComplete : Prop :=  ∀ (s : State) (c : CtxId) (x : VCtx), Serving s → CtxReady s.dev c x →
    let i := codeWord s.dev c x
    let d := turnTo s.dev c false
    (∀ (op : VecOp) (ty : ElemType) (vd vs1 vs2 : Nat), c.mudpot = false → vecAssigned op ty = true →
      (rowVector op ty vd vs1 vs2).fits i = true →
      exec (.ventVector c op ty vd vs1 vs2) s = did s (setCtx d c
        { vset x vd (vecResult op ty (vget x vd) (vget x vs1) (vget x vs2)) with
          pc := (vset x vd (vecResult op ty (vget x vd) (vget x vs1) (vget x vs2))).pc + 4 })) ∧
    (∀ (op : VecOp) (ty : ElemType) (vd vs1 vs2 : Nat), c.mudpot = true ∨ vecAssigned op ty = false →
      (rowVector op ty vd vs1 vs2).fits i = true →
      exec (.ventVector c op ty vd vs1 vs2) s = did s (endThread d c 1)) ∧
    (∀ (src dst : ElemType) (rd rs1 : Nat), (rowConversion false rd rs1).fits i = true →
      exec (.ventConversion c false src dst rd rs1) s = did s (setCtx d c
        { gset x rd (scalarReg dst (convert src dst ((gget x rs1).toNat % 2 ^ elemBits src))) with pc := x.pc + 4 })) ∧
    (∀ (src dst : ElemType) (rd rs1 : Nat), (rowConversion true rd rs1).fits i = true →
      let y := vset x rd (unlanes (elemBits dst) (((lanes (elemBits src) (vget x rs1)).take
        (128 / max (elemBits src) (elemBits dst))).map (convert src dst)))
      exec (.ventConversion c true src dst rd rs1) s = did s (setCtx d c { y with pc := y.pc + 4 }))

/-- R407 to R410: write grants and writes under them, in a BG slot of the context's stack (R399). -/
def Obligations.GrantRowsComplete : Prop :=  ∀ (s : State) (c : CtxId), Serving s →
    (∀ (spn off : Nat) (data : List Byte) (g : Grant), c.mudpot = true → stackBg s.dev (c.core / 32) = true →
      off + data.length ≤ 65536 → grantOf s.dev c spn = some g → g.revoked = false →
      stackHolds s.dev (c.core / 32) g.frame off data.length = true →
      (g.raw = true ∨ badIn (mendBad s.dev g.frame off data.length false) g.frame off data.length = none) →
      exec (.mudpotWrite c spn off data) s =
        did s (notePage (writeFrame (mendBad s.dev g.frame off data.length (!g.raw)) g.frame off data) g.spn)) ∧
    (∀ (spn off : Nat) (data : List Byte), grantOf s.dev c spn = none ∨ (∃ g, grantOf s.dev c spn = some g ∧ g.revoked = true) →
      exec (.mudpotWrite c spn off data) s = .next s) ∧
    (∀ (spn f cycle : Nat) (raw : Bool) (q : Pte), c.mudpot = true → stackBg s.dev (c.core / 32) = true → inWindow s.dev f = false →
      let d := stampAt s.dev 20 0x09 0 (frameOwner s.dev f) spn cycle
      grantable d spn f = true → grantOwn d c spn = true → (d.vnt.grants.filter fun g => g.ctx == c).length < 4 →
      (d.vnt.grants.filter fun g => g.stack == c.core / 32).length < 512 → pte d spn = some q →
      let d1 := modPte (if q.raw && !raw then bump (resealFrame d f) Addr.MUD_RESEAL_CNT else d) spn fun q => { q with raw := raw }
      exec (.writeGrantRequest c spn f raw cycle) s = did s (bump { d1 with
        vnt.grants := d1.vnt.grants ++ [⟨c, spn, f, raw, c.core / 32, false⟩] } Addr.MUD_GRANT_CNT)) ∧
    (∀ (spn f cycle : Nat) (raw : Bool), c.mudpot = true → stackBg s.dev (c.core / 32) = true → inWindow s.dev f = false →
      let d := stampAt s.dev 20 0x09 0 (frameOwner s.dev f) spn cycle
      (grantable d spn f && grantOwn d c spn && decide ((d.vnt.grants.filter fun g => g.ctx == c).length < 4) &&
        decide ((d.vnt.grants.filter fun g => g.stack == c.core / 32).length < 512)) = false →
      exec (.writeGrantRequest c spn f raw cycle) s = did s (bump d Addr.MUD_REFUSE_CNT)) ∧
    (∀ spn, exec (.grantRelease c spn) s = did s { s.dev with
      vnt.grants := s.dev.vnt.grants.filter fun g => !(g.ctx == c && g.spn == spn) })

/-- R407: WRITE_GRANT_REQUEST completes: where R407's conditions hold the context holds the grant that it asked for,
in its mode, with RAW in the PTE as the mode says, and no page's bytes change. R408, R409: MUDPOT_WRITE completes:
under a grant that stands, RAW or on codewords that can be corrected, the bytes stand in the page's frame from the
offset on and every other byte of HBM is as before; nothing but the page's mark of change and its codewords' errors
changes beside them. R408: GRANT_RELEASE completes in every state of a serving device: the context's grant on the
page is gone, every other grant stands, and nothing else changes. -/
def Obligations.WriteGrantsComplete : Prop :=
  (∀ (s : State) (c : CtxId) (spn f cycle : Nat) (raw : Bool) (q : Pte), Serving s → c.mudpot = true →
    stackBg s.dev (c.core / 32) = true → inWindow s.dev f = false → grantable s.dev spn f = true → grantOwn s.dev c spn = true →
    (s.dev.vnt.grants.filter fun g => g.ctx == c).length < 4 →
    (s.dev.vnt.grants.filter fun g => g.stack == c.core / 32).length < 512 → pte s.dev spn = some q →
    ∃ t, exec (.writeGrantRequest c spn f raw cycle) s = .next t ∧
      t.dev.vnt.grants = s.dev.vnt.grants ++ [⟨c, spn, f, raw, c.core / 32, false⟩] ∧
      pte t.dev spn = some { q with raw := raw } ∧ t.dev.pg.hbm = s.dev.pg.hbm ∧ t.dev.sess = s.dev.sess ∧
      t.dev.reqs = s.dev.reqs ∧ t.pending = s.pending ∧ t.pins = s.pins) ∧
  (∀ (s : State) (c : CtxId) (spn off : Nat) (data : List Byte) (g : Grant), Serving s → c.mudpot = true →
    stackBg s.dev (c.core / 32) = true → off + data.length ≤ 65536 → grantOf s.dev c spn = some g → g.revoked = false →
    stackHolds s.dev (c.core / 32) g.frame off data.length = true →
    (g.raw = true ∨ badIn (mendBad s.dev g.frame off data.length false) g.frame off data.length = none) →
    Memory.wf s.dev.pg.hbm = true →
    ∃ t, exec (.mudpotWrite c spn off data) s = .next t ∧ Memory.wf t.dev.pg.hbm = true ∧
      (∀ k, k < data.length → some (Memory.read t.dev.pg.hbm (frameBase g.frame + off + k)) = data[k]?) ∧
      (∀ a, ¬ (frameBase g.frame + off ≤ a ∧ a < frameBase g.frame + off + data.length) →
        Memory.read t.dev.pg.hbm a = Memory.read s.dev.pg.hbm a) ∧
      t.dev.pg.ptes = s.dev.pg.ptes ∧ t.dev.vnt = s.dev.vnt ∧ t.dev.sess = s.dev.sess ∧ t.dev.reqs = s.dev.reqs ∧
      t.pending = s.pending ∧ t.pins = s.pins) ∧
  (∀ (s : State) (c : CtxId) (spn : Nat), Serving s →
    ∃ t, exec (.grantRelease c spn) s = .next t ∧ grantOf t.dev c spn = none ∧
      (∀ g, (g.ctx = c ∧ g.spn = spn) ∨ (g ∈ t.dev.vnt.grants ↔ g ∈ s.dev.vnt.grants)) ∧
      t = { s with dev := { s.dev with vnt := { s.dev.vnt with grants := t.dev.vnt.grants } } })

/-- R391 to R393, R560: a package is loaded, committed and dropped. -/
def Obligations.KernelCommandsComplete : Prop :=  ∀ (s : State) (h : CmdHdr) (o : Nat), ByOperator s h → 32 ≤ o → o ≤ 255 →
    (∀ (n : Nat) (fs : List Nat) (d1 : Dev), 128 ≤ n → n ≤ 0xFFFFFFC0 → n % 64 = 0 → (pkg s.dev o).img.st = 0 →
      allocOwnMany s.dev false 0 (ceilDiv n 65536) = .ok (fs, d1) →
      exec (.kernelLoad h o n) s = did s (reply (setPkg d1 o { Pkg.empty with
        img := { st := 1, length := n, frames := fs, digest := [] } }) h 0x0803 stOk)) ∧
    (∀ (off : Nat) (data : List Byte), firstFail (dataChecks (pkg s.dev o).img off data) = none →
      exec (.kernelData h o off data) s = did s (reply (imageWrite s.dev (pkg s.dev o).img 3 off data) h 0x0804 stOk)) ∧
    (∀ (img blk : List Byte) (p : Plan) (spns : List Nat) (d1 : Dev),
      let k := pkg s.dev o
      k.img.st = 1 → badAmong s.dev k.img.frames = none →
      signedImage s.dev 2 false true (imageAll s.dev k.img) = some (img, blk) → firstFail (pkgChecks img) = none →
      field img 6 1 = 0 → s.dev.plan.active = some p → arenasUsed s.dev + field img 16 4 ≤ p.arenaBytes →
      allocKernelPages s.dev o false (field img 24 4) = .ok (spns, d1) →
      exec (.kernelCommit h o (sha256 (imageAll s.dev k.img))) s = did s (reply (setPkg { d1 with
        vnt.arena := Memory.writeBytes (Memory.clear d1.vnt.arena (o * 2 ^ 24) (2 ^ 24)) (o * 2 ^ 24)
          ((img.drop (64 + field img 8 4)).take (field img 20 4)) } o
        { img := { k.img with st := 2, digest := sha256 (imageAll s.dev k.img) }, target := 0, objects := bit (field img 7 1) 0,
          device := bit (field img 7 1) 1, codeLen := field img 8 4, entry := field img 12 4, arenaBytes := field img 16 4,
          pages := field img 24 4, maxCtx := field img 28 4, budget := field img 32 4, kpages := spns }) h 0x0805 stOk)) ∧
    ((pkg s.dev o).img.st = 0 → exec (.kernelDrop h o) s = did s (reply s.dev h 0x0806 stOk)) ∧
    ((pkg s.dev o).img.st ≠ 0 → pkgBusy s.dev o = false →
      let d := freeFrames (dropPages s.dev (pkg s.dev o).kpages) (pkg s.dev o).img.frames
      exec (.kernelDrop h o) s = did s (reply { d with
        vnt.pkgs := tdel d.vnt.pkgs o, vnt.arena := Memory.clear d.vnt.arena (o * 2 ^ 24) (2 ^ 24) } h 0x0806 stOk))

/-- R284, R391, R560: the DATA commands keep HBM in its canonical form and write to the object's frames alone. -/
def Obligations.DataCommandsWriteTheirFrames : Prop :=  ∀ (s t : State) (h : CmdHdr) (o off : Nat) (data : List Byte), ByOperator s h → Memory.wf s.dev.pg.hbm = true →
    exec (.kernelData h o off data) s = .next t →
    Memory.wf t.dev.pg.hbm = true ∧ t.dev.sess = s.dev.sess ∧ t.dev.vnt = s.dev.vnt ∧
    ∀ k, (∀ f ∈ (pkg s.dev o).img.frames, ¬ (frameBase f ≤ k ∧ k < frameBase f + 65536)) →
      Memory.read t.dev.pg.hbm k = Memory.read s.dev.pg.hbm k

/-- R72, R394 to R397: a launch is taken, placed, stopped by its budget and answered. -/
def Obligations.LaunchRowsComplete : Prop :=  ∀ (s : State), Serving s →
    (∀ (h : CmdHdr) (q : LaunchDesc), h.part = 0 → fenced s.dev 0 = false → s.dev.pwr.fumarole = false →
      let k := pkg s.dev q.package
      q.package ≤ 255 → k.img.st = 2 → poolOpen s.dev k q.pool = true → 1 ≤ q.contexts → q.contexts ≤ k.maxCtx →
      q.argStride % 8 = 0 → q.objCount = 0 → q.objList = 0 → q.budget ≤ k.budget →
      exec (.kernelLaunch h q []) s = did s { s.dev with vnt.launches := s.dev.vnt.launches ++
        [{ cmd := h, d := q, objs := [], placed := none, live := 0, faulted := 0, firstThread := 0, fault := 0, pc := 0 }] }) ∧
    (∀ (seq : Nat) (l : Launch), launchOf s.dev seq = some l → l.placed = none → listed s.dev 3 seq = true →
      s.dev.pwr.throttle = false → s.dev.pwr.st ≠ 2 →
      let d0 := unlist s.dev 3 seq
      let p := pkg s.dev l.d.package
      p.img.st = 2 → l.d.contexts ≤ (poolContexts d0 p l.d.pool).length →
      let d := ((poolContexts d0 p l.d.pool).take l.d.contexts).zipIdx.foldl
        (fun d q => setCtx d q.1 (newThread l p q.2)) d0
      let d1 := modLaunch d seq fun l' => { l' with placed := some d.tick, live := l.d.contexts }
      exec (.launchPlace seq) s = did s (bump (addTimer { d1 with pwr.busyDormant := true, pwr.busySimmer := true } .budget
        (d1.tick + if l.d.budget = 0 then p.budget else l.d.budget) seq l.d.tag) Addr.VNT_LAUNCH_CNT)) ∧
    (∀ (seq : Nat) (l : Launch), launchOf s.dev seq = some l → l.placed.isSome = true → l.live = 0 →
      let d := workDone s.dev 19 (faultStatus l.fault) 0 l.d.tag
      exec (.launchComplete seq) s = did s (launchReply (dropTimer { d with
        vnt.launches := d.vnt.launches.filter fun x => x.cmd.seq != seq } .budget seq) l.cmd (faultStatus l.fault) l.faulted
        l.firstThread l.fault l.pc)) ∧
    (∀ seq : Nat, (expiredAt s.dev .budget seq).isSome = true →
      exec (.launchBudgetExpiry seq) s = did s ((s.dev.vnt.ctxs.filter fun q => q.2.launch == seq).foldl
        (fun d q => endThread d (ctxIdOf q.1) 7) s.dev))
end

