-- ==== Sys2Proof/Laws/Tables.lean ====
section
/-!
SUPPORT. Sys2Proof/Laws/Tables.lean: reading a sparse table after writing it, the canonical form of tables and of
memory, and reading memory after writing it.
-/

namespace Sys2Proof.Machine

variable {α : Type}

/-- A table read after a write. -/
theorem tget_tset (t : Tbl α) (k j : Nat) (v : α) : tget (tset t k v) j = if j = k then some v else tget t j := by
  induction t with
  | nil => simp only [tset, tget]; split_ifs <;> first | rfl | omega
  | cons p r ih =>
    obtain ⟨q, w⟩ := p
    simp only [tset]
    split_ifs with h1 h2 <;> simp only [tget] at * <;> (try rw [ih]) <;> split_ifs <;> first | rfl | omega

@[simp] theorem tget_tset_self (t : Tbl α) (k : Nat) (v : α) : tget (tset t k v) k = some v := by simp [tget_tset]

theorem tget_tset_ne (t : Tbl α) (k j : Nat) (v : α) (h : j ≠ k) : tget (tset t k v) j = tget t j := by
  simp [tget_tset, h]

theorem tgetD_tset (t : Tbl α) (k j : Nat) (v d : α) : tgetD (tset t k v) j d = if j = k then v else tgetD t j d := by
  simp only [tgetD, tget_tset]; split_ifs <;> rfl

@[simp] theorem tgetD_tset_self (t : Tbl α) (k : Nat) (v d : α) : tgetD (tset t k v) k d = v := by simp [tgetD_tset]

theorem tsorted_cons (a : Nat × α) (r : Tbl α) :
    tsorted (a :: r) = true ↔ (∀ b ∈ r, a.1 < b.1) ∧ tsorted r = true := by
  induction r generalizing a with
  | nil => simp [tsorted]
  | cons b r ih =>
    obtain ⟨x, u⟩ := a; obtain ⟨y, w⟩ := b
    simp only [tsorted, Bool.and_eq_true, decide_eq_true_eq, List.mem_cons, forall_eq_or_imp, ih (y, w)]
    constructor
    · rintro ⟨h, h1, h2⟩
      exact ⟨⟨h, fun b hb => Nat.lt_trans h (h1 b hb)⟩, h1, h2⟩
    · rintro ⟨⟨h, _⟩, h1, h2⟩
      exact ⟨h, h1, h2⟩

theorem mem_tset {t : Tbl α} {k : Nat} {v : α} {c : Nat × α} (h : c ∈ tset t k v) : c = (k, v) ∨ c ∈ t := by
  induction t with
  | nil => simpa [tset] using h
  | cons p r ih =>
    simp only [tset] at h
    split_ifs at h
    · exact (List.mem_cons.1 h).imp id id
    · rcases List.mem_cons.1 h with h | h
      · exact .inl h
      · exact .inr (List.mem_cons_of_mem _ h)
    · rcases List.mem_cons.1 h with h | h
      · exact .inr (h ▸ List.mem_cons_self)
      · exact (ih h).imp id (List.mem_cons_of_mem _)

theorem mem_tdel {t : Tbl α} {k : Nat} {c : Nat × α} (h : c ∈ tdel t k) : c ∈ t := by
  induction t with
  | nil => exact h
  | cons p r ih =>
    simp only [tdel] at h
    split_ifs at h
    · exact h
    · exact List.mem_cons_of_mem _ h
    · rcases List.mem_cons.1 h with h | h
      · exact h ▸ List.mem_cons_self
      · exact List.mem_cons_of_mem _ (ih h)

theorem tsorted_tset {t : Tbl α} (k : Nat) (v : α) (h : tsorted t = true) : tsorted (tset t k v) = true := by
  induction t with
  | nil => rfl
  | cons p r ih =>
    obtain ⟨q, w⟩ := p
    have hc := (tsorted_cons _ _).1 h
    simp only [tset]
    split_ifs with h1 h2
    · refine (tsorted_cons _ _).2 ⟨fun b hb => ?_, h⟩
      rcases List.mem_cons.1 hb with hb | hb
      · exact hb ▸ h1
      · exact Nat.lt_trans h1 (hc.1 b hb)
    · exact (tsorted_cons _ _).2 ⟨fun b hb => h2 ▸ hc.1 b hb, hc.2⟩
    · refine (tsorted_cons _ _).2 ⟨fun b hb => ?_, ih hc.2⟩
      rcases mem_tset hb with hb | hb
      · subst hb; show q < k; omega
      · exact hc.1 b hb

theorem tsorted_tdel {t : Tbl α} (k : Nat) (h : tsorted t = true) : tsorted (tdel t k) = true := by
  induction t with
  | nil => rfl
  | cons p r ih =>
    have hc := (tsorted_cons _ _).1 h
    simp only [tdel]
    split_ifs
    · exact h
    · exact hc.2
    · exact (tsorted_cons _ _).2 ⟨fun b hb => hc.1 b (mem_tdel hb), ih hc.2⟩

theorem tsorted_filter {t : Tbl α} (p : Nat × α → Bool) (h : tsorted t = true) : tsorted (t.filter p) = true := by
  induction t with
  | nil => rfl
  | cons a r ih =>
    have hc := (tsorted_cons _ _).1 h
    simp only [List.filter_cons]
    split_ifs
    · exact (tsorted_cons _ _).2 ⟨fun b hb => hc.1 b (List.mem_filter.1 hb).1, ih hc.2⟩
    · exact ih hc.2

/-- A table of rising keys reads nothing below its first key. -/
theorem tget_none {t : Tbl α} {k : Nat} (h : ∀ b ∈ t, k < b.1) : tget t k = none := by
  cases t with
  | nil => rfl
  | cons p r => simp [tget, h p List.mem_cons_self]

/-- A table of rising keys read after a key was taken out. -/
theorem tget_tdel {t : Tbl α} (k j : Nat) (h : tsorted t = true) :
    tget (tdel t k) j = if j = k then none else tget t j := by
  induction t with
  | nil => simp [tdel, tget]
  | cons p r ih =>
    obtain ⟨q, w⟩ := p
    have hc := (tsorted_cons _ _).1 h
    have hn : ∀ i, i ≤ q → tget r i = none := fun i hi => tget_none fun b hb => Nat.lt_of_le_of_lt hi (hc.1 b hb)
    simp only [tdel]
    split_ifs with h1 h2 h3 h3
    · subst h2; simp [tget, h1]
    · rfl
    · subst h3; exact hn j (by omega)
    · simp only [tget]; split_ifs
      · exact hn j (by omega)
      · omega
      · rfl
    all_goals (simp only [tget, ih hc.2]; split_ifs <;> first | rfl | omega)

/-! ## Memory -/

theorem wf_iff (m : List Host.Cell) : Memory.wf m = true ↔ tsorted m = true ∧ ∀ c ∈ m, c.2 ≠ 0 := by
  simp [Memory.wf]

/-- Every memory operation keeps the canonical form. -/
theorem Memory.wf_write {m : List Host.Cell} (a : Nat) (b : Byte) (h : Memory.wf m = true) :
    Memory.wf (Memory.write m a b) = true := by
  obtain ⟨h1, h2⟩ := (wf_iff m).1 h
  unfold Memory.write
  split_ifs with hb
  · exact (wf_iff _).2 ⟨tsorted_tdel a h1, fun c hc => h2 c (mem_tdel hc)⟩
  · refine (wf_iff _).2 ⟨tsorted_tset a b h1, fun c hc => ?_⟩
    rcases mem_tset hc with hc | hc
    · subst hc; exact hb
    · exact h2 c hc

theorem Memory.wf_writeBytes (l : List Byte) : ∀ {m : List Host.Cell} (a : Nat), Memory.wf m = true →
    Memory.wf (Memory.writeBytes m a l) = true := by
  induction l with
  | nil => exact fun _ h => h
  | cons b r ih => exact fun a h => ih (a + 1) (Memory.wf_write a b h)

theorem Memory.wf_clear {m : List Host.Cell} (a n : Nat) (h : Memory.wf m = true) :
    Memory.wf (Memory.clear m a n) = true := by
  obtain ⟨h1, h2⟩ := (wf_iff m).1 h
  exact (wf_iff _).2 ⟨tsorted_filter _ h1, fun c hc => h2 c (List.mem_filter.1 hc).1⟩

theorem Memory.wf_paste (l : List Host.Cell) : ∀ {m : List Host.Cell} (a : Nat), Memory.wf m = true →
    Memory.wf (Memory.paste m a l) = true := by
  induction l with
  | nil => exact fun _ h => h
  | cons c r ih => exact fun a h => ih a (Memory.wf_write _ _ h)

theorem Memory.wf_copy {m : List Host.Cell} (src dst n : Nat) (h : Memory.wf m = true) :
    Memory.wf (Memory.copy m src dst n) = true := Memory.wf_paste _ _ (Memory.wf_clear _ _ h)

theorem tsorted_slice (a n : Nat) : ∀ {m : List Host.Cell}, tsorted m = true →
    tsorted (Memory.slice m a n) = true := by
  intro m
  induction m with
  | nil => exact fun h => h
  | cons c r ih =>
    intro h
    have hc := (tsorted_cons _ _).1 h
    simp only [Memory.slice, List.filter_cons]
    split_ifs with hp
    · refine (tsorted_cons _ _).2 ⟨fun b hb => ?_, ih hc.2⟩
      obtain ⟨x, hx, rfl⟩ := List.mem_map.1 hb
      have h1 := hc.1 x (List.mem_filter.1 hx).1
      simp only [Bool.and_eq_true, decide_eq_true_eq] at hp
      show c.1 - a < x.1 - a
      omega
    · exact ih hc.2

theorem Memory.wf_slice {m : List Host.Cell} (a n : Nat) (h : Memory.wf m = true) :
    Memory.wf (Memory.slice m a n) = true := by
  obtain ⟨h1, h2⟩ := (wf_iff m).1 h
  refine (wf_iff _).2 ⟨tsorted_slice a n h1, fun c hc => ?_⟩
  obtain ⟨x, hx, rfl⟩ := List.mem_map.1 hc
  exact h2 x (List.mem_filter.1 hx).1

/-- Memory read after one byte was written. -/
theorem Memory.read_write {m : List Host.Cell} (a b : Nat) (v : Byte) (h : Memory.wf m = true) :
    Memory.read (Memory.write m a v) b = if b = a then v else Memory.read m b := by
  obtain ⟨h1, _⟩ := (wf_iff m).1 h
  unfold Memory.read Memory.write
  split_ifs with hv hb hb
  · subst hb; simp [tgetD, tget_tdel b b h1, hv]
  · simp [tgetD, tget_tdel a b h1, hb]
  · simp [hb]
  · simp [tgetD_tset, hb]

/-- Memory outside the bytes written reads as before. -/
theorem Memory.read_writeBytes (l : List Byte) : ∀ {m : List Host.Cell} (a b : Nat), Memory.wf m = true →
    Memory.read (Memory.writeBytes m a l) b = if a ≤ b ∧ b < a + l.length then (l[b - a]?).getD 0 else Memory.read m b := by
  induction l with
  | nil => intro m a b h; simp [Memory.writeBytes]
  | cons x r ih =>
    intro m a b h
    simp only [Memory.writeBytes]
    rw [ih (a + 1) b (Memory.wf_write a x h), Memory.read_write a b x h]
    by_cases h1 : b = a
    · subst h1; simp
    · by_cases h2 : a + 1 ≤ b ∧ b < a + 1 + r.length
      · rw [if_pos h2, if_pos (by simp; omega)]
        obtain ⟨k, rfl⟩ : ∃ k, b = a + 1 + k := ⟨b - (a + 1), by omega⟩
        have : a + 1 + k - a = k + 1 := by omega
        simp [this]
      · rw [if_neg h2, if_neg h1, if_neg (by simp; omega)]

end Sys2Proof.Machine
end

