-- ==== Sys2Proof/Laws/State.lean ====
section
/-!
SUPPORT. Sys2Proof/Laws/State.lean: what each update of the device leaves: one lemma for each update and each field that it
does not change, and the reading of what it does change.
-/

namespace Sys2Proof.Machine

variable (s : Dev)

@[simp] theorem noteObj_tick (k : Nat) : (noteObj s k).tick = s.tick := by unfold noteObj; split <;> rfl
@[simp] theorem noteObj_freeCnt (k : Nat) : (noteObj s k).freeCnt = s.freeCnt := by unfold noteObj; split <;> rfl
@[simp] theorem noteObj_led (k : Nat) : (noteObj s k).led = s.led := by unfold noteObj; split <;> rfl
@[simp] theorem noteObj_timers (k : Nat) : (noteObj s k).timers = s.timers := by unfold noteObj; split <;> rfl
@[simp] theorem noteObj_sess (k : Nat) : (noteObj s k).sess = s.sess := by unfold noteObj; split <;> rfl
@[simp] theorem noteObj_pg (k : Nat) : (noteObj s k).pg = s.pg := by unfold noteObj; split <;> rfl
@[simp] theorem noteObj_tier (k : Nat) : (noteObj s k).tier = s.tier := by unfold noteObj; split <;> rfl
@[simp] theorem noteObj_parts (k : Nat) : (noteObj s k).parts = s.parts := by unfold noteObj; split <;> rfl
@[simp] theorem noteObj_reqs (k : Nat) : (noteObj s k).reqs = s.reqs := by unfold noteObj; split <;> rfl
@[simp] theorem noteObj_plan (k : Nat) : (noteObj s k).plan = s.plan := by unfold noteObj; split <;> rfl
@[simp] theorem noteObj_host (k : Nat) : (noteObj s k).host = s.host := by unfold noteObj; split <;> rfl
@[simp] theorem noteObj_mdl (k : Nat) : (noteObj s k).mdl = s.mdl := by unfold noteObj; split <;> rfl
@[simp] theorem noteObj_adp (k : Nat) : (noteObj s k).adp = s.adp := by unfold noteObj; split <;> rfl
@[simp] theorem noteObj_snt (k : Nat) : (noteObj s k).snt = s.snt := by unfold noteObj; split <;> rfl
@[simp] theorem noteObj_pfx (k : Nat) : (noteObj s k).pfx = s.pfx := by unfold noteObj; split <;> rfl
@[simp] theorem noteObj_tok (k : Nat) : (noteObj s k).tok = s.tok := by unfold noteObj; split <;> rfl
@[simp] theorem noteObj_rtv (k : Nat) : (noteObj s k).rtv = s.rtv := by unfold noteObj; split <;> rfl
@[simp] theorem noteObj_vnt (k : Nat) : (noteObj s k).vnt = s.vnt := by unfold noteObj; split <;> rfl
@[simp] theorem noteObj_hbm (k : Nat) : (noteObj s k).hbm = s.hbm := by unfold noteObj; split <;> rfl
@[simp] theorem noteObj_fab (k : Nat) : (noteObj s k).fab = s.fab := by unfold noteObj; split <;> rfl
@[simp] theorem noteObj_tsh (k : Nat) : (noteObj s k).tsh = s.tsh := by unfold noteObj; split <;> rfl
@[simp] theorem noteObj_pwr (k : Nat) : (noteObj s k).pwr = s.pwr := by unfold noteObj; split <;> rfl
@[simp] theorem noteObj_obs (k : Nat) : (noteObj s k).obs = s.obs := by unfold noteObj; split <;> rfl
@[simp] theorem noteObj_reg (k : Nat) : (noteObj s k).reg = s.reg := by unfold noteObj; split <;> rfl
@[simp] theorem noteObj_nv (k : Nat) : (noteObj s k).nv = s.nv := by unfold noteObj; split <;> rfl

@[simp] theorem setSess_tick (i : Nat) (e : SessEnt) : (setSess s i e).tick = s.tick := noteObj_tick _ _
@[simp] theorem setSess_freeCnt (i : Nat) (e : SessEnt) : (setSess s i e).freeCnt = s.freeCnt := noteObj_freeCnt _ _
@[simp] theorem setSess_led (i : Nat) (e : SessEnt) : (setSess s i e).led = s.led := noteObj_led _ _
@[simp] theorem setSess_timers (i : Nat) (e : SessEnt) : (setSess s i e).timers = s.timers := noteObj_timers _ _
@[simp] theorem setSess_pg (i : Nat) (e : SessEnt) : (setSess s i e).pg = s.pg := noteObj_pg _ _
@[simp] theorem setSess_tier (i : Nat) (e : SessEnt) : (setSess s i e).tier = s.tier := noteObj_tier _ _
@[simp] theorem setSess_parts (i : Nat) (e : SessEnt) : (setSess s i e).parts = s.parts := noteObj_parts _ _
@[simp] theorem setSess_reqs (i : Nat) (e : SessEnt) : (setSess s i e).reqs = s.reqs := noteObj_reqs _ _
@[simp] theorem setSess_plan (i : Nat) (e : SessEnt) : (setSess s i e).plan = s.plan := noteObj_plan _ _
@[simp] theorem setSess_host (i : Nat) (e : SessEnt) : (setSess s i e).host = s.host := noteObj_host _ _
@[simp] theorem setSess_mdl (i : Nat) (e : SessEnt) : (setSess s i e).mdl = s.mdl := noteObj_mdl _ _
@[simp] theorem setSess_adp (i : Nat) (e : SessEnt) : (setSess s i e).adp = s.adp := noteObj_adp _ _
@[simp] theorem setSess_snt (i : Nat) (e : SessEnt) : (setSess s i e).snt = s.snt := noteObj_snt _ _
@[simp] theorem setSess_pfx (i : Nat) (e : SessEnt) : (setSess s i e).pfx = s.pfx := noteObj_pfx _ _
@[simp] theorem setSess_tok (i : Nat) (e : SessEnt) : (setSess s i e).tok = s.tok := noteObj_tok _ _
@[simp] theorem setSess_rtv (i : Nat) (e : SessEnt) : (setSess s i e).rtv = s.rtv := noteObj_rtv _ _
@[simp] theorem setSess_vnt (i : Nat) (e : SessEnt) : (setSess s i e).vnt = s.vnt := noteObj_vnt _ _
@[simp] theorem setSess_hbm (i : Nat) (e : SessEnt) : (setSess s i e).hbm = s.hbm := noteObj_hbm _ _
@[simp] theorem setSess_fab (i : Nat) (e : SessEnt) : (setSess s i e).fab = s.fab := noteObj_fab _ _
@[simp] theorem setSess_tsh (i : Nat) (e : SessEnt) : (setSess s i e).tsh = s.tsh := noteObj_tsh _ _
@[simp] theorem setSess_pwr (i : Nat) (e : SessEnt) : (setSess s i e).pwr = s.pwr := noteObj_pwr _ _
@[simp] theorem setSess_obs (i : Nat) (e : SessEnt) : (setSess s i e).obs = s.obs := noteObj_obs _ _
@[simp] theorem setSess_reg (i : Nat) (e : SessEnt) : (setSess s i e).reg = s.reg := noteObj_reg _ _
@[simp] theorem setSess_nv (i : Nat) (e : SessEnt) : (setSess s i e).nv = s.nv := noteObj_nv _ _

@[simp] theorem modSess_tick (i : Nat) (f : SessEnt → SessEnt) : (modSess s i f).tick = s.tick := noteObj_tick _ _
@[simp] theorem modSess_freeCnt (i : Nat) (f : SessEnt → SessEnt) : (modSess s i f).freeCnt = s.freeCnt := noteObj_freeCnt _ _
@[simp] theorem modSess_led (i : Nat) (f : SessEnt → SessEnt) : (modSess s i f).led = s.led := noteObj_led _ _
@[simp] theorem modSess_timers (i : Nat) (f : SessEnt → SessEnt) : (modSess s i f).timers = s.timers := noteObj_timers _ _
@[simp] theorem modSess_pg (i : Nat) (f : SessEnt → SessEnt) : (modSess s i f).pg = s.pg := noteObj_pg _ _
@[simp] theorem modSess_tier (i : Nat) (f : SessEnt → SessEnt) : (modSess s i f).tier = s.tier := noteObj_tier _ _
@[simp] theorem modSess_parts (i : Nat) (f : SessEnt → SessEnt) : (modSess s i f).parts = s.parts := noteObj_parts _ _
@[simp] theorem modSess_reqs (i : Nat) (f : SessEnt → SessEnt) : (modSess s i f).reqs = s.reqs := noteObj_reqs _ _
@[simp] theorem modSess_plan (i : Nat) (f : SessEnt → SessEnt) : (modSess s i f).plan = s.plan := noteObj_plan _ _
@[simp] theorem modSess_host (i : Nat) (f : SessEnt → SessEnt) : (modSess s i f).host = s.host := noteObj_host _ _
@[simp] theorem modSess_mdl (i : Nat) (f : SessEnt → SessEnt) : (modSess s i f).mdl = s.mdl := noteObj_mdl _ _
@[simp] theorem modSess_adp (i : Nat) (f : SessEnt → SessEnt) : (modSess s i f).adp = s.adp := noteObj_adp _ _
@[simp] theorem modSess_snt (i : Nat) (f : SessEnt → SessEnt) : (modSess s i f).snt = s.snt := noteObj_snt _ _
@[simp] theorem modSess_pfx (i : Nat) (f : SessEnt → SessEnt) : (modSess s i f).pfx = s.pfx := noteObj_pfx _ _
@[simp] theorem modSess_tok (i : Nat) (f : SessEnt → SessEnt) : (modSess s i f).tok = s.tok := noteObj_tok _ _
@[simp] theorem modSess_rtv (i : Nat) (f : SessEnt → SessEnt) : (modSess s i f).rtv = s.rtv := noteObj_rtv _ _
@[simp] theorem modSess_vnt (i : Nat) (f : SessEnt → SessEnt) : (modSess s i f).vnt = s.vnt := noteObj_vnt _ _
@[simp] theorem modSess_hbm (i : Nat) (f : SessEnt → SessEnt) : (modSess s i f).hbm = s.hbm := noteObj_hbm _ _
@[simp] theorem modSess_fab (i : Nat) (f : SessEnt → SessEnt) : (modSess s i f).fab = s.fab := noteObj_fab _ _
@[simp] theorem modSess_tsh (i : Nat) (f : SessEnt → SessEnt) : (modSess s i f).tsh = s.tsh := noteObj_tsh _ _
@[simp] theorem modSess_pwr (i : Nat) (f : SessEnt → SessEnt) : (modSess s i f).pwr = s.pwr := noteObj_pwr _ _
@[simp] theorem modSess_obs (i : Nat) (f : SessEnt → SessEnt) : (modSess s i f).obs = s.obs := noteObj_obs _ _
@[simp] theorem modSess_reg (i : Nat) (f : SessEnt → SessEnt) : (modSess s i f).reg = s.reg := noteObj_reg _ _
@[simp] theorem modSess_nv (i : Nat) (f : SessEnt → SessEnt) : (modSess s i f).nv = s.nv := noteObj_nv _ _

@[simp] theorem touched_tick (i : Nat) : (touched s i).tick = s.tick := noteObj_tick _ _
@[simp] theorem touched_freeCnt (i : Nat) : (touched s i).freeCnt = s.freeCnt := noteObj_freeCnt _ _
@[simp] theorem touched_led (i : Nat) : (touched s i).led = s.led := noteObj_led _ _
@[simp] theorem touched_timers (i : Nat) : (touched s i).timers = s.timers := noteObj_timers _ _
@[simp] theorem touched_pg (i : Nat) : (touched s i).pg = s.pg := noteObj_pg _ _
@[simp] theorem touched_tier (i : Nat) : (touched s i).tier = s.tier := noteObj_tier _ _
@[simp] theorem touched_parts (i : Nat) : (touched s i).parts = s.parts := noteObj_parts _ _
@[simp] theorem touched_reqs (i : Nat) : (touched s i).reqs = s.reqs := noteObj_reqs _ _
@[simp] theorem touched_plan (i : Nat) : (touched s i).plan = s.plan := noteObj_plan _ _
@[simp] theorem touched_host (i : Nat) : (touched s i).host = s.host := noteObj_host _ _
@[simp] theorem touched_mdl (i : Nat) : (touched s i).mdl = s.mdl := noteObj_mdl _ _
@[simp] theorem touched_adp (i : Nat) : (touched s i).adp = s.adp := noteObj_adp _ _
@[simp] theorem touched_snt (i : Nat) : (touched s i).snt = s.snt := noteObj_snt _ _
@[simp] theorem touched_pfx (i : Nat) : (touched s i).pfx = s.pfx := noteObj_pfx _ _
@[simp] theorem touched_tok (i : Nat) : (touched s i).tok = s.tok := noteObj_tok _ _
@[simp] theorem touched_rtv (i : Nat) : (touched s i).rtv = s.rtv := noteObj_rtv _ _
@[simp] theorem touched_vnt (i : Nat) : (touched s i).vnt = s.vnt := noteObj_vnt _ _
@[simp] theorem touched_hbm (i : Nat) : (touched s i).hbm = s.hbm := noteObj_hbm _ _
@[simp] theorem touched_fab (i : Nat) : (touched s i).fab = s.fab := noteObj_fab _ _
@[simp] theorem touched_tsh (i : Nat) : (touched s i).tsh = s.tsh := noteObj_tsh _ _
@[simp] theorem touched_pwr (i : Nat) : (touched s i).pwr = s.pwr := noteObj_pwr _ _
@[simp] theorem touched_obs (i : Nat) : (touched s i).obs = s.obs := noteObj_obs _ _
@[simp] theorem touched_reg (i : Nat) : (touched s i).reg = s.reg := noteObj_reg _ _
@[simp] theorem touched_nv (i : Nat) : (touched s i).nv = s.nv := noteObj_nv _ _

@[simp] theorem regSet_tick (a : Nat) (v : Word) : (regSet s a v).tick = s.tick := rfl
@[simp] theorem regSet_freeCnt (a : Nat) (v : Word) : (regSet s a v).freeCnt = s.freeCnt := rfl
@[simp] theorem regSet_led (a : Nat) (v : Word) : (regSet s a v).led = s.led := rfl
@[simp] theorem regSet_timers (a : Nat) (v : Word) : (regSet s a v).timers = s.timers := rfl
@[simp] theorem regSet_sess (a : Nat) (v : Word) : (regSet s a v).sess = s.sess := rfl
@[simp] theorem regSet_pg (a : Nat) (v : Word) : (regSet s a v).pg = s.pg := rfl
@[simp] theorem regSet_tier (a : Nat) (v : Word) : (regSet s a v).tier = s.tier := rfl
@[simp] theorem regSet_parts (a : Nat) (v : Word) : (regSet s a v).parts = s.parts := rfl
@[simp] theorem regSet_reqs (a : Nat) (v : Word) : (regSet s a v).reqs = s.reqs := rfl
@[simp] theorem regSet_plan (a : Nat) (v : Word) : (regSet s a v).plan = s.plan := rfl
@[simp] theorem regSet_host (a : Nat) (v : Word) : (regSet s a v).host = s.host := rfl
@[simp] theorem regSet_mdl (a : Nat) (v : Word) : (regSet s a v).mdl = s.mdl := rfl
@[simp] theorem regSet_adp (a : Nat) (v : Word) : (regSet s a v).adp = s.adp := rfl
@[simp] theorem regSet_snt (a : Nat) (v : Word) : (regSet s a v).snt = s.snt := rfl
@[simp] theorem regSet_pfx (a : Nat) (v : Word) : (regSet s a v).pfx = s.pfx := rfl
@[simp] theorem regSet_tok (a : Nat) (v : Word) : (regSet s a v).tok = s.tok := rfl
@[simp] theorem regSet_rtv (a : Nat) (v : Word) : (regSet s a v).rtv = s.rtv := rfl
@[simp] theorem regSet_vnt (a : Nat) (v : Word) : (regSet s a v).vnt = s.vnt := rfl
@[simp] theorem regSet_hbm (a : Nat) (v : Word) : (regSet s a v).hbm = s.hbm := rfl
@[simp] theorem regSet_fab (a : Nat) (v : Word) : (regSet s a v).fab = s.fab := rfl
@[simp] theorem regSet_tsh (a : Nat) (v : Word) : (regSet s a v).tsh = s.tsh := rfl
@[simp] theorem regSet_lah (a : Nat) (v : Word) : (regSet s a v).lah = s.lah := rfl
@[simp] theorem regSet_pwr (a : Nat) (v : Word) : (regSet s a v).pwr = s.pwr := rfl
@[simp] theorem regSet_obs (a : Nat) (v : Word) : (regSet s a v).obs = s.obs := rfl
@[simp] theorem regSet_nv (a : Nat) (v : Word) : (regSet s a v).nv = s.nv := rfl

@[simp] theorem bumpBy_tick (a n : Nat) : (bumpBy s a n).tick = s.tick := rfl
@[simp] theorem bumpBy_freeCnt (a n : Nat) : (bumpBy s a n).freeCnt = s.freeCnt := rfl
@[simp] theorem bumpBy_led (a n : Nat) : (bumpBy s a n).led = s.led := rfl
@[simp] theorem bumpBy_timers (a n : Nat) : (bumpBy s a n).timers = s.timers := rfl
@[simp] theorem bumpBy_sess (a n : Nat) : (bumpBy s a n).sess = s.sess := rfl
@[simp] theorem bumpBy_pg (a n : Nat) : (bumpBy s a n).pg = s.pg := rfl
@[simp] theorem bumpBy_tier (a n : Nat) : (bumpBy s a n).tier = s.tier := rfl
@[simp] theorem bumpBy_parts (a n : Nat) : (bumpBy s a n).parts = s.parts := rfl
@[simp] theorem bumpBy_reqs (a n : Nat) : (bumpBy s a n).reqs = s.reqs := rfl
@[simp] theorem bumpBy_plan (a n : Nat) : (bumpBy s a n).plan = s.plan := rfl
@[simp] theorem bumpBy_host (a n : Nat) : (bumpBy s a n).host = s.host := rfl
@[simp] theorem bumpBy_mdl (a n : Nat) : (bumpBy s a n).mdl = s.mdl := rfl
@[simp] theorem bumpBy_adp (a n : Nat) : (bumpBy s a n).adp = s.adp := rfl
@[simp] theorem bumpBy_snt (a n : Nat) : (bumpBy s a n).snt = s.snt := rfl
@[simp] theorem bumpBy_pfx (a n : Nat) : (bumpBy s a n).pfx = s.pfx := rfl
@[simp] theorem bumpBy_tok (a n : Nat) : (bumpBy s a n).tok = s.tok := rfl
@[simp] theorem bumpBy_rtv (a n : Nat) : (bumpBy s a n).rtv = s.rtv := rfl
@[simp] theorem bumpBy_vnt (a n : Nat) : (bumpBy s a n).vnt = s.vnt := rfl
@[simp] theorem bumpBy_hbm (a n : Nat) : (bumpBy s a n).hbm = s.hbm := rfl
@[simp] theorem bumpBy_fab (a n : Nat) : (bumpBy s a n).fab = s.fab := rfl
@[simp] theorem bumpBy_tsh (a n : Nat) : (bumpBy s a n).tsh = s.tsh := rfl
@[simp] theorem bumpBy_lah (a n : Nat) : (bumpBy s a n).lah = s.lah := rfl
@[simp] theorem bumpBy_pwr (a n : Nat) : (bumpBy s a n).pwr = s.pwr := rfl
@[simp] theorem bumpBy_obs (a n : Nat) : (bumpBy s a n).obs = s.obs := rfl
@[simp] theorem bumpBy_nv (a n : Nat) : (bumpBy s a n).nv = s.nv := rfl

@[simp] theorem bump_tick (a : Nat) : (bump s a).tick = s.tick := rfl
@[simp] theorem bump_freeCnt (a : Nat) : (bump s a).freeCnt = s.freeCnt := rfl
@[simp] theorem bump_led (a : Nat) : (bump s a).led = s.led := rfl
@[simp] theorem bump_timers (a : Nat) : (bump s a).timers = s.timers := rfl
@[simp] theorem bump_sess (a : Nat) : (bump s a).sess = s.sess := rfl
@[simp] theorem bump_pg (a : Nat) : (bump s a).pg = s.pg := rfl
@[simp] theorem bump_tier (a : Nat) : (bump s a).tier = s.tier := rfl
@[simp] theorem bump_parts (a : Nat) : (bump s a).parts = s.parts := rfl
@[simp] theorem bump_reqs (a : Nat) : (bump s a).reqs = s.reqs := rfl
@[simp] theorem bump_plan (a : Nat) : (bump s a).plan = s.plan := rfl
@[simp] theorem bump_host (a : Nat) : (bump s a).host = s.host := rfl
@[simp] theorem bump_mdl (a : Nat) : (bump s a).mdl = s.mdl := rfl
@[simp] theorem bump_adp (a : Nat) : (bump s a).adp = s.adp := rfl
@[simp] theorem bump_snt (a : Nat) : (bump s a).snt = s.snt := rfl
@[simp] theorem bump_pfx (a : Nat) : (bump s a).pfx = s.pfx := rfl
@[simp] theorem bump_tok (a : Nat) : (bump s a).tok = s.tok := rfl
@[simp] theorem bump_rtv (a : Nat) : (bump s a).rtv = s.rtv := rfl
@[simp] theorem bump_vnt (a : Nat) : (bump s a).vnt = s.vnt := rfl
@[simp] theorem bump_hbm (a : Nat) : (bump s a).hbm = s.hbm := rfl
@[simp] theorem bump_fab (a : Nat) : (bump s a).fab = s.fab := rfl
@[simp] theorem bump_tsh (a : Nat) : (bump s a).tsh = s.tsh := rfl
@[simp] theorem bump_lah (a : Nat) : (bump s a).lah = s.lah := rfl
@[simp] theorem bump_pwr (a : Nat) : (bump s a).pwr = s.pwr := rfl
@[simp] theorem bump_obs (a : Nat) : (bump s a).obs = s.obs := rfl
@[simp] theorem bump_nv (a : Nat) : (bump s a).nv = s.nv := rfl

@[simp] theorem freeNext_tick : (freeNext s).tick = s.tick := rfl
@[simp] theorem freeNext_led : (freeNext s).led = s.led := rfl
@[simp] theorem freeNext_timers : (freeNext s).timers = s.timers := rfl
@[simp] theorem freeNext_sess : (freeNext s).sess = s.sess := rfl
@[simp] theorem freeNext_pg : (freeNext s).pg = s.pg := rfl
@[simp] theorem freeNext_tier : (freeNext s).tier = s.tier := rfl
@[simp] theorem freeNext_parts : (freeNext s).parts = s.parts := rfl
@[simp] theorem freeNext_reqs : (freeNext s).reqs = s.reqs := rfl
@[simp] theorem freeNext_plan : (freeNext s).plan = s.plan := rfl
@[simp] theorem freeNext_host : (freeNext s).host = s.host := rfl
@[simp] theorem freeNext_mdl : (freeNext s).mdl = s.mdl := rfl
@[simp] theorem freeNext_adp : (freeNext s).adp = s.adp := rfl
@[simp] theorem freeNext_snt : (freeNext s).snt = s.snt := rfl
@[simp] theorem freeNext_pfx : (freeNext s).pfx = s.pfx := rfl
@[simp] theorem freeNext_tok : (freeNext s).tok = s.tok := rfl
@[simp] theorem freeNext_rtv : (freeNext s).rtv = s.rtv := rfl
@[simp] theorem freeNext_vnt : (freeNext s).vnt = s.vnt := rfl
@[simp] theorem freeNext_hbm : (freeNext s).hbm = s.hbm := rfl
@[simp] theorem freeNext_fab : (freeNext s).fab = s.fab := rfl
@[simp] theorem freeNext_tsh : (freeNext s).tsh = s.tsh := rfl
@[simp] theorem freeNext_lah : (freeNext s).lah = s.lah := rfl
@[simp] theorem freeNext_pwr : (freeNext s).pwr = s.pwr := rfl
@[simp] theorem freeNext_obs : (freeNext s).obs = s.obs := rfl
@[simp] theorem freeNext_reg : (freeNext s).reg = s.reg := rfl
@[simp] theorem freeNext_nv : (freeNext s).nv = s.nv := rfl

@[simp] theorem modPart_tick (p : Nat) (f : Part → Part) : (modPart s p f).tick = s.tick := rfl
@[simp] theorem modPart_freeCnt (p : Nat) (f : Part → Part) : (modPart s p f).freeCnt = s.freeCnt := rfl
@[simp] theorem modPart_led (p : Nat) (f : Part → Part) : (modPart s p f).led = s.led := rfl
@[simp] theorem modPart_timers (p : Nat) (f : Part → Part) : (modPart s p f).timers = s.timers := rfl
@[simp] theorem modPart_sess (p : Nat) (f : Part → Part) : (modPart s p f).sess = s.sess := rfl
@[simp] theorem modPart_pg (p : Nat) (f : Part → Part) : (modPart s p f).pg = s.pg := rfl
@[simp] theorem modPart_tier (p : Nat) (f : Part → Part) : (modPart s p f).tier = s.tier := rfl
@[simp] theorem modPart_reqs (p : Nat) (f : Part → Part) : (modPart s p f).reqs = s.reqs := rfl
@[simp] theorem modPart_plan (p : Nat) (f : Part → Part) : (modPart s p f).plan = s.plan := rfl
@[simp] theorem modPart_host (p : Nat) (f : Part → Part) : (modPart s p f).host = s.host := rfl
@[simp] theorem modPart_mdl (p : Nat) (f : Part → Part) : (modPart s p f).mdl = s.mdl := rfl
@[simp] theorem modPart_adp (p : Nat) (f : Part → Part) : (modPart s p f).adp = s.adp := rfl
@[simp] theorem modPart_snt (p : Nat) (f : Part → Part) : (modPart s p f).snt = s.snt := rfl
@[simp] theorem modPart_pfx (p : Nat) (f : Part → Part) : (modPart s p f).pfx = s.pfx := rfl
@[simp] theorem modPart_tok (p : Nat) (f : Part → Part) : (modPart s p f).tok = s.tok := rfl
@[simp] theorem modPart_rtv (p : Nat) (f : Part → Part) : (modPart s p f).rtv = s.rtv := rfl
@[simp] theorem modPart_vnt (p : Nat) (f : Part → Part) : (modPart s p f).vnt = s.vnt := rfl
@[simp] theorem modPart_hbm (p : Nat) (f : Part → Part) : (modPart s p f).hbm = s.hbm := rfl
@[simp] theorem modPart_fab (p : Nat) (f : Part → Part) : (modPart s p f).fab = s.fab := rfl
@[simp] theorem modPart_tsh (p : Nat) (f : Part → Part) : (modPart s p f).tsh = s.tsh := rfl
@[simp] theorem modPart_lah (p : Nat) (f : Part → Part) : (modPart s p f).lah = s.lah := rfl
@[simp] theorem modPart_pwr (p : Nat) (f : Part → Part) : (modPart s p f).pwr = s.pwr := rfl
@[simp] theorem modPart_obs (p : Nat) (f : Part → Part) : (modPart s p f).obs = s.obs := rfl
@[simp] theorem modPart_reg (p : Nat) (f : Part → Part) : (modPart s p f).reg = s.reg := rfl
@[simp] theorem modPart_nv (p : Nat) (f : Part → Part) : (modPart s p f).nv = s.nv := rfl

@[simp] theorem modPort_tick (n : Nat) (f : Port → Port) : (modPort s n f).tick = s.tick := rfl
@[simp] theorem modPort_freeCnt (n : Nat) (f : Port → Port) : (modPort s n f).freeCnt = s.freeCnt := rfl
@[simp] theorem modPort_led (n : Nat) (f : Port → Port) : (modPort s n f).led = s.led := rfl
@[simp] theorem modPort_timers (n : Nat) (f : Port → Port) : (modPort s n f).timers = s.timers := rfl
@[simp] theorem modPort_sess (n : Nat) (f : Port → Port) : (modPort s n f).sess = s.sess := rfl
@[simp] theorem modPort_pg (n : Nat) (f : Port → Port) : (modPort s n f).pg = s.pg := rfl
@[simp] theorem modPort_tier (n : Nat) (f : Port → Port) : (modPort s n f).tier = s.tier := rfl
@[simp] theorem modPort_parts (n : Nat) (f : Port → Port) : (modPort s n f).parts = s.parts := rfl
@[simp] theorem modPort_reqs (n : Nat) (f : Port → Port) : (modPort s n f).reqs = s.reqs := rfl
@[simp] theorem modPort_plan (n : Nat) (f : Port → Port) : (modPort s n f).plan = s.plan := rfl
@[simp] theorem modPort_host (n : Nat) (f : Port → Port) : (modPort s n f).host = s.host := rfl
@[simp] theorem modPort_mdl (n : Nat) (f : Port → Port) : (modPort s n f).mdl = s.mdl := rfl
@[simp] theorem modPort_adp (n : Nat) (f : Port → Port) : (modPort s n f).adp = s.adp := rfl
@[simp] theorem modPort_snt (n : Nat) (f : Port → Port) : (modPort s n f).snt = s.snt := rfl
@[simp] theorem modPort_pfx (n : Nat) (f : Port → Port) : (modPort s n f).pfx = s.pfx := rfl
@[simp] theorem modPort_tok (n : Nat) (f : Port → Port) : (modPort s n f).tok = s.tok := rfl
@[simp] theorem modPort_rtv (n : Nat) (f : Port → Port) : (modPort s n f).rtv = s.rtv := rfl
@[simp] theorem modPort_vnt (n : Nat) (f : Port → Port) : (modPort s n f).vnt = s.vnt := rfl
@[simp] theorem modPort_hbm (n : Nat) (f : Port → Port) : (modPort s n f).hbm = s.hbm := rfl
@[simp] theorem modPort_tsh (n : Nat) (f : Port → Port) : (modPort s n f).tsh = s.tsh := rfl
@[simp] theorem modPort_lah (n : Nat) (f : Port → Port) : (modPort s n f).lah = s.lah := rfl
@[simp] theorem modPort_pwr (n : Nat) (f : Port → Port) : (modPort s n f).pwr = s.pwr := rfl
@[simp] theorem modPort_obs (n : Nat) (f : Port → Port) : (modPort s n f).obs = s.obs := rfl
@[simp] theorem modPort_reg (n : Nat) (f : Port → Port) : (modPort s n f).reg = s.reg := rfl
@[simp] theorem modPort_nv (n : Nat) (f : Port → Port) : (modPort s n f).nv = s.nv := rfl

@[simp] theorem setPc_tick (n : Nat) (x : Pc) : (setPc s n x).tick = s.tick := rfl
@[simp] theorem setPc_freeCnt (n : Nat) (x : Pc) : (setPc s n x).freeCnt = s.freeCnt := rfl
@[simp] theorem setPc_led (n : Nat) (x : Pc) : (setPc s n x).led = s.led := rfl
@[simp] theorem setPc_timers (n : Nat) (x : Pc) : (setPc s n x).timers = s.timers := rfl
@[simp] theorem setPc_sess (n : Nat) (x : Pc) : (setPc s n x).sess = s.sess := rfl
@[simp] theorem setPc_pg (n : Nat) (x : Pc) : (setPc s n x).pg = s.pg := rfl
@[simp] theorem setPc_tier (n : Nat) (x : Pc) : (setPc s n x).tier = s.tier := rfl
@[simp] theorem setPc_parts (n : Nat) (x : Pc) : (setPc s n x).parts = s.parts := rfl
@[simp] theorem setPc_reqs (n : Nat) (x : Pc) : (setPc s n x).reqs = s.reqs := rfl
@[simp] theorem setPc_plan (n : Nat) (x : Pc) : (setPc s n x).plan = s.plan := rfl
@[simp] theorem setPc_host (n : Nat) (x : Pc) : (setPc s n x).host = s.host := rfl
@[simp] theorem setPc_mdl (n : Nat) (x : Pc) : (setPc s n x).mdl = s.mdl := rfl
@[simp] theorem setPc_adp (n : Nat) (x : Pc) : (setPc s n x).adp = s.adp := rfl
@[simp] theorem setPc_snt (n : Nat) (x : Pc) : (setPc s n x).snt = s.snt := rfl
@[simp] theorem setPc_pfx (n : Nat) (x : Pc) : (setPc s n x).pfx = s.pfx := rfl
@[simp] theorem setPc_tok (n : Nat) (x : Pc) : (setPc s n x).tok = s.tok := rfl
@[simp] theorem setPc_rtv (n : Nat) (x : Pc) : (setPc s n x).rtv = s.rtv := rfl
@[simp] theorem setPc_vnt (n : Nat) (x : Pc) : (setPc s n x).vnt = s.vnt := rfl
@[simp] theorem setPc_fab (n : Nat) (x : Pc) : (setPc s n x).fab = s.fab := rfl
@[simp] theorem setPc_tsh (n : Nat) (x : Pc) : (setPc s n x).tsh = s.tsh := rfl
@[simp] theorem setPc_lah (n : Nat) (x : Pc) : (setPc s n x).lah = s.lah := rfl
@[simp] theorem setPc_pwr (n : Nat) (x : Pc) : (setPc s n x).pwr = s.pwr := rfl
@[simp] theorem setPc_obs (n : Nat) (x : Pc) : (setPc s n x).obs = s.obs := rfl
@[simp] theorem setPc_reg (n : Nat) (x : Pc) : (setPc s n x).reg = s.reg := rfl
@[simp] theorem setPc_nv (n : Nat) (x : Pc) : (setPc s n x).nv = s.nv := rfl

@[simp] theorem finish_tick (h : CmdHdr) : (finish s h).tick = s.tick := rfl
@[simp] theorem finish_freeCnt (h : CmdHdr) : (finish s h).freeCnt = s.freeCnt := rfl
@[simp] theorem finish_led (h : CmdHdr) : (finish s h).led = s.led := rfl
@[simp] theorem finish_timers (h : CmdHdr) : (finish s h).timers = s.timers := rfl
@[simp] theorem finish_sess (h : CmdHdr) : (finish s h).sess = s.sess := rfl
@[simp] theorem finish_pg (h : CmdHdr) : (finish s h).pg = s.pg := rfl
@[simp] theorem finish_tier (h : CmdHdr) : (finish s h).tier = s.tier := rfl
@[simp] theorem finish_parts (h : CmdHdr) : (finish s h).parts = s.parts := rfl
@[simp] theorem finish_reqs (h : CmdHdr) : (finish s h).reqs = s.reqs := rfl
@[simp] theorem finish_plan (h : CmdHdr) : (finish s h).plan = s.plan := rfl
@[simp] theorem finish_mdl (h : CmdHdr) : (finish s h).mdl = s.mdl := rfl
@[simp] theorem finish_adp (h : CmdHdr) : (finish s h).adp = s.adp := rfl
@[simp] theorem finish_snt (h : CmdHdr) : (finish s h).snt = s.snt := rfl
@[simp] theorem finish_pfx (h : CmdHdr) : (finish s h).pfx = s.pfx := rfl
@[simp] theorem finish_tok (h : CmdHdr) : (finish s h).tok = s.tok := rfl
@[simp] theorem finish_rtv (h : CmdHdr) : (finish s h).rtv = s.rtv := rfl
@[simp] theorem finish_vnt (h : CmdHdr) : (finish s h).vnt = s.vnt := rfl
@[simp] theorem finish_hbm (h : CmdHdr) : (finish s h).hbm = s.hbm := rfl
@[simp] theorem finish_fab (h : CmdHdr) : (finish s h).fab = s.fab := rfl
@[simp] theorem finish_tsh (h : CmdHdr) : (finish s h).tsh = s.tsh := rfl
@[simp] theorem finish_lah (h : CmdHdr) : (finish s h).lah = s.lah := rfl
@[simp] theorem finish_pwr (h : CmdHdr) : (finish s h).pwr = s.pwr := rfl
@[simp] theorem finish_obs (h : CmdHdr) : (finish s h).obs = s.obs := rfl
@[simp] theorem finish_reg (h : CmdHdr) : (finish s h).reg = s.reg := rfl
@[simp] theorem finish_nv (h : CmdHdr) : (finish s h).nv = s.nv := rfl

/-! ## What an update changes, read back -/

theorem sess_setSess (i j : Nat) (e : SessEnt) : sess (setSess s i e) j = if j = i then e else sess s j := by
  have : (setSess s i e).sess = tset s.sess i e := noteObj_sess _ _
  simp only [sess, this, tgetD_tset]

@[simp] theorem sess_setSess_self (i : Nat) (e : SessEnt) : sess (setSess s i e) i = e := by simp [sess_setSess]

theorem sess_modSess (i j : Nat) (f : SessEnt → SessEnt) :
    sess (modSess s i f) j = if j = i then f (sess s i) else sess s j := sess_setSess s i j _

@[simp] theorem sess_modSess_self (i : Nat) (f : SessEnt → SessEnt) : sess (modSess s i f) i = f (sess s i) := by
  simp [sess_modSess]

theorem regGet_regSet (a b : Nat) (v : Word) : regGet (regSet s a v) b = if b = a then v else regGet s b := by
  simp only [regGet, regSet, tgetD_tset]

@[simp] theorem regGet_regSet_self (a : Nat) (v : Word) : regGet (regSet s a v) a = v := by simp [regGet_regSet]

theorem part_modPart (p q : Nat) (f : Part → Part) :
    part (modPart s p f) q = if q = p then f (part s p) else part s q := by
  simp only [part, modPart, tgetD_tset]

@[simp] theorem part_modPart_self (p : Nat) (f : Part → Part) : part (modPart s p f) p = f (part s p) := by
  simp [part_modPart]

end Sys2Proof.Machine
end

