-- ==== Sys2Proof/Laws/Ops.lean ====
section
/-!
SUPPORT. Sys2Proof/Laws/Ops.lean: one lemma for each shared operation that says what it does when its checks pass, and the
fields of the device that it leaves.
-/

namespace Sys2Proof.Machine

/-! ## Rows -/

theorem run_running {s : State} (f : Dev → Dev) (h : s.pins.running = true) : run s f = did s (f s.dev) := by
  simp [run, did, h]

theorem run_stopped {s : State} (f : Dev → Dev) (h : s.pins.running = false) : run s f = .next s := by simp [run, h]

theorem serve_serving {s : State} (f : Dev → Dev) (h : Serving s) : serve s f = did s (f s.dev) := by
  simp [serve, run, did, h.1, h.2]

/-! ## The checks of a command -/

theorem onChannel_ok {d : Dev} {h : CmdHdr} (op : Nat) {priv : Bool} (k : Dev → Dev) (hp : (priv && h.part != 0) = false)
    (hf : fencedFor d h = false) : onChannel d h op priv k = k d := by simp [onChannel, hp, hf]

theorem fencedFor_operator {d : Dev} {h : CmdHdr} (hp : h.part = 0) (hf : fenced d 0 = false) : fencedFor d h = false := by
  simp [fencedFor, afterReset, hp, hf]

theorem onChannel_operator {s : State} {h : CmdHdr} (hb : ByOperator s h) (op : Nat) (priv : Bool) (k : Dev → Dev) :
    onChannel s.dev h op priv k = k s.dev := onChannel_ok _ _ (by simp [hb.2.1]) (fencedFor_operator hb.2.1 hb.2.2)

theorem onChannel_issued {s : State} {h : CmdHdr} (hi : Issued s h) (op : Nat) (k : Dev → Dev) :
    onChannel s.dev h op false k = k s.dev := onChannel_ok _ _ rfl hi.2

theorem background_ok {d : Dev} (a limit : Nat) (waits : Bool) (f : Dev → Dev) (h1 : d.pwr.st < limit)
    (h2 : d.pwr.fumarole = false) (h3 : bgSlot d a = true) : background a limit waits f d = noteBg a (f d) := by
  simp [background, h2, h3, Nat.not_le.2 h1]

theorem checked_ok {d : Dev} (h : CmdHdr) (op : Nat) {cs : List (Bool × Nat)} (k : Dev → Dev) (hc : firstFail cs = none) :
    checked d h op cs k = k d := by simp [checked, hc]

theorem firstFail_append (l m : List (Bool × Nat)) : firstFail (l ++ m) = (firstFail l).or (firstFail m) := by
  induction l with
  | nil => rfl
  | cons a r ih => obtain ⟨c, x⟩ := a; simp only [List.cons_append, firstFail, ih]; split <;> simp

theorem withSess_ok {d : Dev} {h : CmdHdr} (op det : Nat) {handle i : Nat} (k : Dev → Nat → SessEnt → Dev)
    (hl : liveOn d h.part handle = some i) : withSess d h op handle det k = k (touched d i) i (sess d i) := by
  simp [withSess, hl, touched]

theorem ctrlThere_ready {d : Dev} {i : Nat} (fail : Dev → Nat → Dev) (k : Dev → Dev) (h : CtrlReady d i) :
    ctrlThere d i fail k = k d := by
  obtain ⟨h1, h2, h3, h4⟩ := h
  unfold ctrlThere
  dsimp only
  split <;> first | contradiction | (rw [h4])

theorem ctrlWritten_ok {d d1 : Dev} {i : Nat} (fail : Dev → Nat → Dev) (k : Dev → Dev) (h : CtrlWritable d i d1) :
    ctrlWritten d i fail k = k d1 := by simp [ctrlWritten, ctrlThere_ready _ _ h.1, h.2]

theorem withCtrl_ready {d : Dev} {i : Nat} (h : CmdHdr) (op : Nat) (k : Dev → Dev) (hc : CtrlReady d i) :
    withCtrl d h op i k = k d := ctrlThere_ready _ _ hc

theorem writeCtrl_ok {d d1 : Dev} {i : Nat} (h : CmdHdr) (op : Nat) (k : Dev → Dev) (hc : CtrlWritable d i d1) :
    writeCtrl d h op i k = k d1 := ctrlWritten_ok _ _ hc

theorem accept_ok {d : Dev} {p type role : Nat} {m : FabMsg} (big k : Dev → Dev) (h : Accepted d p m type role) :
    accept d p m type role big k = k (noteSeen d m.src m.type m.tag) := by
  obtain ⟨h1, h2, h3, h4, h5, h6, h7⟩ := h
  unfold accept
  rw [if_neg (by rintro (h | ⟨h, h'⟩); exacts [h h1, by rcases h2 with h2 | h2 <;> [simp [h2] at h; omega]]), h3]
  simp [h4, h5, Nat.not_lt.2 h6]
  rw [h4] at h7; simp [h7]

theorem lahArrive_ok {d : Dev} {p type : Nat} {m : LahMsg} (k : Dev → Dev) (h : LahAccepted d p m type) :
    lahArrive d p m type k = k (noteSeen d m.src m.type m.tag) := by
  obtain ⟨h1, h2, h3⟩ := h
  unfold lahArrive
  rw [accept_ok _ _ h1]
  have : (part (noteSeen d m.src m.type m.tag) m.part).replKeys.isEmpty = false := by
    show (part d m.part).replKeys.isEmpty = false
    simpa using h3
  simp [lahHeader, h2, this]

/-! ## The Event Ledger -/

@[simp] theorem noteInput_led (d : Dev) (n : Nat) : (noteInput d n).led = d.led := by
  unfold noteInput wake; dsimp only; split_ifs <;> rfl

@[simp] theorem captureRec_next (d : Dev) (r : LedRec) : (captureRec d r).led.next = d.led.next := by
  unfold captureRec; split_ifs <;> rfl

/-- Every event takes the next ledger number. -/
theorem stampAt_next (d : Dev) (a b c e f g : Nat) : (stampAt d a b c e f g).led.next = (d.led.next + 1) % 2 ^ 48 := by
  simp [stampAt]

theorem stamp_next (d : Dev) (a b c e f : Nat) : (stamp d a b c e f).led.next = (d.led.next + 1) % 2 ^ 48 := by
  simp [stamp, stampAt_next]

/-! ## The fields that a message, a reply and a log entry leave -/

@[simp] theorem chooseHead_tick (d : Dev) (q : Nat) : (chooseHead d q).tick = d.tick := by unfold chooseHead; split <;> rfl
@[simp] theorem chooseHead_freeCnt (d : Dev) (q : Nat) : (chooseHead d q).freeCnt = d.freeCnt := by unfold chooseHead; split <;> rfl
@[simp] theorem chooseHead_led (d : Dev) (q : Nat) : (chooseHead d q).led = d.led := by unfold chooseHead; split <;> rfl
@[simp] theorem chooseHead_timers (d : Dev) (q : Nat) : (chooseHead d q).timers = d.timers := by unfold chooseHead; split <;> rfl
@[simp] theorem chooseHead_sess (d : Dev) (q : Nat) : (chooseHead d q).sess = d.sess := by unfold chooseHead; split <;> rfl
@[simp] theorem chooseHead_pg (d : Dev) (q : Nat) : (chooseHead d q).pg = d.pg := by unfold chooseHead; split <;> rfl
@[simp] theorem chooseHead_tier (d : Dev) (q : Nat) : (chooseHead d q).tier = d.tier := by unfold chooseHead; split <;> rfl
@[simp] theorem chooseHead_parts (d : Dev) (q : Nat) : (chooseHead d q).parts = d.parts := by unfold chooseHead; split <;> rfl
@[simp] theorem chooseHead_reqs (d : Dev) (q : Nat) : (chooseHead d q).reqs = d.reqs := by unfold chooseHead; split <;> rfl
@[simp] theorem chooseHead_plan (d : Dev) (q : Nat) : (chooseHead d q).plan = d.plan := by unfold chooseHead; split <;> rfl
@[simp] theorem chooseHead_host (d : Dev) (q : Nat) : (chooseHead d q).host = d.host := by unfold chooseHead; split <;> rfl
@[simp] theorem chooseHead_mdl (d : Dev) (q : Nat) : (chooseHead d q).mdl = d.mdl := by unfold chooseHead; split <;> rfl
@[simp] theorem chooseHead_adp (d : Dev) (q : Nat) : (chooseHead d q).adp = d.adp := by unfold chooseHead; split <;> rfl
@[simp] theorem chooseHead_snt (d : Dev) (q : Nat) : (chooseHead d q).snt = d.snt := by unfold chooseHead; split <;> rfl
@[simp] theorem chooseHead_pfx (d : Dev) (q : Nat) : (chooseHead d q).pfx = d.pfx := by unfold chooseHead; split <;> rfl
@[simp] theorem chooseHead_tok (d : Dev) (q : Nat) : (chooseHead d q).tok = d.tok := by unfold chooseHead; split <;> rfl
@[simp] theorem chooseHead_rtv (d : Dev) (q : Nat) : (chooseHead d q).rtv = d.rtv := by unfold chooseHead; split <;> rfl
@[simp] theorem chooseHead_vnt (d : Dev) (q : Nat) : (chooseHead d q).vnt = d.vnt := by unfold chooseHead; split <;> rfl
@[simp] theorem chooseHead_hbm (d : Dev) (q : Nat) : (chooseHead d q).hbm = d.hbm := by unfold chooseHead; split <;> rfl
@[simp] theorem chooseHead_fab (d : Dev) (q : Nat) : (chooseHead d q).fab = d.fab := by unfold chooseHead; split <;> rfl
@[simp] theorem chooseHead_lah (d : Dev) (q : Nat) : (chooseHead d q).lah = d.lah := by unfold chooseHead; split <;> rfl
@[simp] theorem chooseHead_pwr (d : Dev) (q : Nat) : (chooseHead d q).pwr = d.pwr := by unfold chooseHead; split <;> rfl
@[simp] theorem chooseHead_obs (d : Dev) (q : Nat) : (chooseHead d q).obs = d.obs := by unfold chooseHead; split <;> rfl
@[simp] theorem chooseHead_reg (d : Dev) (q : Nat) : (chooseHead d q).reg = d.reg := by unfold chooseHead; split <;> rfl
@[simp] theorem chooseHead_nv (d : Dev) (q : Nat) : (chooseHead d q).nv = d.nv := by unfold chooseHead; split <;> rfl

@[simp] theorem enterQueue_tick (d : Dev) (q t : Nat) : (enterQueue d q t).tick = d.tick := by
  unfold enterQueue; dsimp only; split <;> first | exact chooseHead_tick d q | (split_ifs <;> exact chooseHead_tick d q)
@[simp] theorem enterQueue_freeCnt (d : Dev) (q t : Nat) : (enterQueue d q t).freeCnt = d.freeCnt := by
  unfold enterQueue; dsimp only; split <;> first | exact chooseHead_freeCnt d q | (split_ifs <;> exact chooseHead_freeCnt d q)
@[simp] theorem enterQueue_led (d : Dev) (q t : Nat) : (enterQueue d q t).led = d.led := by
  unfold enterQueue; dsimp only; split <;> first | exact chooseHead_led d q | (split_ifs <;> exact chooseHead_led d q)
@[simp] theorem enterQueue_timers (d : Dev) (q t : Nat) : (enterQueue d q t).timers = d.timers := by
  unfold enterQueue; dsimp only; split <;> first | exact chooseHead_timers d q | (split_ifs <;> exact chooseHead_timers d q)
@[simp] theorem enterQueue_sess (d : Dev) (q t : Nat) : (enterQueue d q t).sess = d.sess := by
  unfold enterQueue; dsimp only; split <;> first | exact chooseHead_sess d q | (split_ifs <;> exact chooseHead_sess d q)
@[simp] theorem enterQueue_pg (d : Dev) (q t : Nat) : (enterQueue d q t).pg = d.pg := by
  unfold enterQueue; dsimp only; split <;> first | exact chooseHead_pg d q | (split_ifs <;> exact chooseHead_pg d q)
@[simp] theorem enterQueue_tier (d : Dev) (q t : Nat) : (enterQueue d q t).tier = d.tier := by
  unfold enterQueue; dsimp only; split <;> first | exact chooseHead_tier d q | (split_ifs <;> exact chooseHead_tier d q)
@[simp] theorem enterQueue_parts (d : Dev) (q t : Nat) : (enterQueue d q t).parts = d.parts := by
  unfold enterQueue; dsimp only; split <;> first | exact chooseHead_parts d q | (split_ifs <;> exact chooseHead_parts d q)
@[simp] theorem enterQueue_reqs (d : Dev) (q t : Nat) : (enterQueue d q t).reqs = d.reqs := by
  unfold enterQueue; dsimp only; split <;> first | exact chooseHead_reqs d q | (split_ifs <;> exact chooseHead_reqs d q)
@[simp] theorem enterQueue_plan (d : Dev) (q t : Nat) : (enterQueue d q t).plan = d.plan := by
  unfold enterQueue; dsimp only; split <;> first | exact chooseHead_plan d q | (split_ifs <;> exact chooseHead_plan d q)
@[simp] theorem enterQueue_host (d : Dev) (q t : Nat) : (enterQueue d q t).host = d.host := by
  unfold enterQueue; dsimp only; split <;> first | exact chooseHead_host d q | (split_ifs <;> exact chooseHead_host d q)
@[simp] theorem enterQueue_mdl (d : Dev) (q t : Nat) : (enterQueue d q t).mdl = d.mdl := by
  unfold enterQueue; dsimp only; split <;> first | exact chooseHead_mdl d q | (split_ifs <;> exact chooseHead_mdl d q)
@[simp] theorem enterQueue_adp (d : Dev) (q t : Nat) : (enterQueue d q t).adp = d.adp := by
  unfold enterQueue; dsimp only; split <;> first | exact chooseHead_adp d q | (split_ifs <;> exact chooseHead_adp d q)
@[simp] theorem enterQueue_snt (d : Dev) (q t : Nat) : (enterQueue d q t).snt = d.snt := by
  unfold enterQueue; dsimp only; split <;> first | exact chooseHead_snt d q | (split_ifs <;> exact chooseHead_snt d q)
@[simp] theorem enterQueue_pfx (d : Dev) (q t : Nat) : (enterQueue d q t).pfx = d.pfx := by
  unfold enterQueue; dsimp only; split <;> first | exact chooseHead_pfx d q | (split_ifs <;> exact chooseHead_pfx d q)
@[simp] theorem enterQueue_tok (d : Dev) (q t : Nat) : (enterQueue d q t).tok = d.tok := by
  unfold enterQueue; dsimp only; split <;> first | exact chooseHead_tok d q | (split_ifs <;> exact chooseHead_tok d q)
@[simp] theorem enterQueue_rtv (d : Dev) (q t : Nat) : (enterQueue d q t).rtv = d.rtv := by
  unfold enterQueue; dsimp only; split <;> first | exact chooseHead_rtv d q | (split_ifs <;> exact chooseHead_rtv d q)
@[simp] theorem enterQueue_vnt (d : Dev) (q t : Nat) : (enterQueue d q t).vnt = d.vnt := by
  unfold enterQueue; dsimp only; split <;> first | exact chooseHead_vnt d q | (split_ifs <;> exact chooseHead_vnt d q)
@[simp] theorem enterQueue_hbm (d : Dev) (q t : Nat) : (enterQueue d q t).hbm = d.hbm := by
  unfold enterQueue; dsimp only; split <;> first | exact chooseHead_hbm d q | (split_ifs <;> exact chooseHead_hbm d q)
@[simp] theorem enterQueue_fab (d : Dev) (q t : Nat) : (enterQueue d q t).fab = d.fab := by
  unfold enterQueue; dsimp only; split <;> first | exact chooseHead_fab d q | (split_ifs <;> exact chooseHead_fab d q)
@[simp] theorem enterQueue_lah (d : Dev) (q t : Nat) : (enterQueue d q t).lah = d.lah := by
  unfold enterQueue; dsimp only; split <;> first | exact chooseHead_lah d q | (split_ifs <;> exact chooseHead_lah d q)
@[simp] theorem enterQueue_pwr (d : Dev) (q t : Nat) : (enterQueue d q t).pwr = d.pwr := by
  unfold enterQueue; dsimp only; split <;> first | exact chooseHead_pwr d q | (split_ifs <;> exact chooseHead_pwr d q)
@[simp] theorem enterQueue_obs (d : Dev) (q t : Nat) : (enterQueue d q t).obs = d.obs := by
  unfold enterQueue; dsimp only; split <;> first | exact chooseHead_obs d q | (split_ifs <;> exact chooseHead_obs d q)
@[simp] theorem enterQueue_reg (d : Dev) (q t : Nat) : (enterQueue d q t).reg = d.reg := by
  unfold enterQueue; dsimp only; split <;> first | exact chooseHead_reg d q | (split_ifs <;> exact chooseHead_reg d q)
@[simp] theorem enterQueue_nv (d : Dev) (q t : Nat) : (enterQueue d q t).nv = d.nv := by
  unfold enterQueue; dsimp only; split <;> first | exact chooseHead_nv d q | (split_ifs <;> exact chooseHead_nv d q)

@[simp] theorem noteDepth_tick (d : Dev) (q : Nat) : (noteDepth d q).tick = d.tick := by unfold noteDepth; split_ifs <;> rfl
@[simp] theorem noteDepth_freeCnt (d : Dev) (q : Nat) : (noteDepth d q).freeCnt = d.freeCnt := by unfold noteDepth; split_ifs <;> rfl
@[simp] theorem noteDepth_led (d : Dev) (q : Nat) : (noteDepth d q).led = d.led := by unfold noteDepth; split_ifs <;> rfl
@[simp] theorem noteDepth_timers (d : Dev) (q : Nat) : (noteDepth d q).timers = d.timers := by unfold noteDepth; split_ifs <;> rfl
@[simp] theorem noteDepth_sess (d : Dev) (q : Nat) : (noteDepth d q).sess = d.sess := by unfold noteDepth; split_ifs <;> rfl
@[simp] theorem noteDepth_pg (d : Dev) (q : Nat) : (noteDepth d q).pg = d.pg := by unfold noteDepth; split_ifs <;> rfl
@[simp] theorem noteDepth_tier (d : Dev) (q : Nat) : (noteDepth d q).tier = d.tier := by unfold noteDepth; split_ifs <;> rfl
@[simp] theorem noteDepth_parts (d : Dev) (q : Nat) : (noteDepth d q).parts = d.parts := by unfold noteDepth; split_ifs <;> rfl
@[simp] theorem noteDepth_reqs (d : Dev) (q : Nat) : (noteDepth d q).reqs = d.reqs := by unfold noteDepth; split_ifs <;> rfl
@[simp] theorem noteDepth_plan (d : Dev) (q : Nat) : (noteDepth d q).plan = d.plan := by unfold noteDepth; split_ifs <;> rfl
@[simp] theorem noteDepth_host (d : Dev) (q : Nat) : (noteDepth d q).host = d.host := by unfold noteDepth; split_ifs <;> rfl
@[simp] theorem noteDepth_mdl (d : Dev) (q : Nat) : (noteDepth d q).mdl = d.mdl := by unfold noteDepth; split_ifs <;> rfl
@[simp] theorem noteDepth_adp (d : Dev) (q : Nat) : (noteDepth d q).adp = d.adp := by unfold noteDepth; split_ifs <;> rfl
@[simp] theorem noteDepth_snt (d : Dev) (q : Nat) : (noteDepth d q).snt = d.snt := by unfold noteDepth; split_ifs <;> rfl
@[simp] theorem noteDepth_pfx (d : Dev) (q : Nat) : (noteDepth d q).pfx = d.pfx := by unfold noteDepth; split_ifs <;> rfl
@[simp] theorem noteDepth_tok (d : Dev) (q : Nat) : (noteDepth d q).tok = d.tok := by unfold noteDepth; split_ifs <;> rfl
@[simp] theorem noteDepth_rtv (d : Dev) (q : Nat) : (noteDepth d q).rtv = d.rtv := by unfold noteDepth; split_ifs <;> rfl
@[simp] theorem noteDepth_vnt (d : Dev) (q : Nat) : (noteDepth d q).vnt = d.vnt := by unfold noteDepth; split_ifs <;> rfl
@[simp] theorem noteDepth_hbm (d : Dev) (q : Nat) : (noteDepth d q).hbm = d.hbm := by unfold noteDepth; split_ifs <;> rfl
@[simp] theorem noteDepth_fab (d : Dev) (q : Nat) : (noteDepth d q).fab = d.fab := by unfold noteDepth; split_ifs <;> rfl
@[simp] theorem noteDepth_lah (d : Dev) (q : Nat) : (noteDepth d q).lah = d.lah := by unfold noteDepth; split_ifs <;> rfl
@[simp] theorem noteDepth_pwr (d : Dev) (q : Nat) : (noteDepth d q).pwr = d.pwr := by unfold noteDepth; split_ifs <;> rfl
@[simp] theorem noteDepth_obs (d : Dev) (q : Nat) : (noteDepth d q).obs = d.obs := by unfold noteDepth; split_ifs <;> rfl
@[simp] theorem noteDepth_reg (d : Dev) (q : Nat) : (noteDepth d q).reg = d.reg := by unfold noteDepth; split_ifs <;> rfl
@[simp] theorem noteDepth_nv (d : Dev) (q : Nat) : (noteDepth d q).nv = d.nv := by unfold noteDepth; split_ifs <;> rfl

@[simp] theorem pushQueue_tick (d : Dev) (m : Msg) : (pushQueue d m).tick = d.tick := by simp only [pushQueue, noteDepth_tick]; split_ifs <;> simp
@[simp] theorem pushQueue_freeCnt (d : Dev) (m : Msg) : (pushQueue d m).freeCnt = d.freeCnt := by simp only [pushQueue, noteDepth_freeCnt]; split_ifs <;> simp
@[simp] theorem pushQueue_led (d : Dev) (m : Msg) : (pushQueue d m).led = d.led := by simp only [pushQueue, noteDepth_led]; split_ifs <;> simp
@[simp] theorem pushQueue_timers (d : Dev) (m : Msg) : (pushQueue d m).timers = d.timers := by simp only [pushQueue, noteDepth_timers]; split_ifs <;> simp
@[simp] theorem pushQueue_sess (d : Dev) (m : Msg) : (pushQueue d m).sess = d.sess := by simp only [pushQueue, noteDepth_sess]; split_ifs <;> simp
@[simp] theorem pushQueue_pg (d : Dev) (m : Msg) : (pushQueue d m).pg = d.pg := by simp only [pushQueue, noteDepth_pg]; split_ifs <;> simp
@[simp] theorem pushQueue_tier (d : Dev) (m : Msg) : (pushQueue d m).tier = d.tier := by simp only [pushQueue, noteDepth_tier]; split_ifs <;> simp
@[simp] theorem pushQueue_parts (d : Dev) (m : Msg) : (pushQueue d m).parts = d.parts := by simp only [pushQueue, noteDepth_parts]; split_ifs <;> simp
@[simp] theorem pushQueue_reqs (d : Dev) (m : Msg) : (pushQueue d m).reqs = d.reqs := by simp only [pushQueue, noteDepth_reqs]; split_ifs <;> simp
@[simp] theorem pushQueue_plan (d : Dev) (m : Msg) : (pushQueue d m).plan = d.plan := by simp only [pushQueue, noteDepth_plan]; split_ifs <;> simp
@[simp] theorem pushQueue_host (d : Dev) (m : Msg) : (pushQueue d m).host = d.host := by simp only [pushQueue, noteDepth_host]; split_ifs <;> simp
@[simp] theorem pushQueue_mdl (d : Dev) (m : Msg) : (pushQueue d m).mdl = d.mdl := by simp only [pushQueue, noteDepth_mdl]; split_ifs <;> simp
@[simp] theorem pushQueue_adp (d : Dev) (m : Msg) : (pushQueue d m).adp = d.adp := by simp only [pushQueue, noteDepth_adp]; split_ifs <;> simp
@[simp] theorem pushQueue_snt (d : Dev) (m : Msg) : (pushQueue d m).snt = d.snt := by simp only [pushQueue, noteDepth_snt]; split_ifs <;> simp
@[simp] theorem pushQueue_pfx (d : Dev) (m : Msg) : (pushQueue d m).pfx = d.pfx := by simp only [pushQueue, noteDepth_pfx]; split_ifs <;> simp
@[simp] theorem pushQueue_tok (d : Dev) (m : Msg) : (pushQueue d m).tok = d.tok := by simp only [pushQueue, noteDepth_tok]; split_ifs <;> simp
@[simp] theorem pushQueue_rtv (d : Dev) (m : Msg) : (pushQueue d m).rtv = d.rtv := by simp only [pushQueue, noteDepth_rtv]; split_ifs <;> simp
@[simp] theorem pushQueue_vnt (d : Dev) (m : Msg) : (pushQueue d m).vnt = d.vnt := by simp only [pushQueue, noteDepth_vnt]; split_ifs <;> simp
@[simp] theorem pushQueue_hbm (d : Dev) (m : Msg) : (pushQueue d m).hbm = d.hbm := by simp only [pushQueue, noteDepth_hbm]; split_ifs <;> simp
@[simp] theorem pushQueue_fab (d : Dev) (m : Msg) : (pushQueue d m).fab = d.fab := by simp only [pushQueue, noteDepth_fab]; split_ifs <;> simp
@[simp] theorem pushQueue_lah (d : Dev) (m : Msg) : (pushQueue d m).lah = d.lah := by simp only [pushQueue, noteDepth_lah]; split_ifs <;> simp
@[simp] theorem pushQueue_obs (d : Dev) (m : Msg) : (pushQueue d m).obs = d.obs := by simp only [pushQueue, noteDepth_obs]; split_ifs <;> simp
@[simp] theorem pushQueue_reg (d : Dev) (m : Msg) : (pushQueue d m).reg = d.reg := by simp only [pushQueue, noteDepth_reg]; split_ifs <;> simp
@[simp] theorem pushQueue_nv (d : Dev) (m : Msg) : (pushQueue d m).nv = d.nv := by simp only [pushQueue, noteDepth_nv]; split_ifs <;> simp

@[simp] theorem enqueue_tick (d : Dev) (m : Msg) : (enqueue d m).tick = d.tick := by unfold enqueue; split_ifs <;> simp
@[simp] theorem enqueue_freeCnt (d : Dev) (m : Msg) : (enqueue d m).freeCnt = d.freeCnt := by unfold enqueue; split_ifs <;> simp
@[simp] theorem enqueue_led (d : Dev) (m : Msg) : (enqueue d m).led = d.led := by unfold enqueue; split_ifs <;> simp
@[simp] theorem enqueue_timers (d : Dev) (m : Msg) : (enqueue d m).timers = d.timers := by unfold enqueue; split_ifs <;> simp
@[simp] theorem enqueue_sess (d : Dev) (m : Msg) : (enqueue d m).sess = d.sess := by unfold enqueue; split_ifs <;> simp
@[simp] theorem enqueue_pg (d : Dev) (m : Msg) : (enqueue d m).pg = d.pg := by unfold enqueue; split_ifs <;> simp
@[simp] theorem enqueue_tier (d : Dev) (m : Msg) : (enqueue d m).tier = d.tier := by unfold enqueue; split_ifs <;> simp
@[simp] theorem enqueue_parts (d : Dev) (m : Msg) : (enqueue d m).parts = d.parts := by unfold enqueue; split_ifs <;> simp
@[simp] theorem enqueue_reqs (d : Dev) (m : Msg) : (enqueue d m).reqs = d.reqs := by unfold enqueue; split_ifs <;> simp
@[simp] theorem enqueue_plan (d : Dev) (m : Msg) : (enqueue d m).plan = d.plan := by unfold enqueue; split_ifs <;> simp
@[simp] theorem enqueue_host (d : Dev) (m : Msg) : (enqueue d m).host = d.host := by unfold enqueue; split_ifs <;> simp
@[simp] theorem enqueue_mdl (d : Dev) (m : Msg) : (enqueue d m).mdl = d.mdl := by unfold enqueue; split_ifs <;> simp
@[simp] theorem enqueue_adp (d : Dev) (m : Msg) : (enqueue d m).adp = d.adp := by unfold enqueue; split_ifs <;> simp
@[simp] theorem enqueue_snt (d : Dev) (m : Msg) : (enqueue d m).snt = d.snt := by unfold enqueue; split_ifs <;> simp
@[simp] theorem enqueue_pfx (d : Dev) (m : Msg) : (enqueue d m).pfx = d.pfx := by unfold enqueue; split_ifs <;> simp
@[simp] theorem enqueue_tok (d : Dev) (m : Msg) : (enqueue d m).tok = d.tok := by unfold enqueue; split_ifs <;> simp
@[simp] theorem enqueue_rtv (d : Dev) (m : Msg) : (enqueue d m).rtv = d.rtv := by unfold enqueue; split_ifs <;> simp
@[simp] theorem enqueue_vnt (d : Dev) (m : Msg) : (enqueue d m).vnt = d.vnt := by unfold enqueue; split_ifs <;> simp
@[simp] theorem enqueue_hbm (d : Dev) (m : Msg) : (enqueue d m).hbm = d.hbm := by unfold enqueue; split_ifs <;> simp
@[simp] theorem enqueue_fab (d : Dev) (m : Msg) : (enqueue d m).fab = d.fab := by unfold enqueue; split_ifs <;> simp
@[simp] theorem enqueue_lah (d : Dev) (m : Msg) : (enqueue d m).lah = d.lah := by unfold enqueue; split_ifs <;> simp
@[simp] theorem enqueue_obs (d : Dev) (m : Msg) : (enqueue d m).obs = d.obs := by unfold enqueue; split_ifs <;> simp
@[simp] theorem enqueue_nv (d : Dev) (m : Msg) : (enqueue d m).nv = d.nv := by unfold enqueue; split_ifs <;> simp

@[simp] theorem replyBody_tick (d : Dev) (h : CmdHdr) (op st : Nat) (b : List Byte) : (replyBody d h op st b).tick = d.tick := by simp [replyBody]
@[simp] theorem replyBody_freeCnt (d : Dev) (h : CmdHdr) (op st : Nat) (b : List Byte) : (replyBody d h op st b).freeCnt = d.freeCnt := by simp [replyBody]
@[simp] theorem replyBody_led (d : Dev) (h : CmdHdr) (op st : Nat) (b : List Byte) : (replyBody d h op st b).led = d.led := by simp [replyBody]
@[simp] theorem replyBody_timers (d : Dev) (h : CmdHdr) (op st : Nat) (b : List Byte) : (replyBody d h op st b).timers = d.timers := by simp [replyBody]
@[simp] theorem replyBody_sess (d : Dev) (h : CmdHdr) (op st : Nat) (b : List Byte) : (replyBody d h op st b).sess = d.sess := by simp [replyBody]
@[simp] theorem replyBody_pg (d : Dev) (h : CmdHdr) (op st : Nat) (b : List Byte) : (replyBody d h op st b).pg = d.pg := by simp [replyBody]
@[simp] theorem replyBody_tier (d : Dev) (h : CmdHdr) (op st : Nat) (b : List Byte) : (replyBody d h op st b).tier = d.tier := by simp [replyBody]
@[simp] theorem replyBody_parts (d : Dev) (h : CmdHdr) (op st : Nat) (b : List Byte) : (replyBody d h op st b).parts = d.parts := by simp [replyBody]
@[simp] theorem replyBody_reqs (d : Dev) (h : CmdHdr) (op st : Nat) (b : List Byte) : (replyBody d h op st b).reqs = d.reqs := by simp [replyBody]
@[simp] theorem replyBody_plan (d : Dev) (h : CmdHdr) (op st : Nat) (b : List Byte) : (replyBody d h op st b).plan = d.plan := by simp [replyBody]
@[simp] theorem replyBody_mdl (d : Dev) (h : CmdHdr) (op st : Nat) (b : List Byte) : (replyBody d h op st b).mdl = d.mdl := by simp [replyBody]
@[simp] theorem replyBody_adp (d : Dev) (h : CmdHdr) (op st : Nat) (b : List Byte) : (replyBody d h op st b).adp = d.adp := by simp [replyBody]
@[simp] theorem replyBody_snt (d : Dev) (h : CmdHdr) (op st : Nat) (b : List Byte) : (replyBody d h op st b).snt = d.snt := by simp [replyBody]
@[simp] theorem replyBody_pfx (d : Dev) (h : CmdHdr) (op st : Nat) (b : List Byte) : (replyBody d h op st b).pfx = d.pfx := by simp [replyBody]
@[simp] theorem replyBody_tok (d : Dev) (h : CmdHdr) (op st : Nat) (b : List Byte) : (replyBody d h op st b).tok = d.tok := by simp [replyBody]
@[simp] theorem replyBody_rtv (d : Dev) (h : CmdHdr) (op st : Nat) (b : List Byte) : (replyBody d h op st b).rtv = d.rtv := by simp [replyBody]
@[simp] theorem replyBody_vnt (d : Dev) (h : CmdHdr) (op st : Nat) (b : List Byte) : (replyBody d h op st b).vnt = d.vnt := by simp [replyBody]
@[simp] theorem replyBody_hbm (d : Dev) (h : CmdHdr) (op st : Nat) (b : List Byte) : (replyBody d h op st b).hbm = d.hbm := by simp [replyBody]
@[simp] theorem replyBody_fab (d : Dev) (h : CmdHdr) (op st : Nat) (b : List Byte) : (replyBody d h op st b).fab = d.fab := by simp [replyBody]
@[simp] theorem replyBody_lah (d : Dev) (h : CmdHdr) (op st : Nat) (b : List Byte) : (replyBody d h op st b).lah = d.lah := by simp [replyBody]
@[simp] theorem replyBody_obs (d : Dev) (h : CmdHdr) (op st : Nat) (b : List Byte) : (replyBody d h op st b).obs = d.obs := by simp [replyBody]
@[simp] theorem replyBody_nv (d : Dev) (h : CmdHdr) (op st : Nat) (b : List Byte) : (replyBody d h op st b).nv = d.nv := by simp [replyBody]

@[simp] theorem reply_tick (d : Dev) (h : CmdHdr) (op st : Nat) : (reply d h op st).tick = d.tick := by simp [reply]
@[simp] theorem reply_freeCnt (d : Dev) (h : CmdHdr) (op st : Nat) : (reply d h op st).freeCnt = d.freeCnt := by simp [reply]
@[simp] theorem reply_led (d : Dev) (h : CmdHdr) (op st : Nat) : (reply d h op st).led = d.led := by simp [reply]
@[simp] theorem reply_timers (d : Dev) (h : CmdHdr) (op st : Nat) : (reply d h op st).timers = d.timers := by simp [reply]
@[simp] theorem reply_sess (d : Dev) (h : CmdHdr) (op st : Nat) : (reply d h op st).sess = d.sess := by simp [reply]
@[simp] theorem reply_pg (d : Dev) (h : CmdHdr) (op st : Nat) : (reply d h op st).pg = d.pg := by simp [reply]
@[simp] theorem reply_tier (d : Dev) (h : CmdHdr) (op st : Nat) : (reply d h op st).tier = d.tier := by simp [reply]
@[simp] theorem reply_parts (d : Dev) (h : CmdHdr) (op st : Nat) : (reply d h op st).parts = d.parts := by simp [reply]
@[simp] theorem reply_reqs (d : Dev) (h : CmdHdr) (op st : Nat) : (reply d h op st).reqs = d.reqs := by simp [reply]
@[simp] theorem reply_plan (d : Dev) (h : CmdHdr) (op st : Nat) : (reply d h op st).plan = d.plan := by simp [reply]
@[simp] theorem reply_mdl (d : Dev) (h : CmdHdr) (op st : Nat) : (reply d h op st).mdl = d.mdl := by simp [reply]
@[simp] theorem reply_adp (d : Dev) (h : CmdHdr) (op st : Nat) : (reply d h op st).adp = d.adp := by simp [reply]
@[simp] theorem reply_snt (d : Dev) (h : CmdHdr) (op st : Nat) : (reply d h op st).snt = d.snt := by simp [reply]
@[simp] theorem reply_pfx (d : Dev) (h : CmdHdr) (op st : Nat) : (reply d h op st).pfx = d.pfx := by simp [reply]
@[simp] theorem reply_tok (d : Dev) (h : CmdHdr) (op st : Nat) : (reply d h op st).tok = d.tok := by simp [reply]
@[simp] theorem reply_rtv (d : Dev) (h : CmdHdr) (op st : Nat) : (reply d h op st).rtv = d.rtv := by simp [reply]
@[simp] theorem reply_vnt (d : Dev) (h : CmdHdr) (op st : Nat) : (reply d h op st).vnt = d.vnt := by simp [reply]
@[simp] theorem reply_hbm (d : Dev) (h : CmdHdr) (op st : Nat) : (reply d h op st).hbm = d.hbm := by simp [reply]
@[simp] theorem reply_fab (d : Dev) (h : CmdHdr) (op st : Nat) : (reply d h op st).fab = d.fab := by simp [reply]
@[simp] theorem reply_lah (d : Dev) (h : CmdHdr) (op st : Nat) : (reply d h op st).lah = d.lah := by simp [reply]
@[simp] theorem reply_obs (d : Dev) (h : CmdHdr) (op st : Nat) : (reply d h op st).obs = d.obs := by simp [reply]
@[simp] theorem reply_nv (d : Dev) (h : CmdHdr) (op st : Nat) : (reply d h op st).nv = d.nv := by simp [reply]

@[simp] theorem errLog_tick (d : Dev) (st so p q u o : Nat) : (errLog d st so p q u o).tick = d.tick := by simp only [errLog]; split <;> (try split_ifs) <;> rfl
@[simp] theorem errLog_freeCnt (d : Dev) (st so p q u o : Nat) : (errLog d st so p q u o).freeCnt = d.freeCnt := by simp only [errLog]; split <;> (try split_ifs) <;> rfl
@[simp] theorem errLog_led (d : Dev) (st so p q u o : Nat) : (errLog d st so p q u o).led = d.led := by simp only [errLog]; split <;> (try split_ifs) <;> rfl
@[simp] theorem errLog_timers (d : Dev) (st so p q u o : Nat) : (errLog d st so p q u o).timers = d.timers := by simp only [errLog]; split <;> (try split_ifs) <;> rfl
@[simp] theorem errLog_sess (d : Dev) (st so p q u o : Nat) : (errLog d st so p q u o).sess = d.sess := by simp only [errLog]; split <;> (try split_ifs) <;> rfl
@[simp] theorem errLog_pg (d : Dev) (st so p q u o : Nat) : (errLog d st so p q u o).pg = d.pg := by simp only [errLog]; split <;> (try split_ifs) <;> rfl
@[simp] theorem errLog_tier (d : Dev) (st so p q u o : Nat) : (errLog d st so p q u o).tier = d.tier := by simp only [errLog]; split <;> (try split_ifs) <;> rfl
@[simp] theorem errLog_parts (d : Dev) (st so p q u o : Nat) : (errLog d st so p q u o).parts = d.parts := by simp only [errLog]; split <;> (try split_ifs) <;> rfl
@[simp] theorem errLog_reqs (d : Dev) (st so p q u o : Nat) : (errLog d st so p q u o).reqs = d.reqs := by simp only [errLog]; split <;> (try split_ifs) <;> rfl
@[simp] theorem errLog_plan (d : Dev) (st so p q u o : Nat) : (errLog d st so p q u o).plan = d.plan := by simp only [errLog]; split <;> (try split_ifs) <;> rfl
@[simp] theorem errLog_host (d : Dev) (st so p q u o : Nat) : (errLog d st so p q u o).host = d.host := by simp only [errLog]; split <;> (try split_ifs) <;> rfl
@[simp] theorem errLog_mdl (d : Dev) (st so p q u o : Nat) : (errLog d st so p q u o).mdl = d.mdl := by simp only [errLog]; split <;> (try split_ifs) <;> rfl
@[simp] theorem errLog_adp (d : Dev) (st so p q u o : Nat) : (errLog d st so p q u o).adp = d.adp := by simp only [errLog]; split <;> (try split_ifs) <;> rfl
@[simp] theorem errLog_snt (d : Dev) (st so p q u o : Nat) : (errLog d st so p q u o).snt = d.snt := by simp only [errLog]; split <;> (try split_ifs) <;> rfl
@[simp] theorem errLog_pfx (d : Dev) (st so p q u o : Nat) : (errLog d st so p q u o).pfx = d.pfx := by simp only [errLog]; split <;> (try split_ifs) <;> rfl
@[simp] theorem errLog_tok (d : Dev) (st so p q u o : Nat) : (errLog d st so p q u o).tok = d.tok := by simp only [errLog]; split <;> (try split_ifs) <;> rfl
@[simp] theorem errLog_rtv (d : Dev) (st so p q u o : Nat) : (errLog d st so p q u o).rtv = d.rtv := by simp only [errLog]; split <;> (try split_ifs) <;> rfl
@[simp] theorem errLog_vnt (d : Dev) (st so p q u o : Nat) : (errLog d st so p q u o).vnt = d.vnt := by simp only [errLog]; split <;> (try split_ifs) <;> rfl
@[simp] theorem errLog_hbm (d : Dev) (st so p q u o : Nat) : (errLog d st so p q u o).hbm = d.hbm := by simp only [errLog]; split <;> (try split_ifs) <;> rfl
@[simp] theorem errLog_fab (d : Dev) (st so p q u o : Nat) : (errLog d st so p q u o).fab = d.fab := by simp only [errLog]; split <;> (try split_ifs) <;> rfl
@[simp] theorem errLog_tsh (d : Dev) (st so p q u o : Nat) : (errLog d st so p q u o).tsh = d.tsh := by simp only [errLog]; split <;> (try split_ifs) <;> rfl
@[simp] theorem errLog_lah (d : Dev) (st so p q u o : Nat) : (errLog d st so p q u o).lah = d.lah := by simp only [errLog]; split <;> (try split_ifs) <;> rfl
@[simp] theorem errLog_pwr (d : Dev) (st so p q u o : Nat) : (errLog d st so p q u o).pwr = d.pwr := by simp only [errLog]; split <;> (try split_ifs) <;> rfl
@[simp] theorem errLog_obs (d : Dev) (st so p q u o : Nat) : (errLog d st so p q u o).obs = d.obs := by simp only [errLog]; split <;> (try split_ifs) <;> rfl
@[simp] theorem errLog_nv (d : Dev) (st so p q u o : Nat) : (errLog d st so p q u o).nv = d.nv := by simp only [errLog]; split <;> (try split_ifs) <;> rfl

end Sys2Proof.Machine
end

