-- ==== Sys2Proof/WellFormed.lean ====
section
/-!
DEFINITION. Sys2Proof/WellFormed.lean: the widths that the spec gives the operands of a command (R459, R545, R552,
R554, R560 to R573, R382, R580). A term outside them names no command that the device can receive.
-/

namespace Sys2Proof

/-- A number of `n` bits. -/
def fits (n v : Nat) : Bool := decide (v < 2 ^ n)

/-- R544, R552, R78: the widths of a command's header and stamp. -/
def CmdHdr.wf (h : CmdHdr) : Bool := fits 10 h.chan && fits 8 h.part && fits 32 h.tag && fits 48 h.seq && fits 64 h.tick

/-- R562: the widths of SESSION_SET_SAMPLING. -/
def Sampling.wf (p : Sampling) : Bool :=
  fits 8 p.cls && fits 8 p.newGen && fits 8 p.streamOpt && fits 8 p.penScope && fits 16 p.topK && fits 16 p.grammar &&
  fits 64 p.seed && fits 16 p.hostTopn && fits 32 p.hostDeadline

/-- R567: the widths of STORE_CREATE. -/
def StoreParams.wf (p : StoreParams) : Bool :=
  fits 8 p.metric && fits 8 p.rerankFmt && fits 8 p.rounds && fits 16 p.dim && fits 8 p.dsub && fits 8 p.deg0 &&
  fits 8 p.deg && fits 16 p.efBuild && fits 32 p.capacity && fits 32 p.mergeAt && fits 32 p.sideMax

/-- R567: the widths of VEC_QUERY. -/
def QueryParams.wf (q : QueryParams) : Bool :=
  fits 16 q.k && fits 16 q.count && fits 16 q.ef && fits 16 q.rerank && fits 16 q.deadline && fits 64 q.filtMask &&
  fits 64 q.filtValue

/-- R569: the widths of PARTITION_CONFIG. -/
def PartCfg.wf (c : PartCfg) : Bool :=
  fits 8 c.pflags && fits 8 c.capMode && fits 8 c.publicDomain && fits 8 c.rtvStores && fits 16 c.slotMask &&
  fits 32 c.sessBase && fits 32 c.sessCount && fits 32 c.hbmFrames && fits 32 c.tephraUnits && fits 32 c.pfxBuckets &&
  fits 32 c.adpBase && fits 32 c.adpCount && fits 32 c.adpQuota && fits 16 c.chanBase && fits 16 c.chanCount &&
  fits 8 c.cmdShare

/-- R569: the widths of SHAPER_CONFIG, with its five classes. -/
def ShaperCfg.wf (c : ShaperCfg) : Bool :=
  fits 8 c.flowGroups && fits 16 c.subBase && fits 8 c.flow && fits 64 c.subBytes && fits 32 c.subCost &&
  fits 32 c.subBurst && c.classes.length == 5 && c.classes.all fun q => fits 32 q.1 && fits 32 q.2

/-- R394: the widths of a launch descriptor. -/
def LaunchDesc.wf (d : LaunchDesc) : Bool :=
  fits 32 d.package && fits 32 d.pool && fits 32 d.contexts && fits 64 d.argBase && fits 32 d.argStride &&
  fits 32 d.objCount && fits 8 d.partition && fits 64 d.budget && fits 64 d.objList && fits 64 d.tag

/-- R387. -/
def ObjEntry.wf (o : ObjEntry) : Bool := fits 8 o.type && fits 32 o.index && fits 64 o.handle

/-- R459: the widths of a fabric message's header. -/
def FabMsg.wf (m : FabMsg) : Bool :=
  fits 32 m.dest && fits 32 m.src && fits 8 m.type && fits 8 m.part && fits 16 m.sub && fits 32 m.length &&
  fits 32 m.tag && fits 16 m.status && fits 64 m.handle && m.length == 32 + m.body.length

/-- R459, R470, R471. -/
def LahMsg.wf (m : LahMsg) : Bool :=
  fits 32 m.src && fits 8 m.type && fits 32 m.tag && fits 8 m.part && fits 16 m.sub && fits 32 m.seq && fits 40 m.epoch

/-- R379, R399: a Vent core has 16 contexts of 4,096 cores, a Mudpot core 4 contexts of 256 cores. -/
def CtxId.wf (c : CtxId) : Bool :=
  if c.mudpot then decide (c.core < 256) && decide (c.ctx < 4) else decide (c.core < 4096) && decide (c.ctx < 16)

/-- R382: a general register. -/
def regWf (r : Nat) : Bool := fits 5 r

/-- R383: a source operand. -/
def Src2.wf : Src2 → Bool
  | .reg r => regWf r
  | .imm _ => true

/-- R560: the bounds of a DATA form. -/
def dataWf (object offset : Nat) (data : List Byte) : Bool :=
  fits 32 object && fits 32 offset && decide (1 ≤ data.length) && decide (data.length ≤ 65536)

/-- The widths of every operand of a command. -/
def Instr.wf : Instr → Bool
  | .sessionCreate h model mode sinkPages adapter _ topkK recentPages =>
    h.wf && fits 8 model && fits 8 mode && fits 8 sinkPages && fits 32 adapter && fits 16 topkK && fits 16 recentPages
  | .sessionDestroy h handle | .sessionInfo h handle => h.wf && fits 64 handle
  | .sessionFork h handle seed => h.wf && fits 64 handle && fits 64 seed
  | .sessionPark h handle pflags => h.wf && fits 64 handle && fits 8 pflags
  | .sessionSetSelect h handle mode sinkPages topkK recentPages _ =>
    h.wf && fits 64 handle && fits 8 mode && fits 8 sinkPages && fits 16 topkK && fits 16 recentPages
  | .sessionSetAdapter h handle adapter => h.wf && fits 64 handle && fits 32 adapter
  | .sessionSetSampling h handle p => h.wf && fits 64 handle && p.wf
  | .modelLoad h object length | .adapterLoad h object length | .vocabLoad h object length
  | .grammarLoad h object length | .kernelLoad h object length | .fwLoad h object length =>
    h.wf && fits 32 object && fits 32 length
  | .modelData h object offset data | .adapterData h object offset data | .vocabData h object offset data
  | .grammarData h object offset data | .kernelData h object offset data | .fwData h object offset data =>
    h.wf && dataWf object offset data
  | .modelCommit h object digest | .adapterCommit h object digest | .vocabCommit h object digest
  | .grammarCommit h object digest | .kernelCommit h object digest | .fwCommit h object digest =>
    h.wf && fits 32 object && digest.length == 32
  | .modelUnload h object | .adapterDrop h object | .vocabUnload h object | .grammarDrop h object
  | .kernelDrop h object => h.wf && fits 32 object
  | .modelGrant h model _ => h.wf && fits 8 model
  | .modelBind h firstPipe size model => h.wf && fits 8 firstPipe && fits 8 size && fits 8 model
  | .switchPhaseEnd firstPipe failed => fits 6 firstPipe && (failed.getD 0 |> fits 6)
  | .sinterFormatSet h fmt kind run dk dv refMax denseKeep rounds =>
    h.wf && [fmt, kind, run, dk, dv, refMax, denseKeep, rounds].all (fits 8)
  | .sinterMapSet h model map => h.wf && fits 8 model && map.length == 128
  | .prefixInsert h handle domain piflags firstBlock ids =>
    h.wf && fits 64 handle && fits 8 domain && fits 8 piflags && fits 32 firstBlock && ids.all (fits 32)
  | .prefixAttach h handle firstBlock ids => h.wf && fits 64 handle && fits 32 firstBlock && ids.all (fits 32)
  | .prefixAttachPhase seq | .prefixInsertDone seq | .sampleStep seq | .forkComplete seq | .thawExpiry seq
  | .responseExpiry seq | .hostDeadlineExpiry seq | .launchPlace seq | .launchComplete seq
  | .launchBudgetExpiry seq | .queryExpiry seq => fits 48 seq
  | .prefixDomainConfig h domain opn buckets => h.wf && fits 8 domain && fits 8 opn && fits 32 buckets
  | .tokenize h handle tflags text => h.wf && fits 64 handle && fits 8 tflags && fits 32 text.length
  | .hostChoice h handle position token => h.wf && fits 64 handle && fits 32 position && fits 32 token
  | .stopSet h handle ids strings idSlots entries =>
    h.wf && fits 64 handle && fits 8 ids && fits 8 strings && idSlots.length == 32 && idSlots.all (fits 32) &&
    entries.length == 16 && entries.all fun e => fits 8 e.1 && e.2.length == 64
  | .vocabAssign h model slot => h.wf && fits 8 model && fits 8 slot
  | .storeCreate h localNo p => h.wf && fits 8 localNo && p.wf
  | .storeDrop h store | .storeMerge h store => h.wf && fits 32 store
  | .vecInsert h store count user comps => h.wf && fits 32 store && fits 16 count && fits 64 user && comps.length == count
  | .vecDelete h store vid => h.wf && fits 32 store && fits 64 vid
  | .vecQuery h store q comps => h.wf && fits 32 store && q.wf && comps.length == q.count
  | .queryComplete seq cycle => fits 48 seq && fits 16 cycle
  | .recoveryGroupSet h ringId members self shadowSlots predAddr buddyAddr releaseTicks =>
    h.wf && fits 32 ringId && fits 8 members && fits 8 self && fits 16 shadowSlots && fits 32 predAddr &&
    fits 32 buddyAddr && fits 16 releaseTicks
  | .failover h | .fwHandover h | .telemetryRead h => h.wf
  | .takeover h buddyAddr ringId epoch self => h.wf && fits 32 buddyAddr && fits 32 ringId && fits 40 epoch && fits 8 self
  | .checkpointWrite h epoch imageSlot => h.wf && fits 40 epoch && fits 8 imageSlot
  | .checkpointRestore h ringId imageSlot oldMembers newMembers newIndex =>
    h.wf && fits 32 ringId && fits 8 imageSlot && fits 8 oldMembers && fits 8 newMembers && fits 8 newIndex
  | .partitionConfig h partitionT c => h.wf && fits 8 partitionT && c.wf
  | .partitionReset h partitionT => h.wf && fits 8 partitionT
  | .partitionResetResume partitionT => fits 8 partitionT
  | .partitionFence h partitionT fn => h.wf && fits 8 partitionT && fits 8 fn
  | .tierTargetConfig h slot planeMask addr capacity =>
    h.wf && fits 8 slot && fits 8 planeMask && fits 32 addr && fits 32 capacity
  | .fabricRouteSet h index role planeMask addr => h.wf && fits 16 index && fits 8 role && fits 8 planeMask && fits 32 addr
  | .shaperConfig h partitionT c => h.wf && fits 8 partitionT && c.wf
  | .shaperMode h mode => h.wf && fits 8 mode
  | .planLoad h plflags offset total data =>
    h.wf && fits 8 plflags && fits 32 offset && fits 32 total && fits 32 data.length
  | .planSwap h tick => h.wf && fits 64 tick
  | .kernelLaunch h d objs => h.wf && d.wf && objs.all ObjEntry.wf
  | .hbmRetire h pseudoChannel => h.wf && fits 8 pseudoChannel
  | .attest h nonce => h.wf && nonce.length == 32
  | .attestDone part => fits 8 part
  | .keyDeliver h kind keygen ciphertext wrap =>
    h.wf && fits 8 kind && fits 16 keygen && ciphertext.length == 1568 && wrap.length == 48
  | .operatorKeySet h key => h.wf && key.length == 48
  | .latencyToleranceSet h scope toleranceUs => h.wf && fits 8 scope && fits 32 toleranceUs
  | .window cycle chan credits => fits 15 cycle && fits 16 chan && fits 32 credits
  | .packetArrival cycle bytes => fits 15 cycle && bytes.length % 16 == 0
  | .attnReq port cycle m | .appendOnly port cycle m | .logits port cycle m | .adapterGather port cycle m
  | .tierAck port cycle m => decide (port < 56) && fits 15 cycle && m.wf
  | .laharDelta port cycle m | .releaseLog port cycle m | .laharAck port cycle m =>
    decide (port < 56) && fits 15 cycle && m.wf
  | .epochCommit epoch => fits 40 epoch
  | .controlPageThaw handle | .tokenRelease handle => fits 64 handle
  | .stateDecode spn => fits 32 spn
  | .slotLost slot _ _ => decide (slot < 16)
  | .codedRunRetry entry layer => fits 24 entry && fits 8 layer
  | .portTransmit port => decide (port < 57)
  | .trafficHandover queue _ => fits 18 queue
  | .writeGrantRequest c spn frame _ cycle => c.wf && fits 32 spn && decide (frame < 6291456) && fits 15 cycle
  | .summaryBuild entry layer _ | .runEncode entry layer _ => fits 24 entry && fits 8 layer
  | .bookBuild domain model layer => fits 8 domain && decide (model < 32) && fits 8 layer
  | .mergeRound store | .pendClear store => fits 32 store
  | .bandRelocate frame | .frameMigrate frame | .scrubRefill frame => decide (frame < 6291456)
  | .refresh pc => fits 8 pc
  | .targetedRefresh pc acts => fits 8 pc && acts.all fun a => fits 8 a.1 && fits 16 a.2.1
  | .rowRepair pc bank row _ => fits 8 pc && fits 8 bank && fits 16 row
  | .laneRemove port lane | .laneRestore port lane | .laneReadapt port lane => decide (port < 57) && fits 4 lane
  | .laneRecalibrate port lane _ => decide (port < 57) && fits 4 lane
  | .portDown port cycle => decide (port < 56) && fits 15 cycle
  | .linkReplay port fromSeq => decide (port < 57) && fits 24 fromSeq
  | .ventInteger c _ rd rs1 b => c.wf && regWf rd && regWf rs1 && b.wf
  | .ventControl c _ rs1 rs2 _ => c.wf && regWf rs1 && regWf rs2
  | .ventLoad c bytes _ rd base _ => c.wf && [1, 2, 4, 8, 16].contains bytes && regWf rd && regWf base
  | .ventStore c bytes rs base _ => c.wf && [1, 2, 4, 8, 16].contains bytes && regWf rs && regWf base
  | .ventAtomic c _ rd rs1 rs2 => c.wf && regWf rd && regWf rs1 && regWf rs2
  | .ventVector c _ _ vd vs1 vs2 => c.wf && regWf vd && regWf vs1 && regWf vs2
  | .ventConversion c _ _ _ rd rs1 => c.wf && regWf rd && regWf rs1
  | .yield c | .fence c | .exit c | .waitSatisfied c => c.wf
  | .deviceViewRequest c rd rs1 => c.wf && regWf rd && regWf rs1
  | .mudpotWrite c spn off data => c.wf && fits 32 spn && decide (off + data.length ≤ 65536)
  | .i3cPrivateWrite addr _ => fits 32 addr
  | .i3cSetAddress addr => fits 32 addr
  | .setdasa staticAddr dynAddr => fits 7 staticAddr && fits 7 dynAddr
  | .registerWrite master addr width _ => decide (master < 10) && fits 32 addr && [1, 2, 4].contains width
  | .readClear master addr | .loReadLatch master addr | .hiWriteCommit master addr _ | .postedWrite master addr _
  | .hwmRead master addr => decide (master < 10) && fits 32 addr
  | .manifestSeal master _ | .errlogRptrWrite master _ | .captureEnable master _ | .mudOpCoresWrite master _ =>
    decide (master < 10)
  | .refclkLoss k => decide (k < 4)
  | .brownout rail => decide (rail < 5)
  | .hostLinkTrain lanes => fits 16 lanes
  | .hbmStackTrain stack _ _ _ => fits 3 stack
  | .fabricPortTrain port | .partnerTrainingDetect port => decide (port < 56)
  | .creditReturn port ackSeq _ => decide (port < 57) && fits 24 ackSeq
  | .grantRelease c spn => c.wf && fits 32 spn
  | .fwCommitDone bank _ => fits 1 bank
  | .gatherDataSend _ | .commandIntake | .tickBoundary | .manifestPrepare | .layerBatch _ _
  | .mergeSlot _ _ | .epochTimer | .epochOwnTimer | .epochCut | .capture _ | .releaseTimerExpiry _
  | .deltaTimerExpiry _ | .laharKeepalive | .predSuspect | .gatherExpiry _ | .agePark | .scrubPass _ _
  | .rowTrackerClear | .hostLinkDown | .wakeComplete | .i3cPrivateRead _ | .postedWriteDone _ | .manifestCopyDone
  | .readIdentityCert | .readAliasCert | .advanceSvn | .mailboxRequestDone | .powerOn | .sysResetAssert
  | .sysResetRelease _ _ | .thermalTrip | .powerDown | .boot _ _ | .fumaroleStart | .cardRateChange _
  | .testPortInstruction _ | .planCheckDone _ | .granuleMove _ | .fwHandoverStart => true

end Sys2Proof
end

