-- ==== Sys2Proof/Laws/PerInstr.lean ====
section
/-!
SUPPORT. Sys2Proof/Laws/PerInstr.lean: for each command, what its well-formedness says of the header its packet came with
(R78, R544, R552).
-/

namespace Sys2Proof.Laws.HeaderWidths

/-- The header of a host command. -/
def header : Instr → Option CmdHdr
  | .sessionCreate h .. | .sessionDestroy h .. | .sessionFork h .. | .sessionPark h ..
  | .sessionSetSelect h .. | .sessionSetAdapter h .. | .sessionSetSampling h .. | .sessionInfo h ..
  | .modelLoad h .. | .modelData h .. | .modelCommit h .. | .modelUnload h .. | .modelGrant h ..
  | .modelBind h .. | .adapterLoad h .. | .adapterData h .. | .adapterCommit h .. | .adapterDrop h ..
  | .sinterFormatSet h .. | .sinterMapSet h .. | .prefixInsert h .. | .prefixAttach h ..
  | .prefixDomainConfig h .. | .tokenize h .. | .hostChoice h .. | .stopSet h .. | .vocabLoad h ..
  | .vocabData h .. | .vocabCommit h .. | .vocabAssign h .. | .vocabUnload h .. | .grammarLoad h ..
  | .grammarData h .. | .grammarCommit h .. | .grammarDrop h .. | .storeCreate h .. | .storeDrop h ..
  | .storeMerge h .. | .vecInsert h .. | .vecDelete h .. | .vecQuery h .. | .recoveryGroupSet h ..
  | .failover h .. | .takeover h .. | .checkpointWrite h .. | .checkpointRestore h .. | .partitionConfig h ..
  | .partitionReset h .. | .partitionFence h .. | .tierTargetConfig h .. | .fabricRouteSet h ..
  | .shaperConfig h .. | .shaperMode h .. | .planLoad h .. | .planSwap h .. | .kernelLoad h ..
  | .kernelData h .. | .kernelCommit h .. | .kernelDrop h .. | .kernelLaunch h .. | .hbmRetire h ..
  | .fwLoad h .. | .fwData h .. | .fwCommit h .. | .fwHandover h .. | .attest h .. | .keyDeliver h ..
  | .operatorKeySet h .. | .telemetryRead h .. | .latencyToleranceSet h .. => some h
  | _ => none

/-- A well-formed host command carries a header of the widths that the spec gives it: 1,024 channels, 256 partitions, a TAG
of 32 bits, a ledger number of 48 bits and a tick of 64 bits. -/
def Statement (i : Instr) : Prop :=
  i.wf = true → ∀ h, header i = some h →
    h.chan < 1024 ∧ h.part < 256 ∧ h.tag < 2 ^ 32 ∧ h.seq < 2 ^ 48 ∧ h.tick < 2 ^ 64

theorem of_wf {h : CmdHdr} (w : h.wf = true) :
    h.chan < 1024 ∧ h.part < 256 ∧ h.tag < 2 ^ 32 ∧ h.seq < 2 ^ 48 ∧ h.tick < 2 ^ 64 := by
  simpa [CmdHdr.wf, fits, and_assoc] using w

theorem header_wf {i : Instr} {h : CmdHdr} (e : header i = some h) (w : i.wf = true) : h.wf = true := by
  cases i <;> first
    | (cases e; done)
    | (cases e; simp only [Instr.wf, Bool.and_eq_true] at w; (try simp only [and_assoc] at w); first | exact w.1 | exact w)

/-- The whole family at once. -/
theorem all (i : Instr) : Statement i := fun w _ e => of_wf (header_wf e w)

theorem sessionCreate (h : CmdHdr) (model mode sinkPages adapter : Nat) (tau : F32) (topkK recentPages : Nat) :
    Statement (.sessionCreate h model mode sinkPages adapter tau topkK recentPages) := all _
theorem sessionDestroy (h : CmdHdr) (handle : Nat) : Statement (.sessionDestroy h handle) := all _
theorem sessionFork (h : CmdHdr) (handle seed : Nat) : Statement (.sessionFork h handle seed) := all _
theorem sessionPark (h : CmdHdr) (handle pflags : Nat) : Statement (.sessionPark h handle pflags) := all _
theorem sessionSetSelect (h : CmdHdr) (handle mode sinkPages topkK recentPages : Nat) (tau : F32) :
    Statement (.sessionSetSelect h handle mode sinkPages topkK recentPages tau) := all _
theorem sessionSetAdapter (h : CmdHdr) (handle adapter : Nat) :
    Statement (.sessionSetAdapter h handle adapter) := all _
theorem sessionSetSampling (h : CmdHdr) (handle : Nat) (p : Sampling) :
    Statement (.sessionSetSampling h handle p) := all _
theorem sessionInfo (h : CmdHdr) (handle : Nat) : Statement (.sessionInfo h handle) := all _
theorem modelLoad (h : CmdHdr) (object length : Nat) : Statement (.modelLoad h object length) := all _
theorem modelData (h : CmdHdr) (object offset : Nat) (data : List Byte) :
    Statement (.modelData h object offset data) := all _
theorem modelCommit (h : CmdHdr) (object : Nat) (digest : List Byte) :
    Statement (.modelCommit h object digest) := all _
theorem modelUnload (h : CmdHdr) (object : Nat) : Statement (.modelUnload h object) := all _
theorem modelGrant (h : CmdHdr) (model : Nat) (mask : BitVec 256) : Statement (.modelGrant h model mask) := all _
theorem modelBind (h : CmdHdr) (firstPipe size model : Nat) : Statement (.modelBind h firstPipe size model) := all _
theorem switchPhaseEnd (firstPipe : Nat) (failed : Option Nat) : Statement (.switchPhaseEnd firstPipe failed) := all _
theorem adapterLoad (h : CmdHdr) (object length : Nat) : Statement (.adapterLoad h object length) := all _
theorem adapterData (h : CmdHdr) (object offset : Nat) (data : List Byte) :
    Statement (.adapterData h object offset data) := all _
theorem adapterCommit (h : CmdHdr) (object : Nat) (digest : List Byte) :
    Statement (.adapterCommit h object digest) := all _
theorem adapterDrop (h : CmdHdr) (object : Nat) : Statement (.adapterDrop h object) := all _
theorem sinterFormatSet (h : CmdHdr) (fmt kind run dk dv refMax denseKeep rounds : Nat) :
    Statement (.sinterFormatSet h fmt kind run dk dv refMax denseKeep rounds) := all _
theorem sinterMapSet (h : CmdHdr) (model : Nat) (map : List Byte) : Statement (.sinterMapSet h model map) := all _
theorem prefixInsert (h : CmdHdr) (handle domain piflags firstBlock : Nat) (ids : List Nat) :
    Statement (.prefixInsert h handle domain piflags firstBlock ids) := all _
theorem prefixAttach (h : CmdHdr) (handle firstBlock : Nat) (ids : List Nat) :
    Statement (.prefixAttach h handle firstBlock ids) := all _
theorem prefixAttachPhase (seq : Nat) : Statement (.prefixAttachPhase seq) := all _
theorem prefixDomainConfig (h : CmdHdr) (domain opn buckets : Nat) :
    Statement (.prefixDomainConfig h domain opn buckets) := all _
theorem tokenize (h : CmdHdr) (handle tflags : Nat) (text : List Byte) :
    Statement (.tokenize h handle tflags text) := all _
theorem hostChoice (h : CmdHdr) (handle position token : Nat) :
    Statement (.hostChoice h handle position token) := all _
theorem stopSet (h : CmdHdr) (handle ids strings : Nat) (idSlots : List Nat) (entries : List (Nat × List Byte)) :
    Statement (.stopSet h handle ids strings idSlots entries) := all _
theorem vocabLoad (h : CmdHdr) (object length : Nat) : Statement (.vocabLoad h object length) := all _
theorem vocabData (h : CmdHdr) (object offset : Nat) (data : List Byte) :
    Statement (.vocabData h object offset data) := all _
theorem vocabCommit (h : CmdHdr) (object : Nat) (digest : List Byte) :
    Statement (.vocabCommit h object digest) := all _
theorem vocabAssign (h : CmdHdr) (model slot : Nat) : Statement (.vocabAssign h model slot) := all _
theorem vocabUnload (h : CmdHdr) (object : Nat) : Statement (.vocabUnload h object) := all _
theorem grammarLoad (h : CmdHdr) (object length : Nat) : Statement (.grammarLoad h object length) := all _
theorem grammarData (h : CmdHdr) (object offset : Nat) (data : List Byte) :
    Statement (.grammarData h object offset data) := all _
theorem grammarCommit (h : CmdHdr) (object : Nat) (digest : List Byte) :
    Statement (.grammarCommit h object digest) := all _
theorem grammarDrop (h : CmdHdr) (object : Nat) : Statement (.grammarDrop h object) := all _
theorem storeCreate (h : CmdHdr) (localNo : Nat) (p : StoreParams) : Statement (.storeCreate h localNo p) := all _
theorem storeDrop (h : CmdHdr) (store : Nat) : Statement (.storeDrop h store) := all _
theorem storeMerge (h : CmdHdr) (store : Nat) : Statement (.storeMerge h store) := all _
theorem vecInsert (h : CmdHdr) (store count user : Nat) (comps : List (BitVec 16)) :
    Statement (.vecInsert h store count user comps) := all _
theorem vecDelete (h : CmdHdr) (store vid : Nat) : Statement (.vecDelete h store vid) := all _
theorem vecQuery (h : CmdHdr) (store : Nat) (q : QueryParams) (comps : List (BitVec 16)) :
    Statement (.vecQuery h store q comps) := all _
theorem queryComplete (seq cycle : Nat) : Statement (.queryComplete seq cycle) := all _
theorem recoveryGroupSet (h : CmdHdr) (ringId members self shadowSlots predAddr buddyAddr releaseTicks : Nat) :
    Statement (.recoveryGroupSet h ringId members self shadowSlots predAddr buddyAddr releaseTicks) := all _
theorem failover (h : CmdHdr) : Statement (.failover h) := all _
theorem takeover (h : CmdHdr) (buddyAddr ringId epoch self : Nat) :
    Statement (.takeover h buddyAddr ringId epoch self) := all _
theorem checkpointWrite (h : CmdHdr) (epoch imageSlot : Nat) : Statement (.checkpointWrite h epoch imageSlot) := all _
theorem checkpointRestore (h : CmdHdr) (ringId imageSlot oldMembers newMembers newIndex : Nat) :
    Statement (.checkpointRestore h ringId imageSlot oldMembers newMembers newIndex) := all _
theorem partitionConfig (h : CmdHdr) (partitionT : Nat) (c : PartCfg) :
    Statement (.partitionConfig h partitionT c) := all _
theorem partitionReset (h : CmdHdr) (partitionT : Nat) : Statement (.partitionReset h partitionT) := all _
theorem partitionResetResume (partitionT : Nat) : Statement (.partitionResetResume partitionT) := all _
theorem partitionFence (h : CmdHdr) (partitionT fence : Nat) : Statement (.partitionFence h partitionT fence) := all _
theorem tierTargetConfig (h : CmdHdr) (slot planeMask addr capacity : Nat) :
    Statement (.tierTargetConfig h slot planeMask addr capacity) := all _
theorem fabricRouteSet (h : CmdHdr) (index role planeMask addr : Nat) :
    Statement (.fabricRouteSet h index role planeMask addr) := all _
theorem shaperConfig (h : CmdHdr) (partitionT : Nat) (c : ShaperCfg) :
    Statement (.shaperConfig h partitionT c) := all _
theorem shaperMode (h : CmdHdr) (mode : Nat) : Statement (.shaperMode h mode) := all _
theorem planLoad (h : CmdHdr) (plflags offset total : Nat) (data : List Byte) :
    Statement (.planLoad h plflags offset total data) := all _
theorem planCheckDone (plan : Plan) : Statement (.planCheckDone plan) := all _
theorem planSwap (h : CmdHdr) (tick : Nat) : Statement (.planSwap h tick) := all _
theorem kernelLoad (h : CmdHdr) (object length : Nat) : Statement (.kernelLoad h object length) := all _
theorem kernelData (h : CmdHdr) (object offset : Nat) (data : List Byte) :
    Statement (.kernelData h object offset data) := all _
theorem kernelCommit (h : CmdHdr) (object : Nat) (digest : List Byte) :
    Statement (.kernelCommit h object digest) := all _
theorem kernelDrop (h : CmdHdr) (object : Nat) : Statement (.kernelDrop h object) := all _
theorem kernelLaunch (h : CmdHdr) (d : LaunchDesc) (objs : List ObjEntry) :
    Statement (.kernelLaunch h d objs) := all _
theorem launchPlace (seq : Nat) : Statement (.launchPlace seq) := all _
theorem launchComplete (seq : Nat) : Statement (.launchComplete seq) := all _
theorem hbmRetire (h : CmdHdr) (pseudoChannel : Nat) : Statement (.hbmRetire h pseudoChannel) := all _
theorem bandRelocate (frame : Nat) : Statement (.bandRelocate frame) := all _
theorem granuleMove (granules : Nat) : Statement (.granuleMove granules) := all _
theorem fwLoad (h : CmdHdr) (object length : Nat) : Statement (.fwLoad h object length) := all _
theorem fwData (h : CmdHdr) (object offset : Nat) (data : List Byte) :
    Statement (.fwData h object offset data) := all _
theorem fwCommit (h : CmdHdr) (object : Nat) (digest : List Byte) : Statement (.fwCommit h object digest) := all _
theorem fwHandover (h : CmdHdr) : Statement (.fwHandover h) := all _
theorem fwHandoverStart : Statement .fwHandoverStart := all _
theorem attest (h : CmdHdr) (nonce : List Byte) : Statement (.attest h nonce) := all _
theorem attestDone (part : Nat) : Statement (.attestDone part) := all _
theorem keyDeliver (h : CmdHdr) (kind keygen : Nat) (ciphertext wrap : List Byte) :
    Statement (.keyDeliver h kind keygen ciphertext wrap) := all _
theorem operatorKeySet (h : CmdHdr) (key : List Byte) : Statement (.operatorKeySet h key) := all _
theorem telemetryRead (h : CmdHdr) : Statement (.telemetryRead h) := all _
theorem latencyToleranceSet (h : CmdHdr) (scope toleranceUs : Nat) :
    Statement (.latencyToleranceSet h scope toleranceUs) := all _
theorem packetArrival (cycle : Nat) (bytes : List Byte) : Statement (.packetArrival cycle bytes) := all _
theorem window (cycle chan credits : Nat) : Statement (.window cycle chan credits) := all _
theorem commandIntake : Statement .commandIntake := all _
theorem attnReq (port cycle : Nat) (m : FabMsg) : Statement (.attnReq port cycle m) := all _
theorem appendOnly (port cycle : Nat) (m : FabMsg) : Statement (.appendOnly port cycle m) := all _
theorem logits (port cycle : Nat) (m : FabMsg) : Statement (.logits port cycle m) := all _
theorem adapterGather (port cycle : Nat) (m : FabMsg) : Statement (.adapterGather port cycle m) := all _
theorem gatherDataSend (bytes : Nat) : Statement (.gatherDataSend bytes) := all _
theorem tierAck (port cycle : Nat) (m : FabMsg) : Statement (.tierAck port cycle m) := all _
theorem laharDelta (port cycle : Nat) (m : LahMsg) : Statement (.laharDelta port cycle m) := all _
theorem releaseLog (port cycle : Nat) (m : LahMsg) : Statement (.releaseLog port cycle m) := all _
theorem laharAck (port cycle : Nat) (m : LahMsg) : Statement (.laharAck port cycle m) := all _
theorem epochCommit (epoch : Nat) : Statement (.epochCommit epoch) := all _
theorem tickBoundary : Statement .tickBoundary := all _
theorem manifestPrepare : Statement .manifestPrepare := all _
theorem layerBatch (slot : Nat) (decay : List CwErr) : Statement (.layerBatch slot decay) := all _
theorem mergeSlot (slot : Nat) (decay : List CwErr) : Statement (.mergeSlot slot decay) := all _
theorem controlPageThaw (handle : Nat) : Statement (.controlPageThaw handle) := all _
theorem stateDecode (spn : Nat) : Statement (.stateDecode spn) := all _
theorem sampleStep (seq : Nat) : Statement (.sampleStep seq) := all _
theorem tokenRelease (handle : Nat) : Statement (.tokenRelease handle) := all _
theorem forkComplete (seq : Nat) : Statement (.forkComplete seq) := all _
theorem thawExpiry (seq : Nat) : Statement (.thawExpiry seq) := all _
theorem responseExpiry (seq : Nat) : Statement (.responseExpiry seq) := all _
theorem hostDeadlineExpiry (seq : Nat) : Statement (.hostDeadlineExpiry seq) := all _
theorem epochTimer : Statement .epochTimer := all _
theorem epochOwnTimer : Statement .epochOwnTimer := all _
theorem epochCut : Statement .epochCut := all _
theorem capture (n : Nat) : Statement (.capture n) := all _
theorem releaseTimerExpiry (recSeq : Nat) : Statement (.releaseTimerExpiry recSeq) := all _
theorem deltaTimerExpiry (recSeq : Nat) : Statement (.deltaTimerExpiry recSeq) := all _
theorem laharKeepalive : Statement .laharKeepalive := all _
theorem predSuspect : Statement .predSuspect := all _
theorem gatherExpiry (tag : Nat) : Statement (.gatherExpiry tag) := all _
theorem launchBudgetExpiry (seq : Nat) : Statement (.launchBudgetExpiry seq) := all _
theorem queryExpiry (seq : Nat) : Statement (.queryExpiry seq) := all _
theorem slotLost (slot : Nat) (reported pathsDown : Bool) : Statement (.slotLost slot reported pathsDown) := all _
theorem codedRunRetry (entry layer : Nat) : Statement (.codedRunRetry entry layer) := all _
theorem agePark : Statement .agePark := all _
theorem trafficHandover (queue now : Nat) : Statement (.trafficHandover queue now) := all _
theorem portTransmit (port : Nat) : Statement (.portTransmit port) := all _
theorem writeGrantRequest (c : CtxId) (spn frame : Nat) (raw : Bool) (cycle : Nat) :
    Statement (.writeGrantRequest c spn frame raw cycle) := all _
theorem summaryBuild (entry layer index : Nat) : Statement (.summaryBuild entry layer index) := all _
theorem bookBuild (domain model layer : Nat) : Statement (.bookBuild domain model layer) := all _
theorem runEncode (entry layer first : Nat) : Statement (.runEncode entry layer first) := all _
theorem mergeRound (store : Nat) : Statement (.mergeRound store) := all _
theorem pendClear (store : Nat) : Statement (.pendClear store) := all _
theorem scrubPass (finds : List CwErr) (finished : Bool) : Statement (.scrubPass finds finished) := all _
theorem scrubRefill (frame : Nat) : Statement (.scrubRefill frame) := all _
theorem refresh (pc : Nat) : Statement (.refresh pc) := all _
theorem targetedRefresh (pc : Nat) (acts : List (Nat × Nat × Nat)) : Statement (.targetedRefresh pc acts) := all _
theorem rowTrackerClear : Statement .rowTrackerClear := all _
theorem rowRepair (pc bank row : Nat) (spare : Bool) : Statement (.rowRepair pc bank row spare) := all _
theorem frameMigrate (frame : Nat) : Statement (.frameMigrate frame) := all _
theorem laneRemove (port lane : Nat) : Statement (.laneRemove port lane) := all _
theorem laneRecalibrate (port lane : Nat) (ok : Bool) : Statement (.laneRecalibrate port lane ok) := all _
theorem laneRestore (port lane : Nat) : Statement (.laneRestore port lane) := all _
theorem laneReadapt (port lane : Nat) : Statement (.laneReadapt port lane) := all _
theorem portDown (port cycle : Nat) : Statement (.portDown port cycle) := all _
theorem linkReplay (port fromSeq : Nat) : Statement (.linkReplay port fromSeq) := all _
theorem hostLinkDown : Statement .hostLinkDown := all _
theorem wakeComplete : Statement .wakeComplete := all _
theorem ventInteger (c : CtxId) (op : IntOp) (rd rs1 : Nat) (b : Src2) :
    Statement (.ventInteger c op rd rs1 b) := all _
theorem ventControl (c : CtxId) (op : CtlOp) (rs1 rs2 : Nat) (disp : Int) :
    Statement (.ventControl c op rs1 rs2 disp) := all _
theorem ventLoad (c : CtxId) (bytes : Nat) (signed : Bool) (rd base : Nat) (off : BitVec 16) :
    Statement (.ventLoad c bytes signed rd base off) := all _
theorem ventStore (c : CtxId) (bytes : Nat) (rs base : Nat) (off : BitVec 16) :
    Statement (.ventStore c bytes rs base off) := all _
theorem ventAtomic (c : CtxId) (op : AtomicOp) (rd rs1 rs2 : Nat) : Statement (.ventAtomic c op rd rs1 rs2) := all _
theorem ventVector (c : CtxId) (op : VecOp) (ty : ElemType) (vd vs1 vs2 : Nat) :
    Statement (.ventVector c op ty vd vs1 vs2) := all _
theorem ventConversion (c : CtxId) (vector : Bool) (src dst : ElemType) (rd rs1 : Nat) :
    Statement (.ventConversion c vector src dst rd rs1) := all _
theorem yield (c : CtxId) : Statement (.yield c) := all _
theorem fence (c : CtxId) : Statement (.fence c) := all _
theorem exit (c : CtxId) : Statement (.exit c) := all _
theorem deviceViewRequest (c : CtxId) (rd rs1 : Nat) : Statement (.deviceViewRequest c rd rs1) := all _
theorem waitSatisfied (c : CtxId) : Statement (.waitSatisfied c) := all _
theorem mudpotWrite (c : CtxId) (spn off : Nat) (data : List Byte) : Statement (.mudpotWrite c spn off data) := all _
theorem i3cPrivateWrite (addr : Nat) (data : Word) : Statement (.i3cPrivateWrite addr data) := all _
theorem i3cSetAddress (addr : Nat) : Statement (.i3cSetAddress addr) := all _
theorem i3cPrivateRead (words : Nat) : Statement (.i3cPrivateRead words) := all _
theorem setdasa (staticAddr dynAddr : Nat) : Statement (.setdasa staticAddr dynAddr) := all _
theorem registerWrite (master addr width : Nat) (data : Word) :
    Statement (.registerWrite master addr width data) := all _
theorem readClear (master addr : Nat) : Statement (.readClear master addr) := all _
theorem loReadLatch (master addr : Nat) : Statement (.loReadLatch master addr) := all _
theorem hiWriteCommit (master addr : Nat) (data : Word) : Statement (.hiWriteCommit master addr data) := all _
theorem postedWrite (master addr : Nat) (data : Word) : Statement (.postedWrite master addr data) := all _
theorem postedWriteDone (domain : Nat) : Statement (.postedWriteDone domain) := all _
theorem manifestSeal (master : Nat) (tickLow : Word) : Statement (.manifestSeal master tickLow) := all _
theorem manifestCopyDone : Statement .manifestCopyDone := all _
theorem errlogRptrWrite (master : Nat) (data : Word) : Statement (.errlogRptrWrite master data) := all _
theorem hwmRead (master addr : Nat) : Statement (.hwmRead master addr) := all _
theorem captureEnable (master : Nat) (data : Word) : Statement (.captureEnable master data) := all _
theorem mudOpCoresWrite (master : Nat) (data : Word) : Statement (.mudOpCoresWrite master data) := all _
theorem readIdentityCert : Statement .readIdentityCert := all _
theorem readAliasCert : Statement .readAliasCert := all _
theorem advanceSvn : Statement .advanceSvn := all _
theorem mailboxRequestDone : Statement .mailboxRequestDone := all _
theorem powerOn : Statement .powerOn := all _
theorem sysResetAssert : Statement .sysResetAssert := all _
theorem sysResetRelease (straps : BitVec 16) (refclkSys : Bool) :
    Statement (.sysResetRelease straps refclkSys) := all _
theorem brownout (rail : Nat) : Statement (.brownout rail) := all _
theorem thermalTrip : Statement .thermalTrip := all _
theorem powerDown : Statement .powerDown := all _
theorem refclkLoss (k : Nat) : Statement (.refclkLoss k) := all _
theorem boot (flashOk : Bool) (bankOk : List Bool) : Statement (.boot flashOk bankOk) := all _
theorem hostLinkTrain (lanes : Nat) : Statement (.hostLinkTrain lanes) := all _
theorem hbmStackTrain (stack : Nat) (ok : Bool) (banks spares : Nat) :
    Statement (.hbmStackTrain stack ok banks spares) := all _
theorem fabricPortTrain (port : Nat) : Statement (.fabricPortTrain port) := all _
theorem fumaroleStart : Statement .fumaroleStart := all _
theorem partnerTrainingDetect (port : Nat) : Statement (.partnerTrainingDetect port) := all _
theorem creditReturn (port ackSeq : Nat) (credits : List Nat) : Statement (.creditReturn port ackSeq credits) := all _
theorem cardRateChange (rate : Nat) : Statement (.cardRateChange rate) := all _
theorem testPortInstruction (code : BitVec 8) : Statement (.testPortInstruction code) := all _
theorem grantRelease (c : CtxId) (spn : Nat) : Statement (.grantRelease c spn) := all _
theorem fwCommitDone (bank : Nat) (ok : Bool) : Statement (.fwCommitDone bank ok) := all _
theorem prefixInsertDone (seq : Nat) : Statement (.prefixInsertDone seq) := all _

end Sys2Proof.Laws.HeaderWidths
end

