-- ==== Sys2Proof/Tests/Slice0.lean ====
section
/-!
SUPPORT. Sys2Proof/Tests/Slice0.lean: the smoke tests of WellFormed (a term that breaks each check is refused), tests of single
steps and operations against values of the spec or of a published standard, and the witnesses: for each statement with
hypotheses a concrete state and operands that meet them, clause by clause, at the ends of their ranges where they have any.
A hypothesis that some device or value results stands here as `isOk` or `isSome`. No witness is given where a hypothesis
rests on an opaque signature check alone (the commits of a plan, of firmware and of a package).
-/

open Sys2Proof Sys2Proof.Machine
namespace Sys2Proof.Tests

set_option Elab.async false

/-! ## WellFormed -/

/-- Zero bytes. -/
def z (n : Nat) : List Byte := List.replicate n 0

/-- Operands of widths that pass. -/
def hd : CmdHdr := ⟨1023, 255, 0, 0, 0⟩
/-- A command channel has 10 bits (R544). -/
def badHd : CmdHdr := { hd with chan := 1024 }
def samp : Sampling := ⟨0, 0, 0, 0, 0, 0, 0, 0, 0, 0, 0, 0, 0, 0, 0⟩
def sto : StoreParams := ⟨0, 0, 0, 0, 0, 0, 0, 0, 0, 0, 0⟩
def qry : QueryParams := ⟨0, 0, 0, 0, 0, 0, 0⟩
def shp : ShaperCfg := ⟨0, 0, 0, 0, 0, 0, List.replicate 5 (0, 0)⟩
def lau : LaunchDesc := ⟨0, 0, 0, 0, 0, 0, 0, 0, 0, 0⟩
def obj : ObjEntry := ⟨0, 0, 0⟩
def msg : FabMsg := ⟨0, 0, 0, 0, 0, 32, 0, 0, 0, []⟩
def lah : LahMsg := ⟨0, 0, 0, 0, 0, 0, 0, true, []⟩
/-- A Vent context. -/
def ctx0 : CtxId := ⟨false, 0, 0⟩
def badSamp : Sampling := { samp with topK := 2 ^ 16 }
def badSto : StoreParams := { sto with dim := 2 ^ 16 }
def badQry : QueryParams := { qry with k := 2 ^ 16 }
def badCfg : PartCfg := { PartCfg.initial with cmdShare := 256 }
def badShp : ShaperCfg := { shp with flow := 256 }
def badLau : LaunchDesc := { lau with partition := 256 }
def badMsg : FabMsg := { msg with length := 33 }
def badLah : LahMsg := { lah with epoch := 2 ^ 40 }
def badCtx : CtxId := ⟨false, 4096, 0⟩

/-- Each field of an operand structure is held to its width. -/
theorem test_wf_structures_refuse :
    ([{ hd with chan := 2 ^ 10 }.wf, { hd with part := 2 ^ 8 }.wf, { hd with tag := 2 ^ 32 }.wf,
     { hd with seq := 2 ^ 48 }.wf, { hd with tick := 2 ^ 64 }.wf, { samp with cls := 2 ^ 8 }.wf,
     { samp with newGen := 2 ^ 8 }.wf, { samp with streamOpt := 2 ^ 8 }.wf, { samp with penScope := 2 ^ 8 }.wf,
     { samp with topK := 2 ^ 16 }.wf, { samp with grammar := 2 ^ 16 }.wf, { samp with seed := 2 ^ 64 }.wf,
     { samp with hostTopn := 2 ^ 16 }.wf, { samp with hostDeadline := 2 ^ 32 }.wf, { sto with metric := 2 ^ 8 }.wf,
     { sto with rerankFmt := 2 ^ 8 }.wf, { sto with rounds := 2 ^ 8 }.wf, { sto with dim := 2 ^ 16 }.wf,
     { sto with dsub := 2 ^ 8 }.wf, { sto with deg0 := 2 ^ 8 }.wf, { sto with deg := 2 ^ 8 }.wf,
     { sto with efBuild := 2 ^ 16 }.wf, { sto with capacity := 2 ^ 32 }.wf, { sto with mergeAt := 2 ^ 32 }.wf,
     { sto with sideMax := 2 ^ 32 }.wf, { qry with k := 2 ^ 16 }.wf, { qry with count := 2 ^ 16 }.wf,
     { qry with ef := 2 ^ 16 }.wf, { qry with rerank := 2 ^ 16 }.wf, { qry with deadline := 2 ^ 16 }.wf,
     { qry with filtMask := 2 ^ 64 }.wf, { qry with filtValue := 2 ^ 64 }.wf,
     { (PartCfg.initial) with pflags := 2 ^ 8 }.wf, { (PartCfg.initial) with capMode := 2 ^ 8 }.wf,
     { (PartCfg.initial) with publicDomain := 2 ^ 8 }.wf, { (PartCfg.initial) with rtvStores := 2 ^ 8 }.wf,
     { (PartCfg.initial) with slotMask := 2 ^ 16 }.wf, { (PartCfg.initial) with sessBase := 2 ^ 32 }.wf,
     { (PartCfg.initial) with sessCount := 2 ^ 32 }.wf, { (PartCfg.initial) with hbmFrames := 2 ^ 32 }.wf,
     { (PartCfg.initial) with tephraUnits := 2 ^ 32 }.wf, { (PartCfg.initial) with pfxBuckets := 2 ^ 32 }.wf,
     { (PartCfg.initial) with adpBase := 2 ^ 32 }.wf, { (PartCfg.initial) with adpCount := 2 ^ 32 }.wf,
     { (PartCfg.initial) with adpQuota := 2 ^ 32 }.wf, { (PartCfg.initial) with chanBase := 2 ^ 16 }.wf,
     { (PartCfg.initial) with chanCount := 2 ^ 16 }.wf, { (PartCfg.initial) with cmdShare := 2 ^ 8 }.wf,
     { shp with flowGroups := 2 ^ 8 }.wf, { shp with subBase := 2 ^ 16 }.wf, { shp with flow := 2 ^ 8 }.wf,
     { shp with subBytes := 2 ^ 64 }.wf, { shp with subCost := 2 ^ 32 }.wf, { shp with subBurst := 2 ^ 32 }.wf,
     { lau with package := 2 ^ 32 }.wf, { lau with pool := 2 ^ 32 }.wf, { lau with contexts := 2 ^ 32 }.wf,
     { lau with argBase := 2 ^ 64 }.wf, { lau with argStride := 2 ^ 32 }.wf, { lau with objCount := 2 ^ 32 }.wf,
     { lau with partition := 2 ^ 8 }.wf, { lau with budget := 2 ^ 64 }.wf, { lau with objList := 2 ^ 64 }.wf,
     { lau with tag := 2 ^ 64 }.wf, { obj with type := 2 ^ 8 }.wf, { obj with index := 2 ^ 32 }.wf,
     { obj with handle := 2 ^ 64 }.wf, { msg with dest := 2 ^ 32 }.wf, { msg with src := 2 ^ 32 }.wf,
     { msg with type := 2 ^ 8 }.wf, { msg with part := 2 ^ 8 }.wf, { msg with sub := 2 ^ 16 }.wf,
     { msg with length := 2 ^ 32 }.wf, { msg with tag := 2 ^ 32 }.wf, { msg with status := 2 ^ 16 }.wf,
     { msg with handle := 2 ^ 64 }.wf, { lah with src := 2 ^ 32 }.wf, { lah with type := 2 ^ 8 }.wf,
     { lah with tag := 2 ^ 32 }.wf, { lah with part := 2 ^ 8 }.wf, { lah with sub := 2 ^ 16 }.wf,
     { lah with seq := 2 ^ 32 }.wf, { lah with epoch := 2 ^ 40 }.wf, { shp with classes := [] }.wf,
     { shp with classes := [(2 ^ 32, 0), (0, 0), (0, 0), (0, 0), (0, 0)] }.wf,
     { shp with classes := [(0, 2 ^ 32), (0, 0), (0, 0), (0, 0), (0, 0)] }.wf, { msg with length := 33 }.wf,
     CtxId.wf ⟨true, 256, 0⟩, CtxId.wf ⟨true, 0, 4⟩, CtxId.wf ⟨false, 4096, 0⟩, CtxId.wf ⟨false, 0, 16⟩].all fun b => !b) = true := by decide +kernel

/-- Zero operands pass. -/
theorem test_wf_accepts :
    (([.sessionCreate hd 0 0 0 0 0 0 0, .sessionDestroy hd 0, .sessionFork hd 0 0, .sessionPark hd 0 0,
     .sessionSetSelect hd 0 0 0 0 0 0, .sessionSetAdapter hd 0 0, .sessionSetSampling hd 0 samp, .modelLoad hd 0 0,
     .modelData hd 0 0 [0], .modelCommit hd 0 (z 32), .modelUnload hd 0, .modelGrant hd 0 0, .modelBind hd 0 0 0,
     .switchPhaseEnd 0 none, .sinterFormatSet hd 0 0 0 0 0 0 0 0, .sinterMapSet hd 0 (z 128),
     .prefixInsert hd 0 0 0 0 [], .prefixAttach hd 0 0 [], .prefixAttachPhase 0, .prefixDomainConfig hd 0 0 0,
     .tokenize hd 0 0 [], .hostChoice hd 0 0 0, .stopSet hd 0 0 0 (List.replicate 32 0) (List.replicate 16 (0, z 64)),
     .vocabAssign hd 0 0, .storeCreate hd 0 sto, .storeDrop hd 0, .vecInsert hd 0 0 0 [], .vecDelete hd 0 0,
     .vecQuery hd 0 qry [], .queryComplete 0 0, .recoveryGroupSet hd 0 0 0 0 0 0 0, .failover hd, .takeover hd 0 0 0 0,
     .checkpointWrite hd 0 0, .checkpointRestore hd 0 0 0 0 0, .partitionConfig hd 0 PartCfg.initial,
     .partitionReset hd 0, .partitionResetResume 0, .partitionFence hd 0 0, .tierTargetConfig hd 0 0 0 0,
     .fabricRouteSet hd 0 0 0 0, .shaperConfig hd 0 shp, .shaperMode hd 0, .planLoad hd 0 0 0 [0], .planSwap hd 0,
     .kernelLaunch hd lau [], .hbmRetire hd 0, .attest hd (z 32), .attestDone 0, .keyDeliver hd 0 0 (z 1568) (z 48),
     .operatorKeySet hd (z 48), .latencyToleranceSet hd 0 0, .window 0 0 0, .packetArrival 0 [], .attnReq 0 0 msg,
     .laharDelta 0 0 lah, .epochCommit 0, .controlPageThaw 0, .stateDecode 0, .slotLost 0 false false,
     .codedRunRetry 0 0, .portTransmit 0, .trafficHandover 0 0, .writeGrantRequest ctx0 0 0 false 0,
     .summaryBuild 0 0 0, .bookBuild 0 0 0, .mergeRound 0, .bandRelocate 0, .refresh 0, .targetedRefresh 0 [],
     .rowRepair 0 0 0 false, .laneRemove 0 0, .laneRecalibrate 0 0 false, .portDown 0 0, .linkReplay 0 0,
     .ventInteger ctx0 .add 0 0 (.imm 0), .ventControl ctx0 .jump 0 0 0, .ventLoad ctx0 8 false 0 0 0,
     .ventStore ctx0 8 0 0 0, .ventAtomic ctx0 .illegal 0 0 0, .ventVector ctx0 .add .bf16 0 0 0,
     .ventConversion ctx0 false .bf16 .bf16 0 0, .yield ctx0, .deviceViewRequest ctx0 0 0, .mudpotWrite ctx0 0 0 [0],
     .i3cPrivateWrite 0 0, .i3cSetAddress 0, .setdasa 0 0, .registerWrite 0 0 4 0, .readClear 0 0, .manifestSeal 0 0,
     .refclkLoss 0, .brownout 0, .hostLinkTrain 0, .hbmStackTrain 0 false 0 0, .fabricPortTrain 0, .creditReturn 0 0 [],
     .grantRelease ctx0 0, .fwCommitDone 0 false, .gatherDataSend 8] : List Instr).all Instr.wf) = true := by decide +kernel

/-- An operand outside its width, one at a time. -/
theorem test_wf_refuses_1 :
    (([.sessionCreate hd (2 ^ 8) 0 0 0 0 0 0, .sessionCreate hd 0 (2 ^ 8) 0 0 0 0 0,
     .sessionCreate hd 0 0 (2 ^ 8) 0 0 0 0, .sessionCreate hd 0 0 0 (2 ^ 32) 0 0 0,
     .sessionCreate hd 0 0 0 0 0 (2 ^ 16) 0, .sessionCreate hd 0 0 0 0 0 0 (2 ^ 16), .sessionCreate badHd 0 0 0 0 0 0 0,
     .sessionDestroy hd (2 ^ 64), .sessionFork hd (2 ^ 64) 0, .sessionFork hd 0 (2 ^ 64), .sessionPark hd (2 ^ 64) 0,
     .sessionPark hd 0 (2 ^ 8), .sessionSetSelect hd (2 ^ 64) 0 0 0 0 0, .sessionSetSelect hd 0 (2 ^ 8) 0 0 0 0,
     .sessionSetSelect hd 0 0 (2 ^ 8) 0 0 0, .sessionSetSelect hd 0 0 0 (2 ^ 16) 0 0,
     .sessionSetSelect hd 0 0 0 0 (2 ^ 16) 0, .sessionSetAdapter hd (2 ^ 64) 0, .sessionSetAdapter hd 0 (2 ^ 32),
     .sessionSetSampling hd (2 ^ 64) samp, .sessionSetSampling hd 0 badSamp, .modelLoad hd (2 ^ 32) 0,
     .modelLoad hd 0 (2 ^ 32), .modelData hd (2 ^ 32) 0 [0], .modelData hd 0 (2 ^ 32) [0], .modelData hd 0 0 [],
     .modelData hd 0 0 (z 65537), .modelCommit hd (2 ^ 32) (z 32), .modelCommit hd 0 [], .modelUnload hd (2 ^ 32),
     .modelGrant hd (2 ^ 8) 0, .modelBind hd (2 ^ 8) 0 0, .modelBind hd 0 (2 ^ 8) 0, .modelBind hd 0 0 (2 ^ 8),
     .switchPhaseEnd (2 ^ 6) none, .sinterMapSet hd (2 ^ 8) (z 128), .sinterMapSet hd 0 [],
     .prefixInsert hd (2 ^ 64) 0 0 0 [], .prefixInsert hd 0 (2 ^ 8) 0 0 [], .prefixInsert hd 0 0 (2 ^ 8) 0 []] : List Instr).all fun i => !i.wf) = true := by decide +kernel

/-- An operand outside its width, one at a time. -/
theorem test_wf_refuses_2 :
    (([.prefixInsert hd 0 0 0 (2 ^ 32) [], .prefixAttach hd (2 ^ 64) 0 [], .prefixAttach hd 0 (2 ^ 32) [],
     .prefixAttachPhase (2 ^ 48), .prefixDomainConfig hd (2 ^ 8) 0 0, .prefixDomainConfig hd 0 (2 ^ 8) 0,
     .prefixDomainConfig hd 0 0 (2 ^ 32), .tokenize hd (2 ^ 64) 0 [], .tokenize hd 0 (2 ^ 8) [],
     .hostChoice hd (2 ^ 64) 0 0, .hostChoice hd 0 (2 ^ 32) 0, .hostChoice hd 0 0 (2 ^ 32),
     .stopSet hd (2 ^ 64) 0 0 (List.replicate 32 0) (List.replicate 16 (0, z 64)),
     .stopSet hd 0 (2 ^ 8) 0 (List.replicate 32 0) (List.replicate 16 (0, z 64)),
     .stopSet hd 0 0 (2 ^ 8) (List.replicate 32 0) (List.replicate 16 (0, z 64)),
     .stopSet hd 0 0 0 [] (List.replicate 16 (0, z 64)), .stopSet hd 0 0 0 (List.replicate 32 0) [],
     .vocabAssign hd (2 ^ 8) 0, .vocabAssign hd 0 (2 ^ 8), .storeCreate hd (2 ^ 8) sto, .storeCreate hd 0 badSto,
     .storeDrop hd (2 ^ 32), .vecInsert hd (2 ^ 32) 0 0 [], .vecInsert hd 0 (2 ^ 16) 0 [],
     .vecInsert hd 0 0 (2 ^ 64) [], .vecDelete hd (2 ^ 32) 0, .vecDelete hd 0 (2 ^ 64), .vecQuery hd (2 ^ 32) qry [],
     .vecQuery hd 0 badQry [], .queryComplete (2 ^ 48) 0, .queryComplete 0 (2 ^ 16),
     .recoveryGroupSet hd (2 ^ 32) 0 0 0 0 0 0, .recoveryGroupSet hd 0 (2 ^ 8) 0 0 0 0 0,
     .recoveryGroupSet hd 0 0 (2 ^ 8) 0 0 0 0, .recoveryGroupSet hd 0 0 0 (2 ^ 16) 0 0 0,
     .recoveryGroupSet hd 0 0 0 0 (2 ^ 32) 0 0, .recoveryGroupSet hd 0 0 0 0 0 (2 ^ 32) 0,
     .recoveryGroupSet hd 0 0 0 0 0 0 (2 ^ 16), .failover badHd, .takeover hd (2 ^ 32) 0 0 0] : List Instr).all fun i => !i.wf) = true := by decide +kernel

/-- An operand outside its width, one at a time. -/
theorem test_wf_refuses_3 :
    (([.takeover hd 0 (2 ^ 32) 0 0, .takeover hd 0 0 (2 ^ 40) 0, .takeover hd 0 0 0 (2 ^ 8),
     .checkpointWrite hd (2 ^ 40) 0, .checkpointWrite hd 0 (2 ^ 8), .checkpointRestore hd (2 ^ 32) 0 0 0 0,
     .checkpointRestore hd 0 (2 ^ 8) 0 0 0, .checkpointRestore hd 0 0 (2 ^ 8) 0 0,
     .checkpointRestore hd 0 0 0 (2 ^ 8) 0, .checkpointRestore hd 0 0 0 0 (2 ^ 8),
     .partitionConfig hd (2 ^ 8) PartCfg.initial, .partitionConfig hd 0 badCfg, .partitionReset hd (2 ^ 8),
     .partitionResetResume (2 ^ 8), .partitionFence hd (2 ^ 8) 0, .partitionFence hd 0 (2 ^ 8),
     .tierTargetConfig hd (2 ^ 8) 0 0 0, .tierTargetConfig hd 0 (2 ^ 8) 0 0, .tierTargetConfig hd 0 0 (2 ^ 32) 0,
     .tierTargetConfig hd 0 0 0 (2 ^ 32), .fabricRouteSet hd (2 ^ 16) 0 0 0, .fabricRouteSet hd 0 (2 ^ 8) 0 0,
     .fabricRouteSet hd 0 0 (2 ^ 8) 0, .fabricRouteSet hd 0 0 0 (2 ^ 32), .shaperConfig hd (2 ^ 8) shp,
     .shaperConfig hd 0 badShp, .shaperMode hd (2 ^ 8), .planLoad hd (2 ^ 8) 0 0 [0], .planLoad hd 0 (2 ^ 32) 0 [0],
     .planLoad hd 0 0 (2 ^ 32) [0], .planSwap hd (2 ^ 64), .kernelLaunch hd badLau [], .hbmRetire hd (2 ^ 8),
     .attest hd [], .attestDone (2 ^ 8), .keyDeliver hd (2 ^ 8) 0 (z 1568) (z 48),
     .keyDeliver hd 0 (2 ^ 16) (z 1568) (z 48), .keyDeliver hd 0 0 [] (z 48), .keyDeliver hd 0 0 (z 1568) [],
     .operatorKeySet hd []] : List Instr).all fun i => !i.wf) = true := by decide +kernel

/-- An operand outside its width, one at a time. -/
theorem test_wf_refuses_4 :
    (([.latencyToleranceSet hd (2 ^ 8) 0, .latencyToleranceSet hd 0 (2 ^ 32), .window (2 ^ 15) 0 0, .window 0 (2 ^ 16) 0,
     .window 0 0 (2 ^ 32), .packetArrival (2 ^ 15) [], .attnReq 0 (2 ^ 15) msg, .attnReq 56 0 msg, .attnReq 0 0 badMsg,
     .laharDelta 0 (2 ^ 15) lah, .laharDelta 56 0 lah, .laharDelta 0 0 badLah, .epochCommit (2 ^ 40),
     .controlPageThaw (2 ^ 64), .stateDecode (2 ^ 32), .slotLost 16 false false, .codedRunRetry (2 ^ 24) 0,
     .codedRunRetry 0 (2 ^ 8), .portTransmit 57, .trafficHandover (2 ^ 18) 0,
     .writeGrantRequest ctx0 (2 ^ 32) 0 false 0, .writeGrantRequest ctx0 0 0 false (2 ^ 15),
     .writeGrantRequest ctx0 0 6291456 false 0, .writeGrantRequest badCtx 0 0 false 0, .summaryBuild (2 ^ 24) 0 0,
     .summaryBuild 0 (2 ^ 8) 0, .bookBuild (2 ^ 8) 0 0, .bookBuild 0 0 (2 ^ 8), .bookBuild 0 32 0, .mergeRound (2 ^ 32),
     .bandRelocate 6291456, .refresh (2 ^ 8), .targetedRefresh (2 ^ 8) [], .rowRepair (2 ^ 8) 0 0 false,
     .rowRepair 0 (2 ^ 8) 0 false, .rowRepair 0 0 (2 ^ 16) false, .laneRemove 0 (2 ^ 4), .laneRemove 57 0,
     .laneRecalibrate 0 (2 ^ 4) false, .laneRecalibrate 57 0 false] : List Instr).all fun i => !i.wf) = true := by decide +kernel

/-- An operand outside its width, one at a time. -/
theorem test_wf_refuses_5 :
    (([.portDown 0 (2 ^ 15), .portDown 56 0, .linkReplay 0 (2 ^ 24), .linkReplay 57 0,
     .ventInteger ctx0 .add 32 0 (.imm 0), .ventInteger ctx0 .add 0 32 (.imm 0), .ventInteger badCtx .add 0 0 (.imm 0),
     .ventInteger ctx0 .add 0 0 (.reg 32), .ventControl ctx0 .jump 32 0 0, .ventControl ctx0 .jump 0 32 0,
     .ventControl badCtx .jump 0 0 0, .ventLoad ctx0 8 false 32 0 0, .ventLoad ctx0 8 false 0 32 0,
     .ventLoad badCtx 8 false 0 0 0, .ventStore ctx0 8 32 0 0, .ventStore ctx0 8 0 32 0, .ventStore badCtx 8 0 0 0,
     .ventAtomic ctx0 .illegal 32 0 0, .ventAtomic ctx0 .illegal 0 32 0, .ventAtomic ctx0 .illegal 0 0 32,
     .ventAtomic badCtx .illegal 0 0 0, .ventVector ctx0 .add .bf16 32 0 0, .ventVector ctx0 .add .bf16 0 32 0,
     .ventVector ctx0 .add .bf16 0 0 32, .ventVector badCtx .add .bf16 0 0 0,
     .ventConversion ctx0 false .bf16 .bf16 32 0, .ventConversion ctx0 false .bf16 .bf16 0 32,
     .ventConversion badCtx false .bf16 .bf16 0 0, .yield badCtx, .deviceViewRequest ctx0 32 0,
     .deviceViewRequest ctx0 0 32, .deviceViewRequest badCtx 0 0, .mudpotWrite ctx0 (2 ^ 32) 0 [0],
     .mudpotWrite badCtx 0 0 [0], .i3cPrivateWrite (2 ^ 32) 0, .i3cSetAddress (2 ^ 32), .setdasa (2 ^ 7) 0,
     .setdasa 0 (2 ^ 7), .registerWrite 0 (2 ^ 32) 4 0, .registerWrite 10 0 4 0] : List Instr).all fun i => !i.wf) = true := by decide +kernel

/-- An operand outside its width, one at a time. -/
theorem test_wf_refuses_6 :
    (([.readClear 0 (2 ^ 32), .readClear 10 0, .manifestSeal 10 0, .refclkLoss 4, .brownout 5, .hostLinkTrain (2 ^ 16),
     .hbmStackTrain (2 ^ 3) false 0 0, .fabricPortTrain 56, .creditReturn 0 (2 ^ 24) [], .creditReturn 57 0 [],
     .grantRelease ctx0 (2 ^ 32), .grantRelease badCtx 0, .fwCommitDone (2 ^ 1) false, .registerWrite 0 0 3 0,
     .ventLoad ctx0 3 false 0 0 0, .ventStore ctx0 3 0 0 0, .vecInsert hd 0 1 0 [],
     .vecQuery hd 0 { qry with count := 1 } [], .packetArrival 0 [0], .mudpotWrite ctx0 0 65536 [0],
     .targetedRefresh 0 [(2 ^ 8, 0, 0)], .targetedRefresh 0 [(0, 2 ^ 16, 0)],
     .stopSet hd 0 0 0 (List.replicate 32 (2 ^ 32)) (List.replicate 16 (0, z 64)),
     .stopSet hd 0 0 0 (List.replicate 32 0) (List.replicate 16 (2 ^ 8, z 64)),
     .stopSet hd 0 0 0 (List.replicate 32 0) (List.replicate 16 (0, [])), .prefixInsert hd 0 0 0 0 [2 ^ 32],
     .prefixAttach hd 0 0 [2 ^ 32], .switchPhaseEnd 0 (some 64), .sinterFormatSet hd 256 0 0 0 0 0 0 0,
     .sinterFormatSet hd 0 0 0 0 0 0 0 256, .kernelLaunch hd lau [{ obj with type := 256 }]] : List Instr).all fun i => !i.wf) = true := by decide +kernel

/-! ## Witnesses -/


/-- A serving device after reset; partition 0 has five session entries. -/
def sv : State := { State.reset with dev := { State.reset.dev with
  obs.stage := 2, parts := [(0, { Part.zero with cfg := { PartCfg.initial with sessCount := 5 } })] } }

/-- `sv` with pseudo-channel 0 ONLINE, so that frames can be allocated. -/
def room : State := { sv with dev.hbm.stks := [(0, ⟨true, 1, 0, 0, false⟩)], dev.hbm.pcs := [(0, ⟨1, false, none, none, 0⟩)] }

/-- A command of the operator. -/
def op : CmdHdr := ⟨0, 0, 1, 7, 0⟩

/-- `room` with entry 0 ACTIVE, its control page in frame 3. -/
def live0 : State := { room with
  dev.sess := [(0, { SessEnt.free 0 with st := .active, ctrlSpn := 1 })]
  dev.pg.ptes := [(1, ⟨.hbm, false, false, false, false, false, 0, 3, 0⟩)]
  dev.pg.frames := [(3, ⟨1, .valid, false, false, 0, 0, 0, true, 0⟩)] }

/-- A small frame plan. -/
def plan0 : Plan :=
  { groupSize := 1, planId := 5, retiredMaskId := 0, cutoff := 0, thawBudget := 0, bgAssign := List.replicate 8 (2 ^ 64 - 1), slots := [],
    pairing := [], pools := [], openPools := [], rtvPool := 0, retiredPipes := [], retiredClusters := [], retiredPcs := [0], ledgerBudget := 0, inventoryOk := true, windowBytes := 0, arenaBytes := 4096,
    captureFrames := [], sigHead := [] }

/-- A slot of the whole tick t. -/
def slotAt (t : Nat) (c : SlotClass) (k : UnitKind) (activity : Nat) : Slot :=
  ⟨k, 0, c, t % 64, 0, 30720, [], 0, 0, 0, 0, List.range 8, [], [], [], none, none, activity⟩

/-- A plan whose tick t has a slot of every service, of every background activity and of Vent cluster 0. -/
def busyPlan (t : Nat) : Plan := { plan0 with
  slots := ([.mover, .codec, .sampler, .adc, .spmPort, .prefixIndex, .modelEngine, .snapshotEngine, .mgmtCore].map fun k =>
    slotAt t .svc k 0) ++ ((List.range 8).map fun a => slotAt t .bg .channel a) ++ [slotAt t .kernel .ventCluster 0]
  pools := [[0], [0]], openPools := [1] }

/-- A device under that plan, whose manifest for this tick came in time. -/
def planned (s : State) : State := { s with dev.plan.active := some (busyPlan s.dev.tick), dev.plan.missed := false }

theorem witness_RowsWaitForTheirDevice :
    let s : State := { State.reset with pins.tripped := true }
    pinRow .tickBoundary = false ∧ s.pins.running = false ∧ earlyRow .manifestPrepare = false ∧ s.dev.obs.stage ≠ 2 := by
  decide +kernel

theorem witness_StepsKeepInvariant : Machine.Inv State.reset ∧ step State.reset = .next State.reset := by
  refine ⟨⟨fun h => absurd h (by decide), rfl⟩, rfl⟩

theorem witness_TickCounterCounts :
    (let s : State := { State.reset with pins.released := false }
     s.pins.legal = true ∧ s.pins.powered = true ∧ s.pins.released = false) ∧ State.reset.pins.running = true ∧
    (let d := { sv.dev with tick := 2 ^ 64 - 1 }; d.tick < 2 ^ 64) := by decide +kernel

theorem witness_PinsStartAndStop :
    (let s : State := { State.reset with pins.released := false, pins.powered := false }; s.pins.powered = false) ∧
    (let s : State := { State.reset with pins.released := false }; s.pins.powered = true ∧ s.pins.released = false) ∧
    (let s := State.reset; let r := 4; s.pins.released = true ∧ r ≤ 4 ∧ s.pins.running = true ∧ s.pins.powered = true) := by
  decide +kernel

theorem witness_BringupRowsComplete :
    (let s : State := State.reset
     s.pins.running = true ∧ s.dev.obs.stage = 1 ∧ bits s.dev.pwr.straps.toNat 15 5 = 0 ∧
     bankPasses s.dev [true, false] s.dev.nv.bootBank = true) ∧
    (let s : State := { State.reset with dev.nv.bankB := ⟨true, 1, 0, 0, []⟩ }
     bankPasses s.dev [false, true] s.dev.nv.bootBank = false ∧ bankPasses s.dev [false, true] (1 - s.dev.nv.bootBank) = true) ∧
    (let s := room; let k := 7; k ≤ 7 ∧ stackSettled s.dev k = false ∧
     (List.range 1).all (stackSettled s.dev) = true ∧ (stackAt s.dev 1).tries < 2 ∧ stackSettled s.dev 1 = false) ∧
    (let s : State := { room with dev.plan.fwPlan := some plan0, dev.fab.ports := [(56, { port sv.dev 56 with st := 2 })] }
     let p := plan0
     s.dev.plan.active = none ∧ s.dev.plan.fwPlan = some p ∧ (port s.dev 56).st = 2 ∧ stackTrained s.dev 0 = true) ∧
    (let s := sv; let k := 3; k ≤ 3 ∧ s.dev.pwr.refLost.contains k = false) ∧
    (let s : State := { sv with dev.pwr.waking := true, dev.pwr.st := 2, dev.reg.vals := [(Addr.FAB_PORT_CTRL 55, 0x80000000)] }
     let n := 55
     s.dev.pwr.waking = true ∧ s.dev.pwr.st = 2 ∧ n < 56 ∧ portEnabled s.dev n = true) ∧
    (let s : State := { sv with dev.pwr.waking := true, dev.pwr.st := 1 }
     s.dev.pwr.waking = true ∧ s.dev.pwr.st ≠ 2) := by decide +kernel

/-- A model that is READY for every partition, with vocabulary 0. -/
def model0 : Model :=
  { img := ⟨2, 128, [9], []⟩, desc := some ⟨1, 1, 0, [], 0⟩, mask := 1, vocab := some 0, map := [] }

/-- `room` with that model in slot 31. -/
def create0 : State := { room with dev.mdl.slots := [(31, model0)] }

/-- A draw of a seed moves the generator alone. -/
theorem drawSeed_dev (d : Dev) : ∃ n, (drawSeed d).2 = { d with obs.drbg := n } := ⟨_, rfl⟩

theorem witness_SessionCreateTakesLowestEntry :
    let s := create0
    let h := op; let model := 31; let mode := 0; let tau : F32 := 0; let topk := 0; let sink := 0; let recent := 0
    let adapter := 0; let ver := 0; let i := 0
    Issued s h ∧ modelUsable s.dev h.part model = true ∧
    firstFail (selectChecks mode tau.toNat topk sink recent (7, 11, 12, 8, 13)) = none ∧
    adapterVersion s.dev h.part adapter model = some ver ∧
    (s.dev.pwr.fumarole && (mode != 0 || gated s.dev h.part)) = false ∧
    gatedAlone s.dev h.part = false ∧ keysMissing s.dev h.part = false ∧ freeEntryOf s.dev h.part = some i ∧
    freeEntryOf { s.dev with parts := [(0, Part.zero)] } h.part = none := by
  dsimp only [Issued, Serving]
  decide +kernel

/-- Whatever is drawn, the session is created. -/
theorem witness_SessionCreateRuns :
    let s := create0; let h := op; let i := 0; let model := 31; let mode := 0; let tau : F32 := 0; let topk := 0
    let sink := 0; let recent := 0; let adapter := 0; let ver := 0
    (createSession (drawSeed s.dev).2 h i model adapter ver (drawSeed s.dev).1
        { Ctrl.initial (drawSeed s.dev).1 h.chan with
          tau := tau, topkK := topk, sinkPages := sink, recentPages := recent } mode).isOk = true := by
  dsimp only
  obtain ⟨n, h⟩ := drawSeed_dev create0.dev
  rw [h]
  cbv

theorem witness_SessionCommandsComplete :
    let s := live0; let h := op; let handle := handleOf s.dev 0; let i := 0
    (h.part = 0 ∨ (hPart handle = h.part ∧ fencedFor s.dev h = false)) ∧ live s.dev handle = some i ∧ OnSession s h handle i ∧
    (let mode := 2; let sink := 64; let topk := 4096; let recent := 256; let tau : F32 := 0
     firstFail (selectChecks mode tau.toNat topk sink recent (7, 12, 9, 8, 10)) = none ∧
     (attaching (touched s.dev i) i || stepInProgress (touched s.dev i) i || (s.dev.pwr.fumarole && mode != 0)) = false ∧
     CtrlReady (touched s.dev i) i ∧
     (writeEvent (touched s.dev i) i (ownerOf (touched s.dev i) i) (sess (touched s.dev i) i).ctrlSpn false).isOk = true) ∧
    adapterVersion (touched s.dev i) h.part 0 (sess s.dev i).model = some 0 := by
  dsimp only [OnSession, Issued, Serving, CtrlReady]
  decide +kernel

theorem witness_DestroyedEntryMovesOn :
    (let s := live0; let h := op; let handle := handleOf s.dev 0; let i := 0
     Serving s ∧ (h.part = 0 ∨ (hPart handle = h.part ∧ fencedFor s.dev h = false)) ∧ live s.dev handle = some i ∧
     (sess s.dev i).quar = false ∧ (sess s.dev i).gen ≠ 0xFFFFFFFF) ∧
    (let s : State := { live0 with dev.sess := [(0, { sess live0.dev 0 with gen := 0xFFFFFFFF })] }
     let handle := handleOf s.dev 0; let i := 0
     live s.dev handle = some i ∧ (sess s.dev i).gen = 0xFFFFFFFF) ∧ freeEntryOf live0.dev 0 = some 1 := by
  dsimp only [Serving]
  decide +kernel

/-- `live0` with a tier key and a bound target slot. -/
def tierUp : State := { live0 with
  dev.parts := [(0, { (part live0.dev 0) with tierKeys := [(1, 0, [1])], replKeys := [(1, [2])], cfg.slotMask := 1 })]
  dev.tier := [(0, ⟨1, 5, 0xFF, 1024, 0, 0, 0, [], [], [], none⟩)] }

theorem witness_ForksAndParksComplete :
    (let s := live0; let h := op; let handle := handleOf s.dev 0; let i := 0; let c := 1; let seed := 3
     OnSession s h handle i ∧ forkParkState (sess s.dev i) = none ∧
     (gatedAlone (touched s.dev i) h.part || attaching (touched s.dev i) i || stepBars (touched s.dev i) i) = false ∧
     inFlight (touched s.dev i) (sess (touched s.dev i) i) = false ∧
     ctrlPlace (touched s.dev i) (sess (touched s.dev i) i) = .here ∧ freeEntryOf (touched s.dev i) h.part = some c ∧
     (forkInto (touched s.dev i) h i c seed none).isOk = true) ∧
    (let s := planned { live0 with dev.pg.forks := [⟨op, 0, 3, some 1, false⟩] }
     let h := op
     Serving s ∧ forkOf s.dev h.seq = some ⟨h, 0, 3, some 1, false⟩ ∧ svcSlot s.dev .spmPort h.part = true ∧
     (s.dev.pfx.jobs.any fun j => j.cmd == h) = false) ∧
    (let s := tierUp; let h := op; let handle := handleOf s.dev 0; let i := 0; let pflags := 0
     OnSession s h handle i ∧ pflags ≤ 1 ∧ s.dev.pwr.fumarole = false ∧ (part s.dev h.part).tierKeys ≠ [] ∧
     forkParkState (sess s.dev i) = none ∧ (sess s.dev i).st ≠ .parked ∧ (forking (touched s.dev i) i || (!bit pflags 0 && codecWaits (touched s.dev i) i)) = false ∧
     (attaching (touched s.dev i) i || stepBars (touched s.dev i) i) = false ∧
     (let need := beforePark (touched s.dev i) i (bit pflags 0)
      (reserveUnits (touched s.dev i) h.part (unitsNeeded need (parkList need i (bit pflags 0)))).2 = none)) ∧
    (let s : State := { tierUp with
       dev.parts := tierUp.dev.parts ++ [(1, { Part.zero with cfg.capMode := 1, cfg.hbmFrames := 6291400 })] }
     let i := 0
     s.dev.pwr.fumarole = false ∧ poolFree s.dev < lim s.dev Addr.TMC_POOL_LOW ∧
     (let a := { s.dev with pg.ageParking := true }
      agedSessions a = [] ++ i :: [] ∧ ageable a i = true ∧
      (let r := reserveUnits a (ownerOf a i) (unitsNeeded (beforePark a i false) (parkList (beforePark a i false) i false))
       r.2 = none ∧ (sess (beforePark r.1 i false) i).st = .active))) := by
  dsimp only [OnSession, Issued, Serving]
  decide +kernel

theorem witness_RegisterWrites :
    (let s := sv; let m := 0; let a := 0x400004; let row : RegRow := ⟨0x400004, 4, 1, .rw, true, 0xc8⟩; let v : Word := 4096
     s.pins.running = true ∧ answers s.dev m = true ∧ a % 4 = 0 ∧ regRowAt a = some row ∧ row.kind = .rw ∧
     blockAnswers s.dev a = true ∧ (row.prv && !privileged m) = false ∧ isLo a = false ∧ isHi a = false ∧
     a ≠ Addr.ELG_CAP_CTRL ∧ a ≠ Addr.TSH_SAMPLE_CTRL ∧ rwOk s.dev a v.toNat = true ∧
     0x400005 % 4 ≠ 0 ∧ regRowAt 0x4 = none ∧ rwOk s.dev a 4097 = false ∧ privileged 2 = false ∧ answers s.dev 2 = true) ∧
    (let s := State.reset; let a := 0x400004; (regRowAt a).isSome = true ∧ blockAnswers s.dev a = false) := by decide +kernel

theorem witness_ErrorLogEntryWritten :
    let d : Dev := { sv.dev with reg.errlog := [(0, ⟨0, 0x0305, 0x40, 0xFF, 0, 0, 0, 1⟩)], reg.wptr := 4096 }
    ∃ e, tget d.reg.errlog (d.reg.wptr % 4096) = some e ∧ errUnconsumed d e = true :=
  ⟨⟨0, 0x0305, 0x40, 0xFF, 0, 0, 0, 1⟩, by decide +kernel⟩

theorem witness_PostedWritesTakeTurns :
    let s := sv; let m := 0; let a := 0x800004; let row : RegRow := ⟨0x800004, 4, 1, .wp, true, 0⟩; let v : Word := 8
    s.pins.running = true ∧ answers s.dev m = true ∧ a % 4 = 0 ∧ regRowAt a = some row ∧ row.kind = .wp ∧
    blockAnswers s.dev a = true ∧ (row.prv && !privileged m) = false ∧ domainBusy s.dev (domainOf a) = false ∧
    wpOk s.dev a v.toNat = true ∧ domainOf a = 0 ∧
    (let t : State := { s with dev.reg.posted := [(0, (a, v))] }
     domainBusy t.dev (domainOf a) = true ∧ tget t.dev.reg.posted 0 = some (a, v)) := by decide +kernel

theorem witness_PairsAreConsistent :
    (let s := sv; let m := 9; let a := Addr.FSQ_TICK_CNT_LO
     let r1 : RegRow := ⟨0x100000, 4, 1, .ro, false, 0⟩; let r2 : RegRow := ⟨0x100004, 4, 1, .ro, false, 0⟩
     s.pins.running = true ∧ answers s.dev m = true ∧ a % 4 = 0 ∧ isLo a = true ∧ isHi a = false ∧
     isLo (a + 4) = false ∧ regRowAt a = some r1 ∧ regRowAt (a + 4) = some r2 ∧
     blockAnswers s.dev a = true ∧ blockAnswers s.dev (a + 4) = true ∧
     (r1.prv && !privileged m) = false ∧ (r2.prv && !privileged m) = false ∧ r1.kind = .ro ∧ r2.kind = .ro ∧
     isFree a = false ∧ tget s.dev.reg.shadow (ownKey m (a + 4)) = none) ∧
    (let s : State := { sv with dev.reg.holding := [(ownKey 0 Addr.ELG_CAP_BASE_LO, 7)] }; let m := 0; let a := Addr.ELG_CAP_BASE_LO
     let r1 : RegRow := ⟨0x200000, 4, 1, .rw, true, 0⟩; let r2 : RegRow := ⟨0x200004, 4, 1, .rw, true, 0⟩; let w : Word := 7
     s.pins.running = true ∧ answers s.dev m = true ∧ a % 4 = 0 ∧ isLo a = true ∧ isHi a = false ∧
     isLo (a + 4) = false ∧ regRowAt a = some r1 ∧ regRowAt (a + 4) = some r2 ∧
     blockAnswers s.dev a = true ∧ blockAnswers s.dev (a + 4) = true ∧
     (r1.prv && !privileged m) = false ∧ (r2.prv && !privileged m) = false ∧ r1.kind = .rw ∧ r2.kind = .rw ∧
     tget s.dev.reg.holding (ownKey m a) = some w ∧ tsorted s.dev.reg.holding = true ∧
     tget sv.dev.reg.holding (ownKey m a) = none) := by decide +kernel

theorem witness_ClearingReadsAndRingWrites :
    (let s := sv; let m := 0; let a := Addr.SPM_QUAR_CNT
     s.pins.running = true ∧ answers s.dev m = true ∧ a % 4 = 0 ∧ ((regRowAt a).map (·.kind)) = some .rc ∧
     blockAnswers s.dev a = true ∧ isLo a = false ∧ isHi a = false ∧ isFree a = false ∧ a ≠ Addr.TSH_HWM_DEPTH ∧
     a ≠ Addr.TSH_HWM_DELAY ∧ isPhysicalCount a = false ∧ ((regRowAt Addr.TSH_HWM_DEPTH).map (·.kind)) = some .rc ∧ isFree Addr.TSH_HWM_DEPTH = false ∧
     ((regRowAt Addr.TSH_HWM_DELAY).map (·.kind)) = some .rc ∧ isFree Addr.TSH_HWM_DELAY = false) ∧
    (let s := sv; let m := 0; let a := Addr.TOK_CACHE_MISS_CNT; let b := Addr.OBS_MBOX_STATUS
     answers s.dev m = true ∧ a % 4 = 0 ∧ ((regRowAt a).map (·.kind)) = some .rc ∧ blockAnswers s.dev a = true ∧ isLo a = false ∧
     isHi a = false ∧ isFree a = false ∧ isPhysicalCount a = true ∧ b % 4 = 0 ∧ ((regRowAt b).map (·.kind)) = some .rc ∧
     blockAnswers s.dev b = true ∧ isLo b = false ∧ isHi b = false ∧ isFree b = false) ∧
    (let s : State := { sv with dev.plan.copying := true, dev.plan.sealed := some (0, 65535) }
     s.dev.plan.copying = true ∧ s.dev.plan.sealed = some (0, 65535)) ∧
    (let s : State := { sv with dev.tick := 2 ^ 32 - 1, dev.plan.capture := [0, 1] }; let m := 0; let v : Word := 0
     s.dev.obs.stage = 2 ∧ m < 2 ∧ v.toNat = (s.dev.tick + 1) % 2 ^ 32 ∧ s.dev.plan.copying = false ∧
     precedes 32 s.dev.reg.wptr v.toNat = false ∧ precedes 32 s.dev.reg.wptr 1 = true ∧
     rwOk s.dev Addr.ELG_CAP_CTRL (2 ^ 31 + 12) = true ∧ bit (2 ^ 31 + 12) 31 = true ∧
     bit (rd s.dev Addr.ELG_CAP_CTRL) 31 = false ∧ domainBusy s.dev 0 = false ∧ mudpotLoaded s.dev = false) := by
  decide +kernel

theorem witness_ManagementPortAccess :
    let s := State.reset; let t : State := { s with dev.reg.dynAddr := some 127 }
    s.pins.running = true ∧ s.dev.reg.dynAddr = none ∧ t.dev.reg.dynAddr.isSome = true := by decide +kernel

theorem witness_MailboxRequestsComplete :
    let s : State := { sv with dev.obs.mbox := some (3, 1), dev.obs.running := ⟨true, 64, 1, 0, []⟩ }; let v := 1
    Serving s ∧ s.dev.obs.mbox = some (3, v) ∧ 1 ≤ v ∧ v ≤ 64 ∧ v ≤ s.dev.obs.running.svn ∧ s.dev.nv.minSvn ≤ v ∧
    (∃ t : State, Serving t ∧ t.dev.obs.mbox = some (1, 64)) ∧ (∃ t : State, Serving t ∧ t.dev.obs.mbox = some (4, 0)) := by
  refine ⟨by dsimp only [Serving]; decide, by decide, by decide, by decide, by decide, by decide,
    ⟨{ sv with dev.obs.mbox := some (1, 64) }, by dsimp only [Serving]; decide, rfl⟩,
    ⟨{ sv with dev.obs.mbox := some (4, 0) }, by dsimp only [Serving]; decide, rfl⟩⟩

/-- An image being delivered: 128 bytes in frame 9. -/
def loading : Image := ⟨1, 128, [9], []⟩

theorem witness_ModelCommandsComplete :
    (let s := room; let h := op; let m := 31; let length := 128
     ByOperator s h ∧ m ≤ 31 ∧ length % 64 = 0 ∧ 128 ≤ length ∧ length ≤ 0xFFFFFFC0 ∧ (model s.dev m).img.st = 0 ∧
     (allocOwnMany s.dev false 0 (ceilDiv length 65536)).isOk = true) ∧
    (let s : State := { room with dev.mdl.slots := [(31, { model0 with img := loading, desc := none })] }
     let m := 31; let offset := 112; let data := List.replicate 16 (0 : Byte)
     (model s.dev m).img.st = 1 ∧ offset % 16 = 0 ∧ data ≠ [] ∧ data.length ≤ 65536 ∧
     offset + data.length ≤ (model s.dev m).img.length ∧ badAmong s.dev (model s.dev m).img.frames = none ∧
     (descrFault (imageAll s.dev (model s.dev m).img)).isSome = true) ∧
    (let s := create0; let m := 31; let mask : BitVec 256 := 0
     (model s.dev m).img.st = 2 ∧ modelNamed s.dev m = false ∧ (s.dev.mdl.pipes.any fun p => p.2.bound == some m) = false ∧
     (s.dev.mdl.switches.any fun w => w.model == m) = false ∧
     (s.dev.sess.any fun q => q.2.st != .free && q.2.model == m && !(mask ||| 1).getLsbD (ownerOf s.dev q.1)) = false) ∧
    (let s : State := { create0 with dev.plan.active := some { plan0 with windowBytes := 65536 } }
     let first := 63; let size := 1; let m := 31
     firstFail (bindChecks s.dev first size m) = none ∧
     (let d1 := { s.dev with mdl.switches := s.dev.mdl.switches ++ [⟨op, first, size, m, 0, op.tick, s.dev.tick⟩],
                             pwr.busySimmer := true }
      m = 0xFF ∨ windowUsed d1 ≤ windowSize d1)) ∧
    (let w : Switch := ⟨op, 63, 1, 31, 0, 4, 4⟩
     let s : State := { create0 with dev.tick := 50, dev.mdl.switches := [w] }; let first := 63
     Serving s ∧ (s.dev.mdl.switches.find? fun w => w.first == first) = some w ∧
     (let d1 := { s.dev with pwr.busySimmer := true }; w.phase = 0 ∧ groupBusy d1 w = false ∧ w.start < s.dev.tick) ∧
     w.phaseTick + coreGranules s.dev w.model ≤ s.dev.tick ∧ w.phaseTick + 6 * w.size ≤ s.dev.tick ∧
     w.phaseTick + 46 ≤ s.dev.tick) := by
  dsimp only [ByOperator, Serving]
  decide +kernel

/-- A small dense layer: KIND 0, one KV head of 8 elements. -/
def layer0 : LayerDesc :=
  { kind := 0, elem := 0, qh := 1, kvh := 1, ropeMode := 0, headDim := 8, vDim := 8, latent := 0, rotDim := 0, qFp8 := false,
    sink := false, qkNorm := false, rmode := 0, window := 0, smScale := 0, ropeBase := 0, ropeDiv := 0, ops := [], c0 := 0,
    c1 := 0, kScale := [], vScale := [], slope := [], sinks := [], ukScale := [], ukOff := 0, uvScale := [], uvOff := 0 }

/-- A format with runs of four pages. -/
def fmt0 : Fmt := ⟨0, 4, 8, 8, 0, 0, 1⟩

/-- Four full resident pages and a tail in layer 0 of session 0 of model 31, which format 1 codes. -/
def pages0 : State := { live0 with
  dev.mdl.slots := [(31, { model0 with desc := some ⟨1, 1, 0, [layer0], 0⟩, map := [1] })]
  dev.snt.fmts := [(1, fmt0)]
  dev.sess := [(0, { (sess live0.dev 0) with
    model := 31, length := 4 * pagePos layer0 + 1
    layers := [⟨4 * pagePos layer0 + 1, (List.range 5).map fun k => ⟨10 + k, k * pagePos layer0, SumEnt.none' 0⟩, []⟩] })]
  dev.pg.ptes := live0.dev.pg.ptes ++ (List.range 5).map fun k => (10 + k, ⟨.hbm, false, false, false, false, false, 0, 20 + k, 0⟩)
  dev.pg.frames := live0.dev.pg.frames ++ (List.range 5).map fun k => (20 + k, ⟨1, .valid, false, false, 0, 0, 0, true, 0⟩) }

theorem witness_SinterCommandsComplete :
    (let s := room; let h := op; let n := 15; let kind := 0; let run := 8; let dk := 16; let dv := 2; let refMax := 64; let rounds := 15
     ByOperator s h ∧ 1 ≤ n ∧ n ≤ 15 ∧ kind ≤ 1 ∧ (kind = 0 → 4 ≤ run ∧ run ≤ 8) ∧ (kind = 0 → dk ∈ [2, 4, 8, 16]) ∧
     dv ∈ [2, 4, 8, 16] ∧ refMax ≤ 64 ∧ (kind = 1 → refMax = 0) ∧ 1 ≤ rounds ∧ rounds ≤ 15 ∧ formatNamed s.dev n = false) ∧
    (let s := create0; let m := 31; let map : List Byte := []; let ds : Descr := ⟨1, 1, 0, [], 0⟩
     m < 32 ∧ modelDesc s.dev m = some ds ∧
     (((List.range 256).map (mapEntry map)).zipIdx.any fun (v, i) => badEntry s.dev ds.layers[i]? v) = false) ∧
    (let s := planned { pages0 with dev.parts := [(0, { part pages0.dev 0 with cfg.pflags := 4 })] }; let dom := 0; let m := 31; let l := 0; let target := 0; let ld := layer0; let fm := fmt0
     let d := { s.dev with pwr.busySimmer := true }; let b := bookAt d (bookKey dom m l)
     Serving s ∧ s.dev.pwr.fumarole = false ∧ b.cur = none ∧ s.dev.pwr.st < 1 ∧ bgSlot s.dev 6 = true ∧
     (modelDesc s.dev m).bind (·.layers[l]?) = some ld ∧ tget s.dev.snt.fmts (mapFmt s.dev m l) = some fm ∧
     confidential s.dev dom = false ∧ buildDue d dom m l ld b = true ∧ slotUses d (bookKey dom m l) target = 0 ∧
     ld.kind ≠ 2 ∧ 256 ≤ ((samplePages d dom m l ld).map (·.n)).sum ∧
     ((samplePages d dom m l ld).any fun q => inWindow d q.frame) = false) ∧
    (let s := planned { pages0 with dev.snt.books := [(bookKey 0 31 0, { Book.empty with cur := some 1 })] }
     let i := 0; let l := 0; let k := 0; let slot := 1; let ld := layer0; let fm := fmt0
     let e := sess s.dev i; let p := ownerOf s.dev i; let dom := bookDomain s.dev p
     s.dev.pwr.st < 2 ∧ bgSlot s.dev 6 = true ∧ layerOf s.dev e l = some ld ∧ e.st ≠ .free ∧ confidential s.dev p = false ∧
     (e.layers[l]?).isSome = true ∧ (∀ x ∈ e.layers[l]?, runShape s.dev fm ld x k = true ∧
       ((slice x.pages k fm.run).all fun q => row28 s.dev q.spn) = true ∧
       badAmong s.dev ((slice x.pages k fm.run).filterMap fun q => residentFrame s.dev q.spn) = none) ∧
     (s.dev.snt.retry.any fun r => r.1 == i && r.2.1 == l) = false ∧ earlierRun s.dev i l k = false ∧
     (bookAt s.dev (bookKey dom e.model l)).cur = some slot ∧
     (s.dev.reqs.any fun r => r.entry == i && r.layer == l && r.phase != .waiting) = false ∧
     (match allocFrame s.dev p true (homeStack i l) with
      | .ok (_, d1) => (allocSpn d1 i).isOk
      | .error _ => false) = true) := by
  dsimp only [ByOperator, Serving]
  decide +kernel

/-- `tierUp` with adapter 1 of partition 0. -/
def adapters0 : State := { tierUp with
  dev.tick := 1
  dev.parts := [(0, { (part tierUp.dev 0) with cfg.adpBase := 1, cfg.adpCount := 1, cfg.adpQuota := 3 })] }

theorem witness_AdapterObjectCommandsComplete :
    (let s := adapters0; let h := op; let id := 1; let length := 128
     Issued s h ∧ ownAdapter s.dev h.part id = true ∧ length % 64 = 0 ∧ 128 ≤ length ∧ length ≤ 1073741824 ∧
     (part s.dev h.part).cfg.adpQuota ≠ 0 ∧ keysMissing s.dev h.part = false ∧ (adpId s.dev id).stage = none ∧
     (cacheFrames s.dev h.part 0 (ceilDiv length 65536)).isSome = true) ∧
    (let s : State := { adapters0 with dev.adp.ids := [(1, { AdpId.none' with stage := some loading })] }
     let h := op; let id := 1; let offset := 0; let data := List.replicate 128 (0 : Byte); let key := (1, [(1 : Byte)])
     (adpId s.dev id).commit = none ∧ (stageOf s.dev id).st = 1 ∧ offset % 16 = 0 ∧ data ≠ [] ∧ data.length ≤ 65536 ∧
     offset + data.length ≤ (stageOf s.dev id).length ∧ sealKey s.dev h.part = some key ∧
     badAmong s.dev (stageOf s.dev id).frames = none ∧ (makeRoom s.dev id).isSome = true ∧
     (reserveUnits s.dev h.part (stageOf s.dev id).frames.length).2 = none) := by
  dsimp only [Issued, Serving]
  decide +kernel

/-- A message from a compute device at address 7, which entry 0 of the routing table names. -/
def fromComp (type sub length : Nat) (handle : Nat) (body : List Byte) : FabMsg :=
  ⟨0, 7, type, 0, sub, length, 3, 0, handle, body⟩

/-- A device as one whose port 0 is UP and that knows a compute device. -/
def routed (s : State) (role : Nat) : State := { s with
  dev.fab.ports := [(0, { port s.dev 0 with st := 2 }), (56, { port s.dev 56 with st := 2 })], dev.fab.routes := [(0, ⟨7, role, 0xFF⟩)] }

theorem witness_GatherRowsComplete :
    (let s := routed adapters0 1; let p := 0
     let m := fromComp 0x06 0 64 0 ([0, 0, 0, 0, 0, 0, 4, 0, 1, 0] ++ List.replicate 22 0)
     Serving s ∧ Accepted s.dev p m 0x06 1 ∧ m.sub % 4 = 0 ∧ 1 ≤ bodyAt m 8 2 ∧ bodyAt m 8 2 ≤ 256 ∧
     m.length = 48 + roundUp (8 * bodyAt m 8 2) 16) ∧
    (let g : Gather := ⟨3, 0, 7, 3, [], [⟨1, 1, 0, [], 0, []⟩], false⟩
     let s := planned { adapters0 with dev.adp.gathers := [g], dev.timers := [⟨.gather, 0, 3, 3, some 9⟩] }
     s.dev.adp.gathers = g :: [] ∧ (∀ p ∈ g.pairs, p.segs = []) ∧ g.tick ≠ s.dev.tick ∧
     ((slotsNow s.dev).any fun x => x.cls == .svc && x.kind == .modelEngine) = true ∧ s.dev.plan.missed = false ∧
     dataWaits s.dev g = false ∧
     (let seg : Segment := ⟨0, 0, 0, 0, 0, 0⟩; let p := nextSeg s.dev ⟨1, 1, 0, [seg], 0, []⟩
      p.segs = [seg] ∧ p.status = 0 ∧ svcSlot s.dev .modelEngine (adapterOwner s.dev p.id) = true ∧
      segReady s.dev p.id p.ver seg = true ∧ segBad s.dev p.id p.ver seg = none) ∧
     (s.dev.adp.gathers.find? fun g => g.tag == 3 && !g.expired && (expiredAt s.dev .gather g.seq).isSome) = some g) := by
  dsimp only [Serving, Accepted]
  decide +kernel

/-- `live0` with the prefix table of its partition. -/
def prefix0 : State := { live0 with dev.pfx.tables := [(0, ⟨0, 1, [40], []⟩)] }

theorem witness_PrefixRowsComplete :
    (let s := planned prefix0; let h := op; let handle := handleOf s.dev 0; let i := 0; let first := 0; let ids : List Nat := [5]
     let domain := 255
     let j : PfxJob := ⟨h, true, handle, domain, first, first + (wholeBlocks ids).length, [], none, false, wholeBlocks ids, true⟩
     let d := addJob (touched s.dev i) j; let t := insertTable h.part domain
     OnSession s h handle i ∧ domain = 255 ∧ ids.length ≤ 65536 ∧ first = 0 ∧
     badIds ids = false ∧ mayRun d h = true ∧ liveOn d h.part handle = some i ∧ stepInProgress d i = false ∧
     64 * (first + (wholeBlocks ids).length) ≤ (sess d i).length ∧ (tget d.pfx.tables t).isSome = true ∧ CtrlReady d i ∧
     (chainHeads d i true [t] first).isSome = true ∧ forkBars d h.part i = none ∧
     (chainHeads d i true [t] first).all (fun hs => (forkStep (hashJob d j hs) h i 0 none).2 == none) = true ∧
     mayRun (addJob (touched prefix0.dev i) j) h = false) ∧
    (let s := planned prefix0; let h := op; let handle := handleOf s.dev 0; let i := 0; let first := 0; let ids : List Nat := [5]
     let j : PfxJob := ⟨h, false, handle, 255, first, first + (wholeBlocks ids).length, [], none, false, wholeBlocks ids, false⟩
     let d := addJob (touched s.dev i) j
     OnSession s h handle i ∧ (s.dev.pfx.jobs.any fun q => q.cmd.seq == h.seq) = false ∧ mayRun d h = true ∧
     liveOn d h.part handle = some i ∧ stepInProgress d i = false ∧ (sess d i).length = 64 * first ∧ CtrlReady d i ∧
     (chainHeads d i false (pfxTables d h.part) first).isSome = true ∧ mayRun (addJob (touched prefix0.dev i) j) h = false) ∧
    (let s := room; let h := op; let domain := 15; let buckets := 1
     ByOperator s h ∧ domain ≤ 15 ∧ tget s.dev.pfx.tables (256 + domain) = none ∧ bucketCountOk buckets = true ∧
     bucketsUsed s.dev + buckets ≤ 2 ^ 21 ∧ (allocOwnMany s.dev false 0 (tableFrames buckets)).isOk = true) ∧
    (let x : PfxTable := ⟨0, 1, [40], []⟩; let s : State := { room with dev.pfx.tables := [(271, x)] }
     tget s.dev.pfx.tables (256 + 15) = some x) ∧
    (let j : PfxJob := ⟨op, true, handleOf live0.dev 0, 255, 0, 0, [(0, [[]])], none, true, [], false⟩
     let s := planned { prefix0 with dev.pfx.jobs := [j] }; let i := 0; let seq := 7
     Serving s ∧ jobOf s.dev seq true = some j ∧ mayRun s.dev j.cmd = true ∧ liveOn s.dev j.cmd.part j.handle = some i ∧
     CtrlReady s.dev i ∧ (writeEvent s.dev i (ownerOf s.dev i) (sess s.dev i).ctrlSpn false).isOk = true) ∧
    (let j : PfxJob := ⟨op, true, handleOf live0.dev 0, 255, 0, 0, [(0, [[]])], none, true, [], true⟩; let f : ForkJob := ⟨op, 0, 0, some 1, false⟩
     let s := planned { prefix0 with dev.pfx.jobs := [j], dev.pg.forks := [f] }; let seq := 7
     jobOf s.dev seq true = some j ∧ mayRun s.dev j.cmd = true ∧ forkOf s.dev j.cmd.seq = some f) ∧
    (let j : PfxJob := ⟨op, false, handleOf live0.dev 0, 255, 0, 0, [(0, [[]])], none, true, [], false⟩
     let s := planned { prefix0 with dev.pfx.jobs := [j] }; let i := 0; let seq := 7
     jobOf s.dev seq false = some j ∧ liveOn s.dev j.cmd.part j.handle = some i ∧ mayRun s.dev j.cmd = true ∧
     firstFail (targetChecks (lookupAll s.dev j).1 i j.firstBlock) = none ∧ (lookupAll s.dev j).2 = none ∧
     CtrlReady (lookupAll s.dev j).1 i ∧ (writeEvent (lookupAll s.dev j).1 i (ownerOf (lookupAll s.dev j).1 i)
       (sess (lookupAll s.dev j).1 i).ctrlSpn false).isOk = true) ∧
    (let j : PfxJob := ⟨op, false, handleOf live0.dev 0, 255, 0, 0, [(0, [[]])], some (1, 0, 2), true, [], false⟩
     let s := planned { prefix0 with dev.pfx.jobs := [j] }; let i := 0; let seq := 7; let hold := 2
     jobOf s.dev seq false = some j ∧ liveOn s.dev j.cmd.part j.handle = some i ∧ inFlight s.dev (sess s.dev hold) = false ∧
     svcSlot s.dev .spmPort j.cmd.part = true ∧ CtrlReady s.dev i ∧
     (attachLayers i j.cmd.part hold j.firstBlock 1 s.dev (sess s.dev hold).layers.zipIdx).isOk = true) := by
  dsimp only [OnSession, Issued, ByOperator, Serving, CtrlReady]
  constructorm* _ ∧ _ <;> decide +kernel

/-- `live0` on model 31 with vocabulary 0 of two entries. -/
def text0 : State := { live0 with
  dev.mdl.slots := [(31, model0)]
  dev.tok.vocabs := [(0, ⟨⟨2, 256, [9], []⟩, 0, 2, 0, 1, 0, 64, 80, 80⟩)]
  dev.sess := [(0, { (sess live0.dev 0) with model := 31, length := 1 })] }

theorem witness_TextObjectCommandsComplete :
    (let s := room; let h := op; let n := 7; let length := 256; let id := 65535
     ByOperator s h ∧ Issued s h ∧ n ≤ 7 ∧ length % 64 = 0 ∧ 256 ≤ length ∧ length ≤ 268435456 ∧ (vocab s.dev n).img.st = 0 ∧
     (allocOwnMany s.dev false 0 (ceilDiv length 65536)).isOk = true ∧ gramIdBad id = false ∧ length ≤ 67108864 ∧
     (gram s.dev h.part id).img.st = 0 ∧ keysMissing s.dev h.part = false ∧ gramCount s.dev h.part < 1024 ∧
     (allocMany s.dev h.part (ceilDiv length 65536)).isOk = true) ∧
    (let s : State := { room with dev.tok.vocabs := [(7, { Vocab.empty with img := loading })]
                                  dev.tok.grams := [(gramKey 0 1, { Gram.empty with img := loading })] }
     let n := 7; let id := 1; let offset := 112; let data := List.replicate 16 (0 : Byte)
     (vocab s.dev n).img.st = 1 ∧ offset % 16 = 0 ∧ data ≠ [] ∧ data.length ≤ 65536 ∧
     offset + data.length ≤ (vocab s.dev n).img.length ∧ badAmong s.dev (vocab s.dev n).img.frames = none ∧
     (gram s.dev 0 id).img.st = 1 ∧ offset + data.length ≤ (gram s.dev 0 id).img.length ∧ gramNamed s.dev 0 id = false ∧
     (gram s.dev 0 id).img.st ≠ 0 ∧ (vocab s.dev n).img.st ≠ 0 ∧
     (s.dev.mdl.slots.any fun q => q.2.vocab == some n && modelNamed s.dev q.1) = false) ∧
    (let s : State := { text0 with dev.sess := [] }; let m := 31; let n := 0
     m ≤ 31 ∧ (model s.dev m).img.st = 2 ∧ n ≤ 7 ∧ (vocab s.dev n).img.st = 2 ∧ modelNamed s.dev m = false) := by
  dsimp only [Issued, ByOperator, Serving]
  decide +kernel

theorem witness_TokenCommandsComplete :
    let s := planned text0; let h := op; let handle := handleOf s.dev 0; let i := 0
    OnSession s h handle i ∧ CtrlReady (touched s.dev i) i ∧
    (writeEvent (touched s.dev i) i (ownerOf (touched s.dev i) i) (sess (touched s.dev i) i).ctrlSpn false).isOk = true ∧
    (let q : Sampling := ⟨1, 0, 1, 0, 2048, 0, 0, 0x3F800000, 0, 0x3F800000, 0, 0, 9, 2048, 1048576⟩
     firstFail (samplingChecks q) = none ∧ grammarUsable (touched s.dev i) (sess s.dev i) h.part q.grammar = true ∧ q.newGen = 0 ∧
     q.seed ≠ 0 ∧ q.grammar = (sess s.dev i).ctrl.sampling.grammar ∧ stepInProgress (touched s.dev i) i = false ∧
     (s.dev.pwr.fumarole && q.cls == 1) = false) ∧
    (let tflags := 3; let text : List Byte := [65]
     tflags ≤ 3 ∧ text.length ≤ 65536 ∧ (sessVocab (touched s.dev i) (sess s.dev i)).isSome = true ∧
     (sess s.dev i).ctrl.sampling.penScope = 0 ∧
     svcSlot (touched s.dev i) .sampler h.part = true ∧
     (∀ v ∈ sessVocab (touched s.dev i) (sess s.dev i), badAmong (touched s.dev i) v.img.frames = none)) ∧
    (let ids := 1; let strings := 1; let slots := [9, 0]; let ents : List (Nat × List Byte) := [(1, [65])]
     firstFail (stopChecks ids strings slots ents) = none ∧
     (((ents.take strings).map fun e => e.2.take e.1).all utf8Valid) = true) := by
  dsimp only [OnSession, Issued, Serving, CtrlReady]
  decide +kernel

/-- The LOGITS of position 0 with two binary16 logits. -/
def logits0 : FabMsg := fromComp 0x04 0 64 (handleOf text0.dev 0)
  ([0, 0, 0, 0, 2, 0, 0, 0] ++ List.replicate 24 0)

theorem witness_LogitsRowsComplete :
    (let s := routed text0 1; let p := 0; let cycle := 0; let i := 0; let m := logits0
     Serving s ∧ Accepted s.dev p m 0x04 1 ∧
     (let d := stampAt (noteSeen s.dev m.src m.type m.tag) (portInput p) 0x02 0 (hPart m.handle) m.handle cycle
      firstFail (logitsHead d m) = none ∧ live d m.handle = some i ∧ logitsBarred (touched d i) i = false ∧
      ((touched d i).tok.logits.any fun l => l.entry == i && l.held.isSome) = false ∧
      (logitsServe (touched d i) i s.dev.led.next m).isOk = true)) ∧
    (let l : LogitsReq := ⟨4, 0, 7, 3, handleOf text0.dev 0, 0, 0, [0, 0], false, none, false⟩
     let s : State := { text0 with dev.tok.logits := [l], dev.plan.latched := [⟨0, 5, 4, 1, 0, 0, 0, 5⟩], dev.plan.descs := [(0, [4])] }
     let d := unlist s.dev 4 l.seq
     (s.dev.tok.logits.find? fun q => q.seq == l.seq) = some l ∧ logitsBarred s.dev l.entry = false ∧ l.held = none ∧
     l.sent = false ∧ l.fenced = false ∧ listed s.dev 4 l.seq = true ∧ (sessVocab d (sess d l.entry)).isSome = true ∧
     CtrlReady d l.entry ∧ (writeEvent d l.entry (ownerOf d l.entry) (sess d l.entry).ctrlSpn false).isOk = true ∧
     (live s.dev l.handle).isSome = true) ∧
    (let l : LogitsReq := ⟨4, 0, 7, 3, handleOf text0.dev 0, 0, 0, [0, 0], true, none, false⟩
     let s : State := { text0 with dev.sess := tmod text0.dev.sess 0 fun e => { e with st := .awaitHost }, dev.tok.logits := [l], dev.timers := [⟨.host, 0, 4, 0, some 9⟩] }
     let h := op; let handle := handleOf s.dev 0; let i := 0
     (s.dev.tok.logits.find? fun q => q.seq == l.seq && q.sent) = some l ∧ expiredAt s.dev .host l.seq = some 9 ∧
     choiceWaits s.dev l.handle 9 = false ∧ OnSession s h handle i ∧ awaitingHost (touched s.dev i) i = some l ∧
     (sess s.dev i).st = .awaitHost ∧ before h.seq 9 = true ∧
     (sessVocab (touched s.dev i) (sess s.dev i)).isSome = true ∧ CtrlReady (touched s.dev i) i ∧
     (∀ v ∈ sessVocab (touched s.dev i) (sess s.dev i),
       gramUe (touched s.dev i) (sess s.dev i) h.part v = none ∧ tokenUe (touched s.dev i) v 1 = none ∧
       (allowedIds (touched s.dev i) (sess s.dev i) h.part v).contains 1 = true)) := by
  dsimp only [OnSession, Issued, Serving, CtrlReady, Accepted]
  decide +kernel

theorem witness_SamplerChoice :
    (let c : Ctrl := { Ctrl.initial 1 0 with forced := [(0, 1)] }; forcedAt c 0 = some 1) ∧
    (let l : LogitsReq := ⟨4, 0, 7, 3, handleOf text0.dev 0, 0, 0, [0, 0x3F800000], false, none, false⟩
     let d : Dev := { text0.dev with sess := [(0, { (sess text0.dev 0) with ctrl := Ctrl.initial 1 0 })] }
     let e := sess d l.entry; let p := hPart l.handle
     let g := { Gram.empty with img := ⟨2, 128, [9], []⟩, eosFallback := true }
     let d' : Dev := { d with hbm.errs := [⟨⟨9, 0, 0⟩, [(0, 1), (1, 1), (2, 1)], 0⟩, ⟨⟨9, 0, 1⟩, [(0, 1), (1, 1), (2, 1)], 0⟩]
                              tok.grams := [(gramKey p 1, g)] }
     let e' := { e with ctrl.sampling.grammar := 1, ctrl.sampling.cls := 1 }
     (sessVocab d e).isSome = true ∧
     ∀ v ∈ sessVocab d e, gramUe d e p v = none ∧ tokenUe d v 1 = none ∧ (gramUe d' e' p v).isSome = true ∧ (tokenUe d' v 1).isSome = true ∧
      (e'.ctrl.sampling.grammar != 0 && (gram d' p e'.ctrl.sampling.grammar).eosFallback) = true ∧ forcedAt e.ctrl l.pos = none ∧ allowedIds d e p v ≠ [] ∧ e.ctrl.sampling.cls = 0 ∧
      allowedIds d e p { v with entries := 0 } = [] ∧
      (ranked (penalized { e.ctrl with sampling.cls := 1, sampling.temp := 0 } l.logits) (allowedIds d e p v)).length = 2) := by
  decide +kernel

/-- The smallest store: dimension 8, capacity 16. -/
def small : StoreParams := ⟨0, 0, 1, 8, 2, 16, 8, 16, 1024, 1024, 1024⟩

/-- A store with one vector. -/
def store0 : Store :=
  { gen := 0, st := 1, p := small, frames := [40], home := 0, levelSalt := 0,
    nodes := [(0, { Node.free 0 with used := true, vec := List.replicate 8 0 })], side := [⟨0, 0, 0⟩], sideVer := 0,
    other := [], verTick := 0, entry := none, book := some [], mergeCmd := none }

/-- `room` whose partition 0 has that store. -/
def stores0 : State := { room with
  dev.tick := 2
  dev.parts := [(0, { (part room.dev 0) with cfg.rtvStores := 1 })]
  dev.rtv.stores := [(0, store0)] }

theorem witness_StoreCommandsComplete :
    (let s : State := { stores0 with dev.rtv.stores := [] }; let h := op; let l := 0; let p := small
     Issued s h ∧ l < (part s.dev h.part).cfg.rtvStores ∧ firstFail (storeParamChecks p) = none ∧
     tget s.dev.rtv.stores (storeKey h.part l) = none ∧ storeGen s.dev (storeKey h.part l) < 2 ^ 16 ∧
     (s.dev.rtv.stores.map fun x => x.2.p.capacity).sum + p.capacity ≤ 2 ^ 32 ∧
     (allocHome s.dev h.part (roomiest s.dev) (storeFrames p)).isOk = true ∧ storeLive s.dev h.part 0 = none) ∧
    (let s := planned stores0; let h := op; let store := 0; let count := 8; let comps : List (BitVec 16) := List.replicate 8 0x3F80
     (∀ q ∈ storeLive s.dev h.part store, comps.length = count ∧ count = q.2.p.dim ∧
       ((compsOf comps).any (fun c => !finite32 c) || (q.2.p.metric == 1 && zeroVec (compsOf comps))) = false ∧
       updateTurn s.dev h store = true ∧ updateTurn stores0.dev h store = false ∧ (s.dev.rtv.queries.any fun q => q.cmd == h) = false ∧
       q.2.side.length < q.2.p.sideMax ∧ (freeSlot q.2).isSome = true ∧ (vidFound q.2 0).isSome = true ∧
       vidFound q.2 1 = none ∧ q.2.mergeCmd = none) ∧ (storeLive s.dev h.part store).isSome = true ∧
     (let q : QueryParams := ⟨1024, 8, 4096, 4096, 4096, 0, 0⟩
      1 ≤ q.k ∧ q.k ≤ 1024 ∧ q.k ≤ q.ef ∧ q.ef ≤ 4096 ∧ q.k ≤ q.rerank ∧ q.rerank ≤ 4096 ∧ q.deadline ≤ 4096)) := by
  dsimp only [Issued, Serving]
  decide +kernel

theorem witness_RetrievalWorkCompletes :
    let q : Query := ⟨{ op with tick := 1 }, 0, 0, 0, [⟨0, 0, 0⟩], ⟨1, 8, 1, 1, 0, 0, 0⟩, List.replicate 8 0x3F800000, none, some (0, 0)⟩
    (let s := planned { stores0 with dev.rtv.queries := [q] }; let cycle := 0
     Serving s ∧ q.place.isSome = true ∧ kernelSlot s.dev (rtvClusters s.dev) q.cmd.part = true ∧
     svcSlot s.dev .adc q.cmd.part = true ∧ (s.dev.rtv.queries.find? fun r => r.cmd.seq == q.cmd.seq) = some q ∧
     (let d1 := stampAt s.dev 17 0x10 0 q.cmd.part q.cmd.tag cycle
      expiredAt d1 .query q.cmd.seq = none ∧
      ∀ x ∈ tget d1.rtv.stores q.key, badAmong d1 x.frames = none ∧
        (runQuery x q.side q.q q.vec q.cmd.tick).2.2 = false)) ∧
    (let s : State := { stores0 with dev.rtv.queries := [q], dev.timers := [⟨.query, 0, 7, 1, some 9⟩] }
     (expiredAt s.dev .query q.cmd.seq).isSome = true) ∧
    (let s := planned { stores0 with dev.rtv.stores := tmod stores0.dev.rtv.stores 0 fun x =>
       { x with p := { small with mergeAt := 1 } } }
     let key := 0
     s.dev.pwr.st < 2 ∧ s.dev.pwr.fumarole = false ∧ bgSlot s.dev 5 = true ∧ nextDue s.dev = some key ∧
     ∀ x ∈ tget s.dev.rtv.stores key, otherRead s.dev key x = false ∧
      x.frames.any (inWindow s.dev) = false ∧ badAmong s.dev x.frames = none ∧ x.book.isSome = true ∧ x.mergeCmd = none) := by
  dsimp only [Serving]
  decide +kernel

/-- An acknowledgement of operation `o` with result 0. -/
def tierAck0 (o : Byte) : FabMsg := fromComp 0x12 0 48 0 ([0, 0, 0, 0, o, 0] ++ List.replicate 10 0)

theorem witness_TierRowsComplete :
    (let x : Xfer := { mkXfer .park 3 0 [] 0 with tag := 3 }
     let s : State := { routed tierUp 2 with dev.pg.xfers := [x] }; let p := 0; let m := tierAck0 0
     Serving s ∧ Accepted s.dev p m 0x12 2 ∧ (s.dev.pg.xfers.find? fun x => x.tag == m.tag) = some x ∧ bodyAt m 5 1 = 0 ∧
     bodyAt m 4 1 = 0) ∧
    (let s := routed tierUp 2; let m := tierAck0 0
     Accepted s.dev 0 m 0x12 2 ∧ (s.dev.pg.xfers.find? fun x => x.tag == m.tag) = none) ∧
    (let x : Xfer := { mkXfer .thaw 3 0 [] 0 with tag := 3, sent := true }
     let s : State := { tierUp with dev.pg.xfers := [x], dev.tick := 300 }; let n := 0; let m := tierAck0 1
     x ∈ s.dev.pg.xfers ∧ slotOf x.addr = n ∧ x.sent = true ∧ x.issued + lim s.dev Addr.TMC_TIER_TIMEOUT ≤ s.dev.tick ∧
     (slot s.dev n).st = 1 ∧ bodyAt m 4 1 = 1 ∧ x.retried = false ∧
     openUnit (endXfer s.dev x.tag) x.addr (slice m.body 16 32) (slice m.body 48 65536) = none) ∧
    (let s := tierUp; let h := op; let addr := 2 ^ 24 - 1; let sl := 15; let cap := 1024
     ByOperator s h ∧ sl < 16 ∧ addr < 2 ^ 24 ∧ s.dev.pwr.fumarole = false ∧ (slot s.dev sl).st = 0 ∧ 1 ≤ cap ∧ cap ≤ 2 ^ 30 ∧
     capSumOk s.dev sl cap = true ∧ (slot s.dev 0).st = 1 ∧ addr ≠ (slot s.dev 0).addr ∧ (slot s.dev 0).cap ≤ cap ∧
     capSumOk s.dev 0 cap = true) := by
  dsimp only [ByOperator, Serving, Accepted]
  decide +kernel

/-- A ring member whose predecessor is at address 7 and whose buddy is at 8, with every timer stamped. -/
def ring0 : State := { tierUp with
  dev.tick := 5000
  dev.fab.ports := [(0, { port tierUp.dev 0 with st := 2 })]
  dev.fab.routes := [(4080, ⟨7, 3, 0xFF⟩), (4081, ⟨8, 3, 0xFF⟩)]
  dev.lah.st := 1, dev.lah.ringId := 1, dev.lah.members := 2, dev.lah.releaseTicks := 4
  dev.timers := [⟨.epoch, 0, 0, 1, some 1⟩, ⟨.epochOwn, 0, 0, 1, some 2⟩, ⟨.delta, 0, 3, 3, some 3⟩, ⟨.release, 0, 4, 4, some 4⟩] }

/-- A record without contents. -/
def rec0 : LahRec := LahRec.base 0x02 0 0

theorem witness_EpochRowsComplete :
    (let s := ring0
     Serving s ∧ cutting s.dev = true ∧ (expiredAt s.dev .epoch 0).isSome = true ∧ (expiredAt s.dev .epochOwn 0).isSome = true ∧
     s.dev.lah.lastSent + lim s.dev Addr.LAH_SUSPECT_TICKS / 4 ≤ s.dev.tick ∧ s.dev.lah.fencedPred = false ∧
     s.dev.lah.predSuspect = false ∧ s.dev.lah.predTick + lim s.dev Addr.LAH_SUSPECT_TICKS ≤ s.dev.tick) ∧
    (let s : State := { ring0 with dev.lah.cutTo := some 1 }
     s.dev.lah.cutTo = some 1 ∧ s.dev.lah.work = [] ∧ s.dev.lah.endDue = false) ∧
    (let it : CapItem := ⟨some 1, none, 0, { rec0 with rtype := 0x06 }⟩
     let s := planned { ring0 with dev.lah.cutTo := some 1, dev.lah.work := [it] }
     s.dev.lah.work ≠ [] ∧ s.dev.lah.cutWaits = false ∧ s.dev.lah.work = it :: [] ∧ captureWaits s.dev it = false ∧ (captureItem s.dev it).isSome = true) ∧
    (let u : Unacked := ⟨3, false, 0, rec0, 0⟩; let r : Unacked := ⟨4, true, 0, rec0, 0⟩
     let s : State := { ring0 with dev.lah.unacked := [u, r] }
     (s.dev.lah.unacked.find? fun u => u.rel == false && u.seq == 3) = some u ∧ (expiredAt s.dev .delta 3).isSome = true ∧
     (s.dev.lah.unacked.find? fun u => u.rel == true && u.seq == 4) = some r ∧ (expiredAt s.dev .release 4).isSome = true ∧
     (let t : State := { s with dev.lah.st := 4 }; cutting t.dev = false)) := by
  dsimp only [Serving]
  decide +kernel

theorem witness_CutMovesEpoch :
    let s : State := { ring0 with dev.lah.cutTo := some (2 ^ 40 - 1) }; let f := 2 ^ 40 - 1
    Serving s ∧ s.dev.lah.cutTo = some f ∧ cutting s.dev = true ∧ s.dev.lah.work = [] ∧ s.dev.lah.endDue = false := by
  dsimp only [Serving]
  decide +kernel

theorem witness_RingMessagesComplete :
    (let s := ring0; let p := 0; let cycle := 0; let m : LahMsg := ⟨8, 0x21, 3, 0, 1, 4, 0, true, []⟩
     Serving s ∧ LahAccepted s.dev p m 0x21 ∧
     (let d1 := notePred (stampAt (noteSeen s.dev m.src m.type m.tag) (portInput p) 0x05 0 0 m.seq cycle) m.src
      m.src = buddyAddr d1 ∧ m.sub = 1)) ∧
    (let s := ring0; let p := 0; let cycle := 0; let m : LahMsg := ⟨7, 0x22, 3, 0, 0, 0, 0, true, [rec0]⟩
     LahAccepted s.dev p m 0x22 ∧ LahAccepted s.dev p { m with type := 0x20 } 0x20 ∧
     (let d1 := notePred (stampAt (noteSeen s.dev m.src m.type m.tag) (portInput p) 0x06 0 m.part m.seq cycle) m.src
      d1.lah.st ≠ 0 ∧ d1.lah.st ≠ 4 ∧ m.src = predAddr d1 ∧ m.recs ≠ [])) ∧
    (let i : ShadowImg := ⟨1, [(rec0, some 5)]⟩; let s : State := { ring0 with dev.lah.ended := [(0, i)] }
     (s.dev.pg.xfers.any fun x => x.kind == .shadow && (i.recs.filterMap (·.2)).contains x.addr) = false) := by
  dsimp only [Serving, LahAccepted, Accepted]
  decide +kernel

theorem witness_RecoveryCommandsComplete :
    (let s : State := { tierUp with dev.parts := tmap (fun q => { q with cfg.slotMask := 0 }) tierUp.dev.parts }
     let h := op; let n := 64; let self := 63; let slots := 1; let pred := 7; let buddy := 2 ^ 24 - 1; let rel := 1024
     ByOperator s h ∧ s.dev.pwr.fumarole = false ∧ 2 ≤ n ∧ n ≤ 64 ∧ self < n ∧ shadowSlotsOk s.dev slots = true ∧
     pred < 2 ^ 24 ∧ buddy < 2 ^ 24 ∧ 1 ≤ rel ∧ rel ≤ 1024 ∧ (part s.dev 0).tierKeys ≠ [] ∧ (part s.dev 0).replKeys ≠ [] ∧
     s.dev.lah.st = 0 ∧ isSpare sv.dev = true ∧ s.dev.lah.images = []) ∧
    (let im : ShadowImg := ⟨9, [(rec0, some 5)]⟩; let s : State := { ring0 with dev.lah.images := [im] }
     let epoch := 9; let sl := 0
     s.dev.lah.images = im :: [] ∧ epoch ≠ 2 ^ 40 - 1 ∧ (s.dev.lah.images.find? fun i => i.epoch == epoch) = some im ∧
     sl < 16 ∧ (slot s.dev sl).st ≠ 0 ∧ (shareRepeats [] im.recs).filterMap (·.2) ≠ []) ∧
    (let c := fun k => (⟨0, 5, k, 1, 2, 9, true, [], []⟩ : CkptImg)
     let s : State := { tierUp with dev.lah.ckpt := [c 0, c 1] }
     let h := op; let ring := 1; let sl := 0; let n := 2; let m := 2; let j := 1; let e := 9
     sl < 16 ∧ (slot s.dev sl).st ≠ 0 ∧ 2 ≤ n ∧ n ≤ 64 ∧ 2 ≤ m ∧ m ≤ 64 ∧ j < m ∧
     (let is := [c 0, c 1]; let mine := is.filter fun c => c.epoch == e && c.shard % m == j
      wholeEpochs is n = [e] ∧ wholeEpochs [] n = [] ∧
      (mine.any fun c => c.recs.any fun r => r.rtype == 0x01 && gatedAlone s.dev r.part) = false ∧
      (restoreShards s.dev h.seq mine).isOk = true)) := by
  dsimp only [ByOperator, Serving]
  decide +kernel

/-- `sv` with port 0, the last fabric port and the host link UP and enabled on all lanes. -/
def links0 : State := { sv with
  dev.fab.ports := [(0, { port sv.dev 0 with st := 2, width := 8 }), (55, { port sv.dev 55 with st := 2, width := 8 }),
    (56, { port sv.dev 56 with st := 2, width := 16 })]
  dev.reg.vals := [(Addr.FAB_PORT_CTRL 0, 0x807F8000), (Addr.FAB_PORT_CTRL 1, 0x807F8000), (Addr.FAB_PORT_CTRL 55, 0x807F8000),
    (Addr.HLK_CTRL, 0x83FFFC00)] }

theorem witness_LinkRowsComplete :
    (let s := planned { links0 with dev.fab.ports := [(55, { port links0.dev 55 with removed := [7], recals := [(7, 15)], prbs := [7] })] }
     let n := 55; let l := 7
     Serving s ∧ s.dev.pwr.st < 3 ∧ s.dev.pwr.fumarole = false ∧ bgSlot s.dev 1 = true ∧ (port s.dev n).removed.contains l = true ∧
     15 ≤ tgetD (port s.dev n).recals l 0 ∧ (port s.dev n).prbs.contains l = true ∧ (port s.dev n).st = 2) ∧
    (let s : State := { links0 with dev.fab.ports := [(0, { port links0.dev 0 with removed := [0] })] }
     (port s.dev 0).removed.contains 0 = true ∧ tgetD (port s.dev 0).recals 0 0 < 15) ∧
    (let s := links0; let n := 56; let l := 15; let r := 183; let i := 4063; let a := 2 ^ 24 - 1
     (lanesInUse s.dev n).contains l = true ∧ s.pins.running = true ∧ n ≤ 56 ∧ (port s.dev n).st = 2 ∧ 1 ≤ r ∧ r ≤ 183 ∧
     ByOperator s op ∧ i ≤ 4063 ∧ a < 2 ^ 24) ∧
    (let s : State := { links0 with dev.fab.ports := [(55, { port links0.dev 55 with flitSeq := 1, unacked := 2 ^ 24 - 1 })] }
     (port s.dev 55).st = 2 ∧ flitHeld (port s.dev 55) 0 = true ∧ flitHeld (port s.dev 55) 1 = false) := by
  dsimp only [ByOperator, Serving]
  decide +kernel

theorem witness_PortsTrainAndGoDown :
    (let s := links0; let n := 55
     s.pins.running = true ∧ n < 56 ∧ (port s.dev n).st = 2 ∧ (port s.dev 56).st = 2 ∧ (usableLanes s.dev 56).contains 15 = true ∧
     (usableLanes s.dev n).contains 7 = true ∧
     (let d := errEvent (modPort s.dev n fun p => { p with
        removed := p.removed ++ [7], removedAt := tset p.removedAt 7 s.dev.tick, prbs := p.prbs.filter (· != 7) })
        (portInputOf n) 0 0xFF n n
      widthFor n (usableLanes d n).length ≠ 0)) ∧
    (let s := links0; let n := 1
     portEnabled s.dev n = true ∧ portMode s.dev n = 0 ∧ (port s.dev n).st ≠ 2 ∧ s.dev.obs.stage = 2 ∧
     s.dev.pwr.refLost.contains (n / 14) = false ∧ s.dev.pwr.st ≠ 2 ∧ portWidth s.dev n ≠ 0) ∧
    (let s : State := { links0 with dev.fab.ports := [(1, { port sv.dev 1 with failed := List.range 5 })] }; let n := 1
     portWidth s.dev n = 0 ∧ s.dev.pwr.st ≠ 2 ∧ portEnabled s.dev 56 = true ∧ portMode s.dev 56 = 0 ∧ (port s.dev 56).st ≠ 2 ∧
     (let lanes := 255; let d := modPort s.dev 56 fun p => { p with removed := (laneMask s.dev 56).filter fun l => !bit lanes l }
      widthFor 56 (usableLanes d 56).length ≠ 0)) := by decide +kernel

theorem witness_HostLinkRowsComplete :
    (let s := links0; let bytes := leBytes 2 3 ++ leBytes 2 0 ++ leBytes 4 32 ++ leBytes 8 0 ++ leBytes 2 0x0108 ++ leBytes 14 0
     Serving s ∧ (port s.dev 56).st = 2 ∧ field bytes 4 4 = bytes.length ∧ field bytes 2 1 = 0 ∧
     (∀ ch ∈ tget s.dev.host.chans (field bytes 0 2), ch.inHeld + bytes.length / 16 ≤ 131072) ∧
     (tget s.dev.host.chans (field bytes 0 2)).isSome = true ∧ field (bytes.drop 16) 0 2 ≠ 0x0402 ∧
     queuesOn s.dev 3 = [] ∧ (let b := leBytes 2 4 ++ bytes.drop 2; tget s.dev.host.chans (field b 0 2) = none)) ∧
    (let s := planned links0; let p := busyPlan 0
     s.dev.plan.active = some p ∧ mgmtSlot s.dev = true ∧ mgmtSlot sv.dev = true ∧ s.dev.obs.draining = false ∧ s.dev.host.lastIntake ≠ some s.dev.tick) := by
  dsimp only [Serving]
  decide +kernel

theorem witness_PlanCommandsComplete :
    (let s := sv; let h := op; let data : List Byte := [1]; let total := 128
     ByOperator s h ∧ s.dev.plan.finalCmd = none ∧ s.dev.plan.swapTick = none ∧ data ≠ [] ∧ data.length ≤ 65536 ∧
     data.length ≤ total) ∧
    (let s : State := { sv with dev.plan.standbySt := 1, dev.plan.total := 128 }
     let off := 112; let total := 128; let data := List.replicate 16 (1 : Byte)
     s.dev.plan.standbySt = 1 ∧ s.dev.plan.total = total ∧ off % 16 = 0 ∧ data ≠ [] ∧ off + data.length ≤ total) ∧
    (let s : State := { sv with dev.plan.standbySt := 2, dev.plan.standby := some plan0 }; let h := op; let t := 2
     s.dev.plan.standbySt = 2 ∧ h.tick + 2 ≤ t ∧ t < 2 ^ 64 - 1 ∧ s.dev.pwr.fumarole = false ∧ s.dev.mdl.switches = [] ∧
     retiredBusy s.dev = false ∧ s.dev.plan.swapTick = none) := by
  dsimp only [ByOperator, Serving]
  decide +kernel

/-- A message to the host of 48 bytes. -/
def msg0 : Msg := ⟨true, 0x0101, 0, 5, 5, 3, 0, 0, 0, 0, 0, 48, [], 0, 0, 0, none, 0⟩

theorem witness_TrafficRowsComplete :
    (let s := sv; let h := op; let mode := 1; let p := 0
     let c : ShaperCfg := ⟨64, 0, 63, 2 ^ 34, 0x03200000, 16777216, [(0x03200000, 16777216)]⟩
     let t : State := { sv with dev.parts := [(0, { part sv.dev 0 with flowGroups := 64 })] }
     ByOperator s h ∧ mode ≤ 1 ∧ anyQueued s.dev = false ∧
     (∀ q ∈ s.dev.parts, q.2.st ≠ .unconfigured → (subRange s.dev q.1).1 + (subRange s.dev q.1).2 ≤ modeSubs (mode == 1)) ∧
     (part t.dev p).st ≠ .unconfigured ∧ (c.subBase, c.flowGroups) = subRange t.dev p ∧
     1 ≤ c.flowGroups ∧ c.flowGroups ≤ 64 ∧ c.flow < c.flowGroups ∧
     (∀ o ∈ t.dev.parts, o.1 ≠ p → overlap c.subBase c.flowGroups (subRange t.dev o.1).1 (subRange t.dev o.1).2 = false) ∧
     c.subBase + c.flowGroups ≤ modeSubs t.dev.tsh.full ∧ 2 ^ 20 ≤ c.subBytes ∧ c.subBytes ≤ 2 ^ 34 ∧ c.subCost ≤ 0x03200000 ∧
     c.subBurst ≤ 16777216 ∧ (∀ x ∈ c.classes, x.1 ≤ 0x03200000 ∧ x.2 ≤ 16777216)) ∧
    (let s : State := { links0 with dev.fab.ports := [(56, { port links0.dev 56 with credits := [2, 2], fifos := [[], [msg0]] })] }
     let n := 56
     s.pins.running = true ∧ n ≤ 56 ∧ (port s.dev n).st = 2 ∧ flitsHeld (port s.dev n) < 512 ∧
     readyFifo (port s.dev n) = some (1, msg0) ∧ msg0.gone = 0 ∧ 0 < msg0.len ∧ msg0.len ≤ 592 ∧
     nextOn (chunksGo (port s.dev n) 1 (chunksOf msg0) (port s.dev n).flitSeq msg0) (vcOn msg0) = none) ∧
    (let s : State := { links0 with dev.host.chans := [(3, ⟨0, 0, 3, []⟩)], dev.tsh.queues := [(5, [msg0])], dev.tsh.wheel := [(5, 1)] }
     let now := 1; let q := 5; let e := 1; let m := msg0
     now / 2048 = s.dev.tick ∧ s.dev.tsh.clock ≤ now ∧
     (let d := moveBuckets { s.dev with tsh.clock := now } now
      nextEntry d now = some (q, e) ∧ now < e + 1 ∧
      (let d1 := { d with tsh.wheel := d.tsh.wheel.filter fun w => w.1 != q }
       queue d1 q = m :: [] ∧ (canHand d1 q now m).isSome = true))) := by
  dsimp only [ByOperator, Serving]
  decide +kernel

theorem witness_PartitionCommandsComplete :
    (let s := room; let h := op; let p := 255; let c : PartCfg := { PartCfg.initial with slotMask := 1, chanBase := 8, sessBase := 5, sessCount := 1 }
     ByOperator s h ∧ productionTest s.dev = false ∧ (part s.dev p).st ≠ .resetting ∧ firstFail (partitionChecks s.dev p c) = none ∧
     reserveOk s.dev p c = true ∧ bucketsUsed s.dev - (part s.dev p).cfg.pfxBuckets + c.pfxBuckets ≤ 2 ^ 21) ∧
    (let s := room; let c : PartCfg := (part room.dev 0).cfg; (applyConfig s.dev 0 c).isOk = true) ∧
    (let s : State := { room with dev.parts := room.dev.parts ++ [(1, Part.zero), (2, { Part.zero with st := .fenced }),
       (3, { Part.zero with st := .resetting, resetCmd := some op })] }
     (part s.dev 1).st = .opened ∧ (part s.dev 2).st = .fenced ∧ earlierOpen s.dev 1 op.seq = false ∧
     earlierOpen s.dev 2 op.seq = false ∧ (part s.dev 3).st = .resetting ∧ (part s.dev 3).resetCmd = some op ∧
     unanswered s.dev 3 = false) := by
  dsimp only [ByOperator, Serving]
  decide +kernel

theorem witness_FenceFencesSessions : 0 ∈ entriesOf live0.dev 0 ∧ (sess live0.dev 0).doomed = false := by decide +kernel

/-- `tierUp` as it answers an attestation. -/
def attest0 : State := { tierUp with dev.parts := [(0, { (part tierUp.dev 0) with attesting := some (op, [1]), kem := some 1 })] }

theorem witness_TrustCommandsComplete :
    let s := tierUp; let h := op; let us := 10000000
    Issued s h ∧ productionTest s.dev = false ∧ openDelivery s.dev h.part 1 2 [] [] = none ∧ s.dev.obs.opKey = none ∧
    h.part = 0 ∧ (part s.dev h.part).attesting = none ∧ us ≤ 10000000 ∧ (part attest0.dev 0).attesting = some (op, [1]) ∧
    attestFirst attest0.dev op.seq = true ∧ (∀ k ∈ (part s.dev h.part).tierKeys.head?, precedes 16 k.1 2 = true) ∧
    (∀ k ∈ (part s.dev h.part).replKeys.head?, precedes 16 k.1 2 = true) := by
  dsimp only [Issued, Serving]
  decide +kernel

/-- Any key that the published cipher opens is delivered; generation 1 is held, 2 is later, 0 is not. -/
theorem witness_KeyGenerationsAreCompared (ct wrap key : List Byte) (gen kind : Nat)
    (o : Config.gcmOpen (hkdf32 (Config.kemDecaps 1 ct) (wrapLabel ++ leBytes 1 0 ++ leBytes 1 kind ++ leBytes 2 gen)) 0 []
      (wrap.take 32) (wrap.drop 32) = some key) :
    openDelivery attest0.dev op.part kind gen ct wrap = some key ∧
    (part attest0.dev op.part).tierKeys = [(1, 0, [1])] ∧ (part attest0.dev op.part).replKeys = [(1, [2])] ∧
    precedes 16 1 2 = true ∧ precedes 16 1 1 = false ∧ precedes 16 1 0 = false :=
  ⟨o, by decide +kernel⟩

theorem witness_FirmwareCommandsComplete :
    (let s := sv; let h := op; let n := 32560
     ByOperator s h ∧ 32560 ≤ n ∧ n ≤ 16809712 ∧ s.dev.obs.fwCmd = none) ∧
    (let s : State := { sv with dev.obs.fw := ⟨1, 32560, [], []⟩ }
     firstFail (dataChecks s.dev.obs.fw 32544 (List.replicate 16 (0 : Byte))) = none) ∧
    (let s : State := { sv with dev.obs.fwCmd := some op }; s.dev.obs.fwCmd = some op) ∧
    (let x : FwHdr := ⟨true, 0, 1, 0, []⟩
     let s : State := { sv with dev.obs.staged := some x }
     s.dev.obs.staged = some x ∧ x.stateMin ≤ s.dev.obs.running.stateVersion ∧ handoverBars s.dev = false ∧
     s.dev.obs.draining = false ∧
     (let t : State := { s with dev.obs.handover := some op, dev.obs.draining := true }
      t.dev.obs.handover = some op ∧ drained t.dev op = true ∧ t.dev.plan.missed = true)) := by
  dsimp only [ByOperator, Serving]
  decide +kernel

theorem witness_ScrubRowsComplete :
    (let s := planned { sv with dev.tick := 3072000000 }
     Serving s ∧ s.dev.pwr.st < 2 ∧ s.dev.pwr.fumarole = false ∧ s.dev.hbm.scrubbing = false ∧
     s.dev.hbm.scrubDue + scrubPeriod s.dev ≤ s.dev.tick ∧ s.dev.tick % 1536 = 0 ∧ bgSlot s.dev 0 = true ∧ bgSlot s.dev 2 = true ∧ bgOn s.dev 2 (255 / 32) = true) ∧
    (let s := planned { sv with dev.hbm.scrubbing := true }; s.dev.hbm.scrubbing = true ∧ bgSlot s.dev 0 = true) ∧
    (let x : Frame := ⟨1, .valid, true, false, 0, 4, 0, true, 0⟩
     let s := planned { tierUp with dev.hbm.refills := [3], dev.pg.frames := [(3, x)] }; let f := 3
     bgSlot s.dev 0 = true ∧ s.dev.hbm.refills.contains f = true ∧ (s.dev.pg.xfers.any fun x => x.kind == .refill && x.frame == f) = false ∧
     frame s.dev f = some x ∧ x.st = .valid ∧ x.tv = true) ∧
    (let s := planned { sv with dev.hbm.rowErrs := [(255, 63, 7, 4)] }
     bgSlot s.dev 2 = true ∧ bgOn s.dev 2 (255 / 32) = true ∧ (s.dev.hbm.rowErrs.find? fun q => q.1 == 255 && q.2.1 == 63 && q.2.2.1 == 7) = some (255, 63, 7, 4) ∧ 4 ≤ 4) := by
  dsimp only [Serving]
  decide +kernel

/-- `room` retiring pseudo-channel 0 under a plan that lists it. -/
def retire0 : State := { planned room with dev.hbm.retire := some ⟨op, 0, 0⟩ }

theorem witness_RetirementRowsComplete :
    (let s : State := { room with dev.plan.active := some plan0 }; let h := op; let pc := 0; let p := plan0
     ByOperator s h ∧ s.dev.plan.active = some p ∧ p.retiredPcs.contains pc = true ∧ (pcAt s.dev pc).st = 1 ∧
     stackSpent s.dev pc = false ∧ s.dev.hbm.retire = none ∧ s.dev.pwr.fumarole = false ∧ s.dev.pwr.migrating = false) ∧
    (let x : Frame := ⟨1, .valid, false, false, 0, 0, 0, true, 0⟩; let f := 6094848
     let s : State := { retire0 with dev.pg.frames := [(f, x)] }
     bgSlot s.dev 2 = true ∧ frame s.dev f = some x ∧ (bandInUse s.dev).contains f = true ∧ (placeOrEvict s.dev x.loc (f % 8) 64).1.isSome = true ∧
     (bandInUse (placeOrEvict s.dev x.loc (f % 8) 64).2).contains f = true) ∧
    (let s := retire0; let r : Retire := ⟨op, 0, 0⟩
     bgSlot s.dev 2 = true ∧ bgOn s.dev 2 (r.pc / 32) = true ∧ s.dev.hbm.retire = some r ∧ bandInUse s.dev = [] ∧ r.cursor + 1 < retireGranules ∧
     retireGranules ≤ r.cursor + retireGranules) ∧
    (let s := planned { live0 with dev.pwr.migrating := true }; bgSlot s.dev 2 = true ∧ s.dev.pwr.migrating = true ∧ (toMigrate s.dev).head? = some 3) := by
  dsimp only [ByOperator, Serving]
  decide +kernel

/-- Session 0 on model 31, whose layer 0 is dense and whose group 0 of the active plan serves it. -/
def attn0 : State := { routed pages0 1 with
  dev.plan.active := some plan0
  dev.mdl.pipes := [(0, ⟨1, some 31⟩)] }

/-- An ATTN_REQ of one token: 64 bytes of body for its query, key and value. -/
def attnMsg : FabMsg := fromComp 0x01 0 96 (handleOf pages0.dev 0)
  (leBytes 2 0 ++ leBytes 2 1 ++ leBytes 4 (4 * pagePos layer0 + 1) ++ leBytes 2 0 ++ leBytes 6 0 ++ List.replicate 48 0)

theorem witness_RequestsAreAdmitted :
    let s := attn0; let p := 0; let cycle := 0; let m := attnMsg; let app := false; let i := 0; let ld := layer0
    let a := askOf app m; let d1 := noteSeen s.dev m.src m.type m.tag; let d2 := stampAsk d1 p cycle m; let d3 := touched d2 i
    Serving s ∧ Accepted s.dev p m (if app then 0x03 else 0x01) 1 ∧ firstFail (headChecks d2 m) = none ∧
    live d2 m.handle = some i ∧ stateStatus (sess d3 i) = none ∧ modelServed d3 (sess d3 i).model = true ∧
    layerOf d3 (sess d3 i) a.layer = some ld ∧ ((sess d3 i).layers[a.layer]?).isSome = true ∧
    (∀ x ∈ (sess d3 i).layers[a.layer]?, ∀ ds ∈ modelDesc d3 (sess d3 i).model,
      firstFail (askChecks x ld ds.maxQtok m.length a) = none) ∧
    (let m := fromComp 0x01 0 56 0 (List.replicate 24 0)
     Accepted s.dev p m 0x01 1 ∧ (firstFail (headChecks (stampAsk (noteSeen s.dev m.src m.type m.tag) p cycle m) m)).isSome = true) := by
  dsimp only [Serving, Accepted]
  decide +kernel

/-- An admitted request of group 0 in session 0. -/
def req0 : Req :=
  { seq := 4, tick := 0, cycle := 0, append := false, src := 7, tag := 3, part := 0, handle := handleOf pages0.dev 0, entry := 0,
    layer := 0, count := 1, first := 4 * pagePos layer0 + 1, deadline := 0, prefill := false, maskCols := none, maskRows := [],
    vecs := [], phase := .merging, group := 0, promised := 0, chargeP := 0, thawStamp := none, respStamp := none, rows := [], kept := [], appended := 0, newTails := [], failed := 0, fenced := false, books := [] }

theorem witness_RequestRowsComplete :
    (let s := planned { tierUp with
       dev.sess := [(0, { (sess tierUp.dev 0) with st := .thawing })]
       dev.pg.ptes := [(1, ⟨.tephra, false, false, false, false, false, 0, 5, 0⟩)]
       dev.pg.frames := [], dev.pg.descs := [(5, ⟨1, .valid, false, 0, 0, 0⟩)] }
     let handle := handleOf s.dev 0; let i := 0; let n := 1
     Serving s ∧ live s.dev handle = some i ∧ (sess s.dev i).st = .thawing ∧ forking s.dev i = false ∧ attachHolder s.dev i = false ∧
     svcSlot s.dev .mover (ownerOf s.dev i) = true ∧ (∀ r ∈ s.dev.reqs, r.entry ≠ i) ∧
     controlSpns s.dev (sess s.dev i) = [n] ∧ (thawPage s.dev i (ownerOf s.dev i) n).isOk = true) ∧
    (let s := planned { attn0 with dev.reqs := [req0] }; let p := busyPlan 0
     s.dev.reqs ≠ [] ∧ mgmtSlot s.dev = true ∧ planFor { s.dev with pwr.busySimmer := true } (s.dev.tick + 1) = some p ∧ s.dev.pwr.st = 0 ∧
     s.dev.pwr.throttle = false) ∧
    (let m : ManEnt := ⟨0, 1, 1, 0, 0, 0, 0, 5⟩; let m' := { m with planId := 6 }
     let s : State := { attn0 with dev.plan.latched := [m], dev.plan.missed := false }; let idx := 0; let p := plan0
     let t : State := { s with dev.plan.latched := [m'] }
     s.dev.plan.active = some p ∧ latchedAt s.dev idx 1 = some m ∧ s.dev.plan.missed = false ∧ m.planId = p.planId ∧
     t.dev.plan.active = some p ∧ latchedAt t.dev idx 1 = some m' ∧ t.dev.plan.missed = false ∧ m'.planId ≠ p.planId) ∧
    (let sl : Slot := ⟨.pipeline, 0, .merge, 0, 0, 0, [], 0, 0, 0, 0, [], [], [], [], none, none, 0⟩
     let s : State := { attn0 with dev.plan.active := some { plan0 with slots := [sl] }, dev.plan.missed := false, dev.reqs := [req0]
                                   dev.plan.latched := [⟨0, 3, 2, 1, 0, 0, 0, 5⟩] }
     let idx := 0
     (∀ p ∈ s.dev.plan.active, p.slots[idx]? = some sl) ∧ sl.cls = .merge ∧ sl.index = s.dev.tick % 64 ∧
     s.dev.plan.missed = false ∧ (latchedAt s.dev idx 2).isSome = true ∧
     carried { s.dev with plan.latched := s.dev.plan.latched.filter fun q => !(q.slot == idx && q.kind == 2) } sl.unit = []) ∧
    (let s : State := { attn0 with dev.reqs := [req0], dev.timers := [⟨.thaw, 0, 4, 0, some 9⟩, ⟨.response, 0, 4, 0, some 8⟩] }
     let seq := 4; let n := 9
     expiredAt s.dev .thaw seq = some n ∧ ((dropTimer s.dev .thaw seq).reqs.find? fun r => r.seq == seq) = some req0 ∧
     expiredAt s.dev .response seq = some 8) ∧
    (let s := planned { pages0 with
       dev.vnt.sumQ := [⟨0, 0, 10, 0⟩]
       dev.sess := tmod pages0.dev.sess 0 fun e => { e with layers := e.layers.map fun x => { x with sumSpns := [11] } }
       dev.pg.frames := tmod (tmod pages0.dev.pg.frames 20 id) 21 id }
     let i := 0; let l := 0; let k := 0; let f := 20; let ld := layer0
     s.dev.pwr.st < 2 ∧ s.dev.pwr.fumarole = false ∧ bgSlot s.dev 4 = true ∧
     ((bgSlotsNow s.dev).any fun y => y.activity == 4 && onStack y (stackOf f)) = true ∧ layerOf s.dev (sess s.dev i) l = some ld ∧
     (∀ x ∈ (sess s.dev i).layers[l]?, ∀ q ∈ x.pages[k]?,
       (s.dev.vnt.sumQ.find? fun j => j.entry == i && j.layer == l && j.spn == q.spn).isSome = true ∧
       residentFrame s.dev q.spn = some f ∧ sumWaits s.dev x ld k f = false)) := by
  dsimp only [Serving]
  decide +kernel

theorem witness_AnswersAdvanceLengths :
    let d := pages0.dev; let r := { req0 with appended := 1 }
    (sess d r.entry).doomed = false ∧ ((sess d r.entry).layers[r.layer]?).isSome = true ∧ r.fenced = false ∧ { r with fenced := true }.fenced = true ∧
    r.appended ≠ 0 ∧ stTierLate ≠ stOk := by decide +kernel

/-- Thread 0 of launch 3 of package 32: registers 1 and 2 hold 8 and 0. -/
def thread0 : VCtx := ⟨3, 0, [0, 8, 0] ++ List.replicate 61 0, 0, none⟩

/-- Its launch. -/
def launch0 : Launch :=
  { cmd := { op with seq := 3 }, d := ⟨32, 0, 1, 0, 0, 0, 0, 0, 0, 0⟩, objs := [], placed := some 0, live := 1, faulted := 0,
    firstThread := 0, fault := 0, pc := 0 }

/-- A READY package with 64 bytes of code and an arena of 4,096 bytes. -/
def pkg0 : Pkg :=
  { img := ⟨2, 128, [9], []⟩, target := 0, objects := false, device := true, codeLen := 64, entry := 0, arenaBytes := 4096,
    pages := 0, maxCtx := 1, budget := 9, kpages := [] }

/-- `sv` with that thread in context 0. -/
def vent0 : State := { sv with
  dev.plan.active := some (busyPlan 0), dev.plan.missed := false
  dev.vnt.pkgs := [(32, pkg0)], dev.vnt.launches := [launch0], dev.vnt.ctxs := [(ctxKey ctx0, thread0)] }

/-- `vent0` with an instruction word at the start of its package's code. -/
def ventWith (w : Nat) : State := { vent0 with dev.pg.hbm := Memory.writeBytes vent0.dev.pg.hbm (frameBase 9 + 64) (leBytes 4 w) }

/-- The word is the next one of a ready context, and it can be the row's instruction. -/
def readyFor (w : Nat) (r : VRow) : Prop :=
  Serving (ventWith w) ∧ CtxReady (ventWith w).dev ctx0 thread0 ∧ r.fits (codeWord (ventWith w).dev ctx0 thread0) = true

/-- A word from the fields of RR and of RI (R383). -/
def wordRR (major rd rs1 rs2 : Nat) : Nat := major * 2 ^ 26 + rd * 2 ^ 21 + rs1 * 2 ^ 16 + rs2 * 2 ^ 11
def wordRI (major rd rs1 imm : Nat) : Nat := major * 2 ^ 26 + rd * 2 ^ 21 + rs1 * 2 ^ 16 + imm

theorem witness_VentScalarRowsComplete :
    (let x := thread0
     (∀ q ∈ [(wordRR 0 3 1 2, rowInteger .add 3 1 (.reg 2)), (wordRI 0x0F 3 1 0xFFFF, rowInteger .sub 3 1 (.imm (-1))),
       (wordRR 5 3 1 1, rowInteger .div 3 1 (.reg 1)), (wordRR 5 3 1 2, rowInteger .rem 3 1 (.reg 2)),
       (0x10 * 2 ^ 26 + 2 ^ 26 - 1, rowControl .jump 0 0 (-1)), (wordRI 0x11 1 0 0, rowControl .jumpReg 1 0 0),
       (0x12 * 2 ^ 26 + 5, rowControl .jumpLink 0 0 5), (wordRI 0x17 1 2 0xFFFF, rowControl .beq 1 2 (-1)),
       (0x3C * 2 ^ 26, rowSystem true)], readyFor q.1 q.2) ∧
     src2 x (.reg 1) ≠ 0 ∧ src2 x (.reg 2) = 0 ∧ ctx0.mudpot = false ∧ (pkgOf (ventWith 0).dev x).2.device = true) ∧
    (let x := { thread0 with wait := some (.result 5 7) }; let s : State := { vent0 with dev.vnt.ctxs := [(ctxKey ctx0, x)] }
     ctxOf s.dev ctx0 = some x) := by
  dsimp only [readyFor, Serving, CtxReady]
  decide +kernel

theorem witness_VentMemoryRowsComplete :
    let s := ventWith 0; let x := thread0; let base := 1; let n := 8; let len := (pkgOf s.dev x).2.arenaBytes
    (∀ q ∈ [(wordRI 0x18 3 1 0, rowMemory true 3 base 0), (wordRI 0x18 3 1 4080, rowMemory false 3 base 4080),
      (wordRI 0x1F 3 1 4081, rowMemory false 3 base 4081), (wordRI 0x1F 3 1 4088, rowMemory false 3 base 4088),
      (wordRI 0x1C 3 1 8, rowMemory true 3 base 8), (wordRR 0x23 3 1 2, rowAtomic .cas 3 1 2)], readyFor q.1 q.2) ∧
    memAddr x base 0 + n ≤ len ∧ memAddr x base 0 % n = 0 ∧ memAddr x base 4080 + 8 ≤ len ∧
    memAddr x base 4081 % n ≠ 0 ∧ len < memAddr x base 4088 + n ∧ memAddr x base 8 % 16 = 0 ∧ memAddr x base 8 + 16 ≤ len ∧
    (gget x 1).toNat + 8 ≤ len ∧ (gget x 1).toNat % 8 = 0 := by
  dsimp only [readyFor, Serving, CtxReady]
  decide +kernel

theorem witness_ArenaStoreFrame :
    let s := ventWith (wordRI 0x18 2 1 0); let c := ctx0; let x := thread0; let n := 8; let base := 1
    readyFor (wordRI 0x18 2 1 0) (rowMemory false 2 base 0) ∧ n ∈ [1, 2, 4, 8, 16] ∧ memAddr x base 0 < 2 ^ 60 ∧
    Memory.wf s.dev.vnt.arena = true ∧ (∃ t, exec (.ventStore c n 2 base 0) s = .next t) := by
  refine ⟨by dsimp only [readyFor, Serving, CtxReady]; decide +kernel, by decide, by decide +kernel, by decide, ⟨_, rfl⟩⟩

theorem witness_VentVectorRowsComplete :
    (∀ q ∈ [(0x28 * 2 ^ 26 + 2 ^ 22 + 2 * 2 ^ 17 + 15 * 2 ^ 12 + 4 * 2 ^ 8, rowVector .add .bf16 1 2 15),
      (0x2F * 2 ^ 26, rowVector .illegal .bf16 1 2 3), (wordRR 0x30 3 1 0, rowConversion false 3 1),
      (0x33 * 2 ^ 26 + 3 * 2 ^ 22 + 2 ^ 17, rowConversion true 3 1)], readyFor q.1 q.2) ∧
    ctx0.mudpot = false ∧ vecAssigned .add .bf16 = true ∧ vecAssigned .illegal .bf16 = false := by
  dsimp only [readyFor, Serving, CtxReady]
  decide +kernel

/-- A Mudpot context of stack 0. -/
def mud0 : CtxId := ⟨true, 0, 0⟩

/-- `live0` with its control page in frame 8, which lies in stack 0. -/
def grants0 : State := { live0 with
  dev.pg.ptes := [(1, ⟨.hbm, false, false, false, false, false, 0, 8, 0⟩)]
  dev.pg.frames := [(8, ⟨1, .valid, false, false, 0, 0, 0, true, 0⟩)] }

theorem witness_GrantRowsComplete :
    (let g : Grant := ⟨mud0, 1, 8, false, 0, false⟩; let s := planned { grants0 with dev.vnt.grants := [g] }
     let c := mud0; let spn := 1; let off := 65535; let data : List Byte := [1]
     Serving s ∧ c.mudpot = true ∧ stackBg s.dev (c.core / 32) = true ∧ off + data.length ≤ 65536 ∧ grantOf s.dev c spn = some g ∧
     g.revoked = false ∧ stackHolds s.dev (c.core / 32) g.frame off data.length = true ∧
     badIn (mendBad s.dev g.frame off data.length false) g.frame off data.length = none) ∧
    (let s := planned grants0; let c := mud0; let spn := 1; let f := 8
     grantOf s.dev c spn = none ∧ stackBg s.dev (c.core / 32) = true ∧ inWindow s.dev f = false ∧ (pte s.dev spn).isSome = true ∧
     (let d := stampAt s.dev 20 0x09 0 (frameOwner s.dev f) spn 0
      grantable d spn 99 = false ∧ grantable d spn f = true ∧ grantOwn d c spn = true ∧ (d.vnt.grants.filter fun g => g.ctx == c).length < 4 ∧
      (d.vnt.grants.filter fun g => g.stack == c.core / 32).length < 512)) := by
  dsimp only [Serving]
  decide +kernel

theorem witness_WriteGrantsComplete :
    (let s := planned grants0; let c := mud0; let spn := 1; let f := 8
     Serving s ∧ c.mudpot = true ∧ stackBg s.dev (c.core / 32) = true ∧ inWindow s.dev f = false ∧ grantable s.dev spn f = true ∧
     grantOwn s.dev c spn = true ∧ (s.dev.vnt.grants.filter fun g => g.ctx == c).length < 4 ∧
     (s.dev.vnt.grants.filter fun g => g.stack == c.core / 32).length < 512 ∧ (pte s.dev spn).isSome = true) ∧
    (let g : Grant := ⟨mud0, 1, 8, true, 0, false⟩; let s := planned { grants0 with dev.vnt.grants := [g] }
     let c := mud0; let spn := 1; let off := 0; let data := List.replicate 65536 (1 : Byte)
     Serving s ∧ stackBg s.dev (c.core / 32) = true ∧ off + data.length ≤ 65536 ∧ grantOf s.dev c spn = some g ∧ g.revoked = false ∧
     stackHolds s.dev (c.core / 32) g.frame off data.length = true ∧ g.raw = true ∧ Memory.wf s.dev.pg.hbm = true) := by
  dsimp only [Serving]
  decide +kernel

theorem witness_KernelCommandsComplete :
    (let s := room; let h := op; let o := 255; let n := 128
     ByOperator s h ∧ 32 ≤ o ∧ o ≤ 255 ∧ 128 ≤ n ∧ n ≤ 0xFFFFFFC0 ∧ n % 64 = 0 ∧ (pkg s.dev o).img.st = 0 ∧
     (allocOwnMany s.dev false 0 (ceilDiv n 65536)).isOk = true) ∧
    (let s : State := { room with dev.vnt.pkgs := [(32, { pkg0 with img := loading })] }; let o := 32
     firstFail (dataChecks (pkg s.dev o).img 112 (List.replicate 16 (0 : Byte))) = none ∧ (pkg s.dev o).img.st ≠ 0 ∧
     pkgBusy s.dev o = false) := by
  dsimp only [ByOperator, Serving]
  decide +kernel

theorem witness_DataCommandsWriteTheirFrames :
    let s : State := { room with dev.vnt.pkgs := [(32, { pkg0 with img := loading })] }
    ByOperator s op ∧ Memory.wf s.dev.pg.hbm = true ∧ (pkg s.dev 32).img.frames = [9] ∧
    ∃ t, exec (.kernelData op 32 0 [1]) s = .next t := by
  refine ⟨by dsimp only [ByOperator, Serving]; decide +kernel, by decide, by decide, ⟨_, rfl⟩⟩

theorem witness_LaunchRowsComplete :
    (let s := vent0; let h := op; let q : LaunchDesc := ⟨32, 1, 1, 0, 8, 0, 0, 9, 0, 0⟩
     let t := s
     let k := pkg t.dev q.package
     Serving s ∧ h.part = 0 ∧ fenced t.dev 0 = false ∧ t.dev.pwr.fumarole = false ∧ q.package ≤ 255 ∧ k.img.st = 2 ∧
     poolOpen t.dev k q.pool = true ∧ 1 ≤ q.contexts ∧ q.contexts ≤ k.maxCtx ∧ q.argStride % 8 = 0 ∧ q.objCount = 0 ∧
     q.objList = 0 ∧ q.budget ≤ k.budget) ∧
    (let l : Launch := { launch0 with placed := none, live := 0, d := ⟨32, 1, 1, 0, 8, 0, 0, 9, 0, 0⟩ }
     let s : State := { vent0 with dev.vnt.launches := [l], dev.vnt.ctxs := [], dev.vnt.clusters := [(0, 1)]
                                   dev.plan.latched := [⟨0, 4, 3, 1, 0, 0, 0, 5⟩], dev.plan.descs := [(0, [3])] }
     let seq := 3; let p := pkg s.dev l.d.package
     launchOf s.dev seq = some l ∧ l.placed = none ∧ listed s.dev 3 seq = true ∧ s.dev.pwr.throttle = false ∧ s.dev.pwr.st ≠ 2 ∧ p.img.st = 2 ∧
     l.d.contexts ≤ (poolContexts (unlist s.dev 3 seq) p l.d.pool).length) ∧
    (let l : Launch := { launch0 with live := 0 }
     let s : State := { vent0 with dev.vnt.launches := [l], dev.timers := [⟨.budget, 0, 3, 0, some 9⟩] }; let seq := 3
     launchOf s.dev seq = some l ∧ l.placed.isSome = true ∧ l.live = 0 ∧ (expiredAt s.dev .budget seq).isSome = true) := by
  dsimp only [Serving]
  decide +kernel

/-! ## Steps and operations -/

/-- FIPS 180-4, the digest of "abc". -/
theorem test_sha256_abc : sha256 [97, 98, 99] =
    [0xba, 0x78, 0x16, 0xbf, 0x8f, 0x01, 0xcf, 0xea, 0x41, 0x41, 0x40, 0xde, 0x5d, 0xae, 0x22, 0x23,
     0xb0, 0x03, 0x61, 0xa3, 0x96, 0x17, 0x7a, 0x9c, 0xb4, 0x10, 0xff, 0x61, 0xf2, 0x00, 0x15, 0xad] := by decide +kernel

/-- The table gives no bits, so no word spells a command. -/
theorem test_no_table_word : decodeTableWord 32 0xFFFFFFFF = none := by decide

/-- R422, R424: with no marked lane an error of one lane is corrected, wherever it is and whatever bits it flips; errors of two or of
three lanes are uncorrectable. -/
theorem test_outer_code :
    uncorrectable sv.dev ⟨⟨9, 0, 0⟩, [(35, 0xFFFF)], 0⟩ = false ∧
    uncorrectable sv.dev ⟨⟨9, 0, 0⟩, [(0, 1), (35, 0xFFFF)], 0⟩ = true ∧
    uncorrectable sv.dev ⟨⟨9, 0, 0⟩, [(0, 1), (1, 1), (35, 0xFFFF)], 0⟩ = true := by decide +kernel

/-- R422, R424: with one marked lane that lane and one other are corrected, with two marked lanes both. -/
theorem test_outer_marks :
    outerDecode [4] (syndromes [(4, 0x8001), (20, 7)]) = some [(4, 0x8001), (20, 7)] ∧
    outerDecode [4, 35] (syndromes [(4, 3), (35, 9)]) = some [(4, 3), (35, 9)] ∧
    outerDecode [4, 35] (syndromes [(6, 1)]) = none := by decide +kernel

/-- R100: V is bit 63, TIER bits 62 and 61 (0 for HBM), the location bits 47 to 0. -/
theorem test_pte_word : pteWord (some ⟨.hbm, false, false, false, false, false, 0, 3, 0⟩) = 2 ^ 63 + 3 := by decide +kernel

/-- R545, R552: the 48 bytes of the reply in the worked example of spec/17_host_link_and_commands.md. -/
theorem test_reply_bytes :
    wireBytes (hostMsg 0x0505 3 4 0 12 0 0 0x1A2B 0 (leBytes 5 40217)) =
      [0x0C, 0, 0, 0, 0x30, 0, 0, 0, 0, 0, 0, 0, 0, 0, 0, 0, 5, 5, 3, 0, 0x2B, 0x1A, 0, 0, 2, 0, 0, 0, 0, 0, 0, 0,
       0x19, 0x9D, 0, 0, 0] ++ z 11 := by decide +kernel

/-- R450: a message under way goes on first, another of the virtual channel begins behind it in the same flit. -/
theorem test_flit_runs :
    let p := { port sv.dev 56 with credits := [0, 1], fifos := [[{ msg0 with len := 800, gone := 37 }], [], [], [], [], [msg0]] }
    ((sendFlit p 1).1.map fun q => q.2) = [(37, 13), (0, 3)] ∧ startsOf 0 (sendFlit p 1).1 = [13] ∧
      (sendFlits 1 2 p).flitSeq = 1 := by decide +kernel

/-- R446: (x − 1)(x − α). -/
theorem test_link_generator : rsGenerator gf10 2 = [1, 3, 2] := by decide +kernel

end Sys2Proof.Tests
end

section
/-!
PROOFS. The scope family: every command answers and leaves the queue (log 1), the arrival of attention requests (R697),
and the Vent's vector and conversion classes (R383, R384).
-/

namespace Sys2Proof.Machine

/-! ## What a row does to the state -/

/-- A row's effect on the device leaves the queue (log 1). -/
theorem run_leaves_pending (s : State) (f : Dev → Dev) : ∃ t, run s f = .next t ∧ t.pending = s.pending := by
  by_cases h : s.pins.running = true
  · exact ⟨_, run_running f h, rfl⟩
  · exact ⟨s, run_stopped f (Bool.eq_false_iff.2 h), rfl⟩

/-- A row that serves after stage 1 leaves the queue. -/
theorem serve_leaves_pending (s : State) (f : Dev → Dev) : ∃ t, serve s f = .next t ∧ t.pending = s.pending :=
  run_leaves_pending s _

/-- A row that acts before stage 2, but for the thermal trip, is an effect on the running device (R583, R654). -/
theorem exec_eq_run_of_earlyRow {c : Instr} (he : earlyRow c = true) (ht : c ≠ .thermalTrip) :
    ∃ f, ∀ s, exec c s = run s f := by
  unfold exec
  cases c
  case thermalTrip => exact absurd rfl ht
  case registerWrite | postedWrite | postedWriteDone | loReadLatch | hiWriteCommit | readClear | hwmRead | setdasa
      | i3cPrivateWrite | i3cSetAddress | i3cPrivateRead | errlogRptrWrite | boot | refclkLoss | tickBoundary | portDown
      | hostLinkDown | laneRemove | fabricPortTrain | hostLinkTrain | linkReplay | creditReturn | cardRateChange
      | portTransmit | manifestSeal | captureEnable | mudOpCoresWrite => exact ⟨_, fun _ => rfl⟩
  all_goals cases he

/-- Every other row is an effect on the device once it serves (R654). -/
theorem exec_eq_serve {c : Instr} (hp : pinRow c = false) (he : earlyRow c = false) :
    ∃ f, ∀ s, exec c s = serve s f := by
  unfold exec
  cases c
  case powerOn | sysResetAssert | sysResetRelease | brownout | powerDown | testPortInstruction => cases hp
  case thermalTrip | registerWrite | postedWrite | postedWriteDone | loReadLatch | hiWriteCommit | readClear | hwmRead
      | setdasa | i3cPrivateWrite | i3cSetAddress | i3cPrivateRead | errlogRptrWrite | boot | refclkLoss | tickBoundary
      | portDown | hostLinkDown | laneRemove | fabricPortTrain | hostLinkTrain | linkReplay | creditReturn
      | cardRateChange | portTransmit | manifestSeal | captureEnable | mudOpCoresWrite => cases he
  all_goals exact ⟨_, fun _ => rfl⟩

/-! ## The rows of the pins leave the queue -/

@[simp] theorem powerOn_pending (s : State) : (powerOn s).pending = s.pending := by
  unfold powerOn; split <;> rfl

@[simp] theorem sysResetAssert_pending (s : State) : (sysResetAssert s).pending = s.pending := by
  unfold sysResetAssert; split <;> rfl

@[simp] theorem sysResetRelease_pending (straps : BitVec 16) (refclk : Bool) (s : State) :
    (sysResetRelease straps refclk s).pending = s.pending := by
  unfold sysResetRelease; dsimp only; split_ifs <;> rfl

@[simp] theorem brownout_pending (rail : Nat) (s : State) : (brownout rail s).pending = s.pending := by
  unfold brownout; dsimp only; split_ifs <;> rfl

@[simp] theorem thermalTrip_pending (s : State) : (thermalTrip s).pending = s.pending := by
  unfold thermalTrip; split <;> rfl

@[simp] theorem powerDown_pending (s : State) : (powerDown s).pending = s.pending := rfl

@[simp] theorem testPortInstruction_pending (code : BitVec 8) (s : State) :
    (testPortInstruction code s).pending = s.pending := by
  unfold testPortInstruction; split <;> rfl

/-- A row of the pins moves them in one step and leaves the queue. -/
theorem exec_pinRow_leaves_pending {c : Instr} (hp : pinRow c = true) (s : State) :
    ∃ t, exec c s = .next t ∧ t.pending = s.pending := by
  cases c
  case powerOn => exact ⟨_, rfl, powerOn_pending s⟩
  case sysResetAssert => exact ⟨_, rfl, sysResetAssert_pending s⟩
  case sysResetRelease straps refclk => exact ⟨_, rfl, sysResetRelease_pending straps refclk s⟩
  case brownout rail => exact ⟨_, rfl, brownout_pending rail s⟩
  case powerDown => exact ⟨_, rfl, powerDown_pending s⟩
  case testPortInstruction code => exact ⟨_, rfl, testPortInstruction_pending code s⟩
  all_goals cases hp

/-- Settles O2: a row moves the pins, acts early or serves, and none of the three touches the queue. -/
theorem everyCommandAnswers : Obligations.EveryCommandAnswers := by
  intro c s
  cases hp : pinRow c with
  | true => exact exec_pinRow_leaves_pending hp s
  | false =>
    cases he : earlyRow c with
    | false =>
      obtain ⟨f, hf⟩ := exec_eq_serve hp he
      rw [hf]
      exact serve_leaves_pending s f
    | true =>
      by_cases ht : c = .thermalTrip
      · exact ⟨thermalTrip s, by rw [ht]; rfl, thermalTrip_pending s⟩
      · obtain ⟨f, hf⟩ := exec_eq_run_of_earlyRow he ht
        rw [hf]
        exact run_leaves_pending s f

/-! ## The arrival of a request (R697) -/

/-- The entry that a request names has its tick noted on arrival (R152). -/
theorem modSess_lastTick (d : Dev) (i : Nat) : (modSess d i fun e => { e with lastTick := d.tick }) = touched d i := rfl

/-- R697: an accepted request that fails a check of its head is answered with that check's status. -/
theorem askArrives_head_fails {d d2 : Dev} {p cycle st : Nat} {m : FabMsg} {append : Bool}
    (ha : Accepted d p m (if append then 0x03 else 0x01) 1)
    (h2 : stampAsk (noteSeen d m.src m.type m.tag) p cycle m = d2) (hhead : firstFail (headChecks d2 m) = some st) :
    askArrives d p cycle m append = rejectAsk d2 m (askOf append m) st (noteSeen d m.src m.type m.tag).led.next := by
  simp only [askArrives, accept_ok _ _ ha, h2, hhead]

/-- R697: an accepted request that passes the checks of its head, of its session and of its body is admitted. -/
theorem askArrives_admitted {d d2 d3 : Dev} {p cycle i : Nat} {m : FabMsg} {append : Bool} {a : Ask} {ld : LayerDesc}
    {x : LayerSt} {ds : Descr} (ha : Accepted d p m (if append then 0x03 else 0x01) 1) (hask : askOf append m = a)
    (h2 : stampAsk (noteSeen d m.src m.type m.tag) p cycle m = d2) (h3 : touched d2 i = d3)
    (hhead : firstFail (headChecks d2 m) = none) (hlive : live d2 m.handle = some i)
    (hstate : stateStatus (sess d3 i) = none) (hserved : modelServed d3 (sess d3 i).model = true)
    (hlayer : layerOf d3 (sess d3 i) a.layer = some ld) (hx : (sess d3 i).layers[a.layer]? = some x)
    (hdesc : modelDesc d3 (sess d3 i).model = some ds) (hbody : firstFail (askChecks x ld ds.maxQtok m.length a) = none) :
    askArrives d p cycle m append = admitAsk d3 m a i (noteSeen d m.src m.type m.tag).led.next cycle ld := by
  simp only [askArrives, accept_ok _ _ ha, hask, h2, hhead, hlive, modSess_lastTick, h3, hstate, hserved, hlayer, hx,
    hdesc, hbody, Bool.not_true, Bool.false_eq_true, if_false]

/-- ATTN_REQ and APPEND_ONLY are the arrival of their request at a serving device. -/
theorem exec_ask {s : State} (hs : Serving s) (p cycle : Nat) (m : FabMsg) (append : Bool) :
    exec (if append then .appendOnly p cycle m else .attnReq p cycle m) s =
      did s (askArrives s.dev p cycle m append) := by
  cases append with
  | false => exact serve_serving (fun d => askArrives d p cycle m false) hs
  | true => exact serve_serving (fun d => askArrives d p cycle m true) hs

/-- Settles O49, from what an accepted request's arrival does where its checks pass and where one of its head fails. -/
theorem requestsAreAdmitted : Obligations.RequestsAreAdmitted := by
  refine ⟨?_, ?_⟩
  · intro s p cycle m app i ld x ds hs ha a d1 d2 d3 hhead hlive hstate hserved hlayer hx hdesc hbody
    rw [exec_ask hs, askArrives_admitted ha rfl rfl rfl hhead hlive hstate hserved hlayer hx hdesc hbody]
  · intro s p cycle st m hs ha d1 d2 hhead
    exact (exec_ask hs p cycle m false).trans (congrArg (did s) (askArrives_head_fails (append := false) ha rfl hhead))

/-! ## The issue of a Vent instruction (R380, R383 to R386) -/

/-- An instruction whose word stands at a ready context's program counter runs on that context's thread. -/
theorem issue_ready {d : Dev} {c : CtxId} {x : VCtx} {r : VRow} (k : Dev → VCtx → Dev) (hc : CtxReady d c x)
    (hr : r.fits (codeWord d c x) = true) : issue d c r k = k (turnTo d c r.waits) x := by
  obtain ⟨hx, hwait, hslot, hturn, hview, halign⟩ := hc
  simp [issue, hx, hwait, hslot, hturn, Nat.not_le.2 hview, halign, hr]

/-- The outcome of a served row that is an instruction of a ready context. -/
theorem serve_issue_ready {s : State} {c : CtxId} {x : VCtx} {r : VRow} (k : Dev → VCtx → Dev) (hs : Serving s)
    (hc : CtxReady s.dev c x) (hr : r.fits (codeWord s.dev c x) = true) :
    (serve s fun d => issue d c r k) = did s (k (turnTo s.dev c r.waits) x) := by
  rw [serve_serving _ hs, issue_ready k hc hr]

/-- A write of a general register leaves the program counter. -/
theorem gset_pc (x : VCtx) (r : Nat) (v : VReg) : (gset x r v).pc = x.pc := by
  unfold gset; split <;> rfl

/-- Settles O55: each clause is the row's effect on the thread of a ready context. -/
theorem ventVectorRowsComplete : Obligations.VentVectorRowsComplete := by
  intro s c x hs hc i d
  refine ⟨?_, ?_, ?_, ?_⟩
  · intro op ty vd vs1 vs2 hvent hassigned hfits
    refine (serve_issue_ready _ hs hc hfits).trans (congrArg (did s) ?_)
    simp [hvent, hassigned, fallThrough, d, rowVector]
  · intro op ty vd vs1 vs2 hbad hfits
    exact (serve_issue_ready _ hs hc hfits).trans (congrArg (did s) (if_pos hbad))
  · intro src dst rd rs1 hfits
    refine (serve_issue_ready _ hs hc hfits).trans (congrArg (did s) ?_)
    simp [retire, fallThrough, gset_pc, d, rowConversion]
  · intro src dst rd rs1 hfits y
    exact serve_issue_ready _ hs hc hfits

end Sys2Proof.Machine
end

section
/-!
PROOFS. The device overview family: rows wait for their device (R654, R682), the invariant of a stopped device, and what
the pins start, stop and lose (R46, R677, R681 to R684, R691, R693).
-/

namespace Sys2Proof.Machine

/-! ## Rows that the pins do not carry -/

/-- Every row that leaves the pins, but for the thermal trip, is an effect on the running device. -/
theorem exec_eq_run {c : Instr} (hp : pinRow c = false) (ht : c ≠ .thermalTrip) : ∃ f, ∀ s, exec c s = run s f := by
  cases he : earlyRow c with
  | true => exact exec_eq_run_of_earlyRow he ht
  | false =>
    obtain ⟨f, hf⟩ := exec_eq_serve hp he
    exact ⟨_, hf⟩

/-- What a row that is an effect on the device answers: the device's effect where it runs, else the state as it was. -/
theorem run_cases {s t : State} {f : Dev → Dev} (h : run s f = .next t) :
    (s.pins.running = true ∧ t = { s with dev := f s.dev }) ∨ (s.pins.running = false ∧ t = s) := by
  cases hr : s.pins.running with
  | true => rw [run_running f hr] at h; cases h; exact .inl ⟨rfl, rfl⟩
  | false => rw [run_stopped f hr] at h; cases h; exact .inr ⟨rfl, rfl⟩

theorem run_keeps_pins {s t : State} {f : Dev → Dev} (h : run s f = .next t) : t.pins = s.pins := by
  rcases run_cases h with ⟨-, rfl⟩ | ⟨-, rfl⟩ <;> rfl

/-- Before the end of stage 1 a row that serves does nothing (R654). -/
theorem serve_before_stage2 {s : State} (f : Dev → Dev) (h : s.dev.obs.stage ≠ 2) : serve s f = .next s := by
  simp [serve, run, h]

theorem thermalTrip_stopped {s : State} (h : s.pins.running = false) : thermalTrip s = s := by
  simp [thermalTrip, h]

/-- Settles O3: a row that is none of the pins' is the thermal trip or an effect on the running device. -/
theorem rowsWaitForTheirDevice : Obligations.RowsWaitForTheirDevice := by
  intro c s hp
  refine ⟨fun hstop => ?_, fun he hstage => ?_, fun ht t hexec => ?_⟩
  · by_cases ht : c = .thermalTrip
    · subst ht
      exact congrArg Host.Outcome.next (thermalTrip_stopped hstop)
    · obtain ⟨f, hf⟩ := exec_eq_run hp ht
      rw [hf, run_stopped f hstop]
  · obtain ⟨f, hf⟩ := exec_eq_serve hp he
    rw [hf, serve_before_stage2 f hstage]
  · obtain ⟨f, hf⟩ := exec_eq_run hp ht
    exact run_keeps_pins (hf s ▸ hexec)

/-! ## The pins -/

theorem Pins.running_iff (p : Pins) : p.running = true ↔
    p.released = true ∧ p.powered = true ∧ p.refclk = true ∧ p.tripped = false := by
  simp [Pins.running, and_assoc]

theorem Pins.legal_iff (p : Pins) : p.legal = true ↔
    (p.released = true → p.powered = true) ∧ (p.tripped = true → p.released = true ∧ p.refclk = true) := by
  simp [Pins.legal, imp_iff_not_or]

/-- Pins that hold SYS_RESET_N asserted are legal unless they show a trip (R681, R693). -/
theorem Pins.legal_of_unreleased {p : Pins} (hr : p.released = false) (ht : p.tripped = false) : p.legal = true := by
  simp [Pins.legal_iff, hr, ht]

/-- SYS_RESET_N asserted shows no trip (R693). -/
theorem Pins.untripped_of_unreleased {p : Pins} (h : p.legal = true) (hr : p.released = false) : p.tripped = false := by
  simpa [hr] using ((Pins.legal_iff p).1 h).2

/-! ## The invariant of a stopped device -/

/-- What a device without power left is all that it holds (R46). -/
@[simp] theorem Dev.lost_lost (d : Dev) : d.lost.lost = d.lost := rfl

theorem inv_of_running {s : State} (hrun : s.pins.running = true) (hlegal : s.pins.legal = true) : Inv s :=
  ⟨fun hstop => absurd (hrun.symm.trans hstop) (by decide), hlegal⟩

/-- A device that has lost all meets the invariant under legal pins. -/
theorem inv_loseAll {s : State} (h : s.pins.legal = true) : Inv (loseAll s) := ⟨fun _ => (Dev.lost_lost s.dev).symm, h⟩

/-- A device that starts under the pins that let it run meets the invariant (R677). -/
theorem inv_startDev {s : State} (hrun : s.pins.running = true) (hlegal : s.pins.legal = true) : Inv (startDev s) :=
  inv_of_running (s := startDev s) hrun hlegal

/-- A row that is an effect on the device keeps the invariant. -/
theorem run_keeps_inv {s t : State} {f : Dev → Dev} (hi : Inv s) (h : run s f = .next t) : Inv t := by
  rcases run_cases h with ⟨hrun, rfl⟩ | ⟨-, rfl⟩
  · exact inv_of_running hrun hi.2
  · exact hi

/-! ## The rows of the pins keep the invariant -/

theorem powerOn_keeps_inv {s : State} (hi : Inv s) : Inv (powerOn s) := by
  unfold powerOn
  split
  · exact hi
  · exact inv_loseAll (Pins.legal_of_unreleased rfl rfl)

theorem sysResetAssert_keeps_inv {s : State} (hi : Inv s) : Inv (sysResetAssert s) := by
  unfold sysResetAssert
  split
  · exact hi
  · exact inv_loseAll (Pins.legal_of_unreleased rfl rfl)

theorem powerDown_keeps_inv (s : State) : Inv (powerDown s) := inv_loseAll (Pins.legal_of_unreleased rfl rfl)

/-- R681, R687: a release with power and REFCLK_SYS lets the device run; without the clock it stays in reset. -/
theorem sysResetRelease_keeps_inv {s : State} (straps : BitVec 16) (refclk : Bool) (hi : Inv s) :
    Inv (sysResetRelease straps refclk s) := by
  unfold sysResetRelease
  split
  next => exact hi
  next h =>
    obtain ⟨hreleased, hpowered⟩ : s.pins.released = false ∧ s.pins.powered = true := by simpa using h
    have htrip := Pins.untripped_of_unreleased hi.2 hreleased
    cases refclk with
    | true => exact inv_startDev (by simp [Pins.running_iff, hpowered, htrip]) (by simp [Pins.legal_iff, hpowered])
    | false => exact inv_loseAll (by simp [Pins.legal_iff, hpowered, htrip])

/-- R684: after a brownout the device starts again where its clock is there. -/
theorem brownout_keeps_inv {s : State} (rail : Nat) (hi : Inv s) : Inv (brownout rail s) := by
  unfold brownout
  split
  next => exact hi
  next h =>
    obtain ⟨-, hreleased, hpowered⟩ : rail ≤ 4 ∧ s.pins.released = true ∧ s.pins.powered = true := by simpa using h
    dsimp only
    split
    next hclk =>
      exact inv_startDev (by simp [Pins.running_iff, hreleased, hpowered, hclk]) (by simp [Pins.legal_iff, hpowered])
    next => exact inv_loseAll (by simp [Pins.legal_iff, hpowered])

/-- R693: a trip stops a running device, whose pins are then released with a good clock. -/
theorem thermalTrip_keeps_inv {s : State} (hi : Inv s) : Inv (thermalTrip s) := by
  unfold thermalTrip
  split
  next hrun =>
    obtain ⟨hreleased, hpowered, hclk, -⟩ := (Pins.running_iff _).1 hrun
    exact inv_loseAll (by simp [Pins.legal_iff, hreleased, hpowered, hclk])
  next => exact hi

/-- The test port's instruction is no part of what the invariant speaks of (R691). -/
theorem testPortInstruction_keeps_inv {s : State} (code : BitVec 8) (hi : Inv s) : Inv (testPortInstruction code s) := by
  unfold testPortInstruction
  split
  · exact hi
  · exact hi

/-- Every command keeps the invariant. -/
theorem exec_keeps_inv {s t : State} {c : Instr} (hi : Inv s) (h : exec c s = .next t) : Inv t := by
  cases hp : pinRow c with
  | false =>
    by_cases ht : c = .thermalTrip
    · subst ht; cases h; exact thermalTrip_keeps_inv hi
    · obtain ⟨f, hf⟩ := exec_eq_run hp ht
      exact run_keeps_inv hi (hf s ▸ h)
  | true =>
    cases c
    case powerOn => cases h; exact powerOn_keeps_inv hi
    case sysResetAssert => cases h; exact sysResetAssert_keeps_inv hi
    case sysResetRelease straps refclk => cases h; exact sysResetRelease_keeps_inv straps refclk hi
    case brownout rail => cases h; exact brownout_keeps_inv rail hi
    case powerDown => cases h; exact powerDown_keeps_inv s
    case testPortInstruction code => cases h; exact testPortInstruction_keeps_inv code hi
    all_goals cases hp

/-- Settles O5: a step idles or runs the command at the front, which keeps the invariant. -/
theorem stepsKeepInvariant : Obligations.StepsKeepInvariant := by
  intro s t hi h
  unfold step at h
  split at h
  next => cases h; exact hi
  next c rest hq => exact exec_keeps_inv (s := { s with pending := rest }) hi h

/-- Settles O4: the pins of State.reset let the device run. -/
theorem resetMeetsInvariant : Obligations.ResetMeetsInvariant := inv_of_running rfl rfl

/-! ## What the pins start, stop and lose -/

/-- R677, R681: with power and REFCLK_SYS a release of SYS_RESET_N starts the device under the straps it samples. -/
theorem sysResetRelease_starts {s : State} (st : BitVec 16) (hpow : s.pins.powered = true)
    (hrel : s.pins.released = false) : sysResetRelease st true s =
      startDev { s with pins := { s.pins with released := true, straps := st, refclk := true } } := by
  simp [sysResetRelease, hpow, hrel]

/-- R684: a brownout of a running device starts it again. -/
theorem brownout_running {s : State} {rail : Nat} (hrail : rail ≤ 4) (hrun : s.pins.running = true) :
    brownout rail s = startDev { s with pins := { s.pins with cause := 0 } } := by
  obtain ⟨hrel, hpow, hclk, htrip⟩ := (Pins.running_iff _).1 hrun
  simp [brownout, Nat.not_lt.2 hrail, hrel, hpow, hclk, ← htrip]

/-- Settles O7: what each row of the pins does where its condition holds. The test port's instruction after power-on
(log 3), the restart within the brownout's step under the straps kept (log 13) and the instructions that a reset turns
into BYPASS (log 14) are the model's reading. -/
theorem pinsStartAndStop : Obligations.PinsStartAndStop := by
  intro s
  refine ⟨fun hpow => ?powerOn, fun st hpow hrel => ?release, fun hrel => ?assert, fun r hr hrun => ?brownout,
    fun hrun => ?trip, rfl, fun code hpow => ?testPort⟩
  case powerOn => exact congrArg Host.Outcome.next (if_neg (by simp [hpow]))
  case release => exact ⟨_, congrArg Host.Outcome.next (sysResetRelease_starts st hpow hrel), rfl, rfl, rfl, rfl, rfl, rfl, rfl⟩
  case assert => exact congrArg Host.Outcome.next (if_neg (by simp [hrel]))
  case brownout => exact ⟨_, congrArg Host.Outcome.next (brownout_running hr hrun), rfl, rfl, rfl, rfl, rfl, rfl, rfl⟩
  case trip => exact congrArg Host.Outcome.next (if_pos hrun)
  case testPort => exact congrArg Host.Outcome.next (if_pos hpow)

end Sys2Proof.Machine
end

section
/-!
PROOFS. The device overview family, requests: what an answered request leaves in its layer (R34, R465). First the session
table that drops of pages and the answer's messages leave, then the length of one layer.
-/

namespace Sys2Proof.Machine

/-! ## What leaves the session table -/

/-- A step repeated over a list leaves the session table where one step does. -/
theorem foldl_sess {α : Type} {f : Dev → α → Dev} (h : ∀ d a, (f d a).sess = d.sess) (l : List α) (d : Dev) :
    (l.foldl f d).sess = d.sess :=
  List.foldlRecOn (motive := fun d' => d'.sess = d.sess) l f rfl fun d' hd a _ => (h d' a).trans hd

@[simp] theorem endDescTwin_sess (d : Dev) (a : Nat) : (endDescTwin d a).sess = d.sess := by
  unfold endDescTwin; split
  · split_ifs <;> rfl
  · rfl

@[simp] theorem freeFrame_sess (d : Dev) (f : Nat) : (freeFrame d f).sess = d.sess := by
  have htwin : (match frame d f with
      | some x => if x.tv then endDescTwin d x.twin else d
      | none => d).sess = d.sess := by
    split
    · split_ifs <;> simp
    · rfl
  unfold freeFrame; dsimp only; split <;> exact htwin

@[simp] theorem decFrame_sess (d : Dev) (f : Nat) : (decFrame d f).sess = d.sess := by
  unfold decFrame; split
  · split_ifs
    · exact freeFrame_sess d f
    · rfl
  · rfl

@[simp] theorem decDesc_sess (d : Dev) (a : Nat) : (decDesc d a).sess = d.sess := by
  unfold decDesc; split
  · split_ifs <;> rfl
  · rfl

@[simp] theorem noteSticky_sess (d : Dev) (n : Nat) : (noteSticky d n).sess = d.sess := by
  unfold noteSticky; split_ifs <;> rfl

@[simp] theorem holdFrame_sess (d : Dev) (f spn : Nat) : (holdFrame d f spn).sess = d.sess := by
  simp only [holdFrame, incFrame]; split
  · exact noteSticky_sess _ _
  · rfl

@[simp] theorem holdCopy_sess (d : Dev) (a spn : Nat) : (holdCopy d a spn).sess = d.sess := by
  simp only [holdCopy, incDesc]; split
  · exact noteSticky_sess _ _
  · rfl

@[simp] theorem holdBeforeDrop_sess (d : Dev) (spn : Nat) : (holdBeforeDrop d spn).sess = d.sess := by
  unfold holdBeforeDrop
  split
  · dsimp only
    split
    · split
      · exact holdCopy_sess _ _ _
      · rfl
      · split
        · split_ifs
          · exact holdCopy_sess _ _ _
          · exact holdFrame_sess _ _ _
        · rfl
    · rfl
  · rfl

@[simp] theorem notePage_sess (d : Dev) (spn : Nat) : (notePage d spn).sess = d.sess := by
  unfold notePage; split_ifs <;> rfl

@[simp] theorem revokeGrants_sess (d : Dev) (spn : Nat) : (revokeGrants d spn).sess = d.sess := by
  unfold revokeGrants; dsimp only; split_ifs <;> rfl

@[simp] theorem freeSpn_sess (d : Dev) (spn : Nat) : (freeSpn d spn).sess = d.sess := by
  unfold freeSpn; dsimp only; split
  · rfl
  · split
    · exact foldl_sess decFrame_sess _ _
    · rfl

/-- The Drop event leaves the session table. -/
@[simp] theorem dropPage_sess (d : Dev) (spn : Nat) : (dropPage d spn).sess = d.sess := by
  unfold dropPage; split
  · simp [illegalEvent]
  · dsimp only
    split <;> simp

@[simp] theorem dropPages_sess (d : Dev) (l : List Nat) : (dropPages d l).sess = d.sess := foldl_sess dropPage_sess l d

@[simp] theorem zeroRow_sess (d : Dev) (ld : LayerDesc) (f row : Nat) : (zeroRow d ld f row).sess = d.sess :=
  foldl_sess (fun d h => by dsimp only; split_ifs <;> rfl) _ d

@[simp] theorem captureRec_sess (d : Dev) (r : LedRec) : (captureRec d r).sess = d.sess := by
  unfold captureRec; split_ifs <;> rfl

@[simp] theorem noteInput_sess (d : Dev) (n : Nat) : (noteInput d n).sess = d.sess := by
  unfold noteInput wake; dsimp only; split_ifs <;> rfl

@[simp] theorem stampAt_sess (d : Dev) (a b c e f g : Nat) : (stampAt d a b c e f g).sess = d.sess := by simp [stampAt]

@[simp] theorem workDone_sess (d : Dev) (a b c e : Nat) : (workDone d a b c e).sess = d.sess := by simp [workDone, stamp]

@[simp] theorem sendRsp_sess (d : Dev) (src tag part handle layer count first status outFmt ref : Nat) (out : List Byte) :
    (sendRsp d src tag part handle layer count first status outFmt ref out).sess = d.sess := by simp [sendRsp, sendFab]

@[simp] theorem countEvent_sess (d : Dev) (p k n : Nat) : (countEvent d p k n).sess = d.sess := rfl

@[simp] theorem dropReq_sess (d : Dev) (r : Req) : (dropReq d r).sess = d.sess := rfl

/-! ## The length of a layer -/

/-- Entry i is live, and its layer l has length n. -/
def LayerLen (d : Dev) (i l n : Nat) : Prop :=
  (sess d i).doomed = false ∧ (sess d i).layers[l]?.map (·.len) = some n

section LayerLen

variable {d d' : Dev} {i l n : Nat}

theorem LayerLen.exists_layer (h : LayerLen d i l n) : ∃ y, (sess d i).layers[l]? = some y ∧ y.len = n :=
  Option.map_eq_some_iff.1 h.2

theorem LayerLen.of_sess_eq (h : LayerLen d i l n) (hs : d'.sess = d.sess) : LayerLen d' i l n := by
  simpa only [LayerLen, sess, hs] using h

/-- A change of the layer that takes every length to its image under `k` does so with this one. -/
theorem layerLen_modLayer {g : LayerSt → LayerSt} {k : Nat → Nat} (h : LayerLen d i l n)
    (hg : ∀ x, (g x).len = k x.len) : LayerLen (modLayer d i l g) i l (k n) := by
  obtain ⟨y, hy, rfl⟩ := h.exists_layer
  refine ⟨?_, ?_⟩
  · simpa [modLayer] using h.1
  · simp [modLayer, modNth, hy, hg]

/-- The page at the end of a layer's list is no part of its length. -/
theorem layerLen_dropTail (h : LayerLen d i l n) : LayerLen (dropTail d i l) i l n :=
  layerLen_modLayer (k := id) h fun _ => rfl

/-- R103: the window drop keeps the length. -/
theorem layerLen_windowDrop (h : LayerLen d i l n) : LayerLen (windowDrop d i l) i l n := by
  have hshort : ∀ m, LayerLen (modLayer d i l fun x => { x with pages := x.pages.drop m }) i l n :=
    fun m => layerLen_modLayer (k := id) h fun _ => rfl
  unfold windowDrop
  dsimp only
  split
  · split_ifs
    · exact h
    · exact (hshort _).of_sess_eq (dropPages_sess _ _)
  · exact h

/-- R34: a discarded append was never in the length. -/
theorem layerLen_discardAppend {r : Req} (h : LayerLen d r.entry r.layer n) :
    LayerLen (discardAppend d r) r.entry r.layer n := by
  unfold discardAppend
  dsimp only
  split_ifs
  · exact h
  · have htails : LayerLen (r.newTails.foldl (fun s n => dropTail (dropPage s n) r.entry r.layer) d)
        r.entry r.layer n :=
      List.foldlRecOn (motive := fun d => LayerLen d r.entry r.layer n) r.newTails _ h
        fun d hd spn _ => layerLen_dropTail (hd.of_sess_eq (dropPage_sess d spn))
    split
    · split_ifs
      · exact htails
      · split
        · split
          · exact htails.of_sess_eq (foldl_sess (fun d k => by split_ifs <;> simp) _ _)
          · exact htails
        · exact htails
    · exact htails

/-! ## The answer of a request -/

/-- R95: the code of the answer; a request that was admitted when its partition was fenced has lost its result. -/
def answerCode (r : Req) (code : Nat) : Nat := if r.fenced then stFenced else code

/-- R34: what the answer makes of the append: it joins the layer, or it is discarded. -/
def settleAppend (d : Dev) (r : Req) (code : Nat) : Dev :=
  if code = stOk then
    if r.appended = 0 then d
    else windowDrop (modLayer d r.entry r.layer fun l => { l with len := r.first + r.appended }) r.entry r.layer
  else discardAppend d r

theorem finishDoomed_live (h : (sess d i).doomed = false) : finishDoomed d i = d := by simp [finishDoomed, h]

/-- R97, R465: past the append the answer leaves a live session's layer; its reply and its events touch no session. -/
theorem layerLen_endReq {r : Req} {code : Nat} (out : List Byte)
    (h : LayerLen (settleAppend d r (answerCode r code)) r.entry r.layer n) :
    LayerLen (endReq d r code out) r.entry r.layer n := by
  have hdoomed : ∀ {d1 : Dev}, d1.sess = (settleAppend d r (answerCode r code)).sess →
      LayerLen (finishDoomed d1 r.entry) r.entry r.layer n := fun hs => by
    have h1 := h.of_sess_eq hs
    rwa [finishDoomed_live h1.1]
  refine hdoomed ?_
  unfold settleAppend answerCode
  simp only [countEvent_sess, apply_ite Dev.sess, workDone_sess, ite_self, sendRsp_sess, dropReq_sess]

/-- R34: an answer of ST_OK takes the append into the length. -/
theorem settleAppend_ok {r : Req} (h : LayerLen d r.entry r.layer n) (happ : r.appended ≠ 0) :
    LayerLen (settleAppend d r stOk) r.entry r.layer (r.first + r.appended) := by
  rw [settleAppend, if_pos rfl, if_neg happ]
  exact layerLen_windowDrop (layerLen_modLayer (k := fun _ => r.first + r.appended) h fun _ => rfl)

/-- R34: any other answer leaves the length. -/
theorem settleAppend_discards {r : Req} {code : Nat} (h : LayerLen d r.entry r.layer n) (hcode : code ≠ stOk) :
    LayerLen (settleAppend d r code) r.entry r.layer n := by
  rw [settleAppend, if_neg hcode]
  exact layerLen_discardAppend h

theorem answerCode_ne_ok {r : Req} {code : Nat} (h : code ≠ stOk ∨ r.fenced = true) : answerCode r code ≠ stOk := by
  unfold answerCode
  split
  next => decide
  next hf => exact h.resolve_right hf

end LayerLen

/-- Settles O51: what the answer makes of the append decides the length that the rest of the answer leaves. -/
theorem answersAdvanceLengths : Obligations.AnswersAdvanceLengths := by
  intro d r x out code hlive hx
  have hlen : LayerLen d r.entry r.layer x.len := ⟨hlive, by simp [hx]⟩
  refine ⟨fun hfenced happ => ?_, fun hcode => ?_⟩
  · have hok : answerCode r stOk = stOk := by simp [answerCode, hfenced]
    exact (layerLen_endReq (code := stOk) out (by rw [hok]; exact settleAppend_ok hlen happ)).exists_layer
  · exact (layerLen_endReq out (settleAppend_discards hlen (answerCode_ne_ok hcode))).exists_layer

end Sys2Proof.Machine
end

section
/-!
PROOFS. The device overview family, rows that serve requests: the thaw of control pages, manifests, layer batches, merge
slots, expiries and page summaries (R29 to R34, R59 to R71, R92, R193, R207 to R213).
-/

namespace Sys2Proof.Machine

/-- A row that serves has, on a serving device, the effect that its meaning has. -/
theorem serve_eq_did {s : State} {f : Dev → Dev} {d : Dev} (hs : Serving s) (h : f s.dev = d) :
    serve s f = did s d := by rw [serve_serving f hs, h]

/-! ## Control pages (R92, R141) -/

/-- R92, R141: the control pages of a THAWING session thaw in a data mover's slot, unless its requests have all arrived
in this tick. -/
theorem controlThaw_ready {d : Dev} {i : Nat} (hst : (sess d i).st = .thawing) (hfork : forking d i = false)
    (hattach : attachHolder d i = false) (hslot : svcSlot d .mover (ownerOf d i) = true)
    (hreqs : (∀ r ∈ d.reqs, r.entry ≠ i) ∨ ∃ r ∈ d.reqs, r.entry = i ∧ r.tick ≠ d.tick) :
    controlThaw d i = activate ((controlSpns d (sess d i)).foldl (thawControl i) d) i := by
  have hearly : ((d.reqs.any fun r => r.entry == i) &&
      d.reqs.all fun r => r.entry != i || r.tick == d.tick) = false := by
    rcases hreqs with hnone | ⟨r, hr, hentry, htick⟩
    · exact Bool.and_eq_false_iff.2 (.inl (List.any_eq_false.2 fun r hr => by simpa using hnone r hr))
    · exact Bool.and_eq_false_iff.2 (.inr (List.all_eq_false.2 ⟨r, hr, by simp [hentry, htick]⟩))
  unfold controlThaw
  exact if_neg (by simp [hst, hfork, hattach, hslot, hearly])

/-! ## Manifests (R67, R68) -/

/-- Firmware prepares the next tick's manifest: with requests to serve, a plan, a slot of its own, and no reason to hold
FG or KERNEL work back. -/
theorem manifestPrepare_offers {d d1 : Dev} {p : Plan} (hreqs : d.reqs ≠ [])
    (h1 : { d with pwr.busySimmer := true } = d1) (hplan : planFor d1 (d.tick + 1) = some p)
    (hslot : mgmtSlot d1 = true) (hst : d1.pwr.st = 0) (hthrottle : d1.pwr.throttle = false) :
    manifestPrepare d = writeManifest (offerItems p (d.tick + 1) (offerLaunches p (d.tick + 1)
      ((d1.reqs.map (·.seq)).foldl (admitOne p (d.tick + 1)) d1))) p (d.tick + 1) := by
  have hbusy : (if d.reqs.isEmpty then d else { d with pwr.busySimmer := true }) = d1 :=
    (if_neg (by simpa using hreqs)).trans h1
  unfold manifestPrepare
  dsimp only
  rw [hbusy]
  simp [hplan, hslot, hst, hthrottle]

/-! ## Layer batches and merge slots (R29, R68, R70, R193) -/

/-- The batch of a slot whose entry was latched for the active plan runs. -/
theorem layerBatch_runs {d d0 : Dev} {p : Plan} {idx : Nat} {m : ManEnt} {decay : List CwErr}
    (h0 : decay.foldl readErrs d = d0) (hplan : d0.plan.active = some p) (hent : latchedAt d0 idx 1 = some m)
    (hmissed : d0.plan.missed = false) (hid : m.planId = p.planId) :
    layerBatch d idx decay = (descReqs d0 m).foldl runReq { d0 with
      plan.latched := d0.plan.latched.filter fun q => !(q.slot == idx && q.kind == 1), pwr.busySimmer := true } := by
  subst h0
  unfold layerBatch
  simp only [hplan, hent]
  rw [hmissed, if_neg (by decide), if_neg (not_not_intro hid)]
  rfl

/-- R68: an entry made for another plan is skipped, and its requests wait again. -/
theorem layerBatch_skips {d d0 : Dev} {p : Plan} {idx : Nat} {m : ManEnt} {decay : List CwErr}
    (h0 : decay.foldl readErrs d = d0) (hplan : d0.plan.active = some p) (hent : latchedAt d0 idx 1 = some m)
    (hmissed : d0.plan.missed = false) (hid : m.planId ≠ p.planId) :
    layerBatch d idx decay = unadmit (bump { d0 with
      plan.latched := d0.plan.latched.filter fun q => !(q.slot == idx && q.kind == 1), pwr.busySimmer := true }
      Addr.FSQ_MANIFEST_SKIP_CNT) (descReqs d0 m) := by
  subst h0
  unfold layerBatch
  simp only [hplan, hent]
  rw [hmissed, if_neg (by decide), if_pos hid]
  rfl

/-- R71: a merge slot with no page to merge settles the requests of its group. -/
theorem mergeSlot_settles {d : Dev} {p : Plan} {idx : Nat} {sl : Slot} (hplan : d.plan.active = some p)
    (hsl : p.slots[idx]? = some sl) (hcls : sl.cls = .merge) (hindex : sl.index = d.tick % 64)
    (hmissed : d.plan.missed = false) (hent : (latchedAt d idx 2).isSome = true) {d0 d1 : Dev}
    (h0 : { d with plan.latched := d.plan.latched.filter fun q => !(q.slot == idx && q.kind == 2) } = d0)
    (hnone : carried d0 sl.unit = []) (h1 : bumpBy d0 Addr.GEY_MERGE_CARRY_CNT 0 = d1) :
    mergeSlot d idx [] =
      ((d1.reqs.filter fun r => r.group == sl.unit && r.phase == .merging).map (·.seq)).foldl settleReq d1 := by
  have hslot : (d.plan.active.bind fun p => p.slots[idx]?) = some sl := by simp [hplan, hsl]
  have hopen : ¬ (sl.cls ≠ .merge ∨ sl.index ≠ d.tick % 64 ∨ d.plan.missed = true ∨
      (latchedAt d idx 2).isNone = true) := by simp [hcls, hindex, hmissed, Option.isSome_iff_ne_none.1 hent]
  subst h0 h1
  simp only [mergeSlot, List.foldl_nil, hslot, if_neg hopen, hnone, List.isEmpty_nil, if_true, List.take_nil,
    List.length_nil, Nat.zero_sub]

/-! ## Expiries (R66, R71) -/

theorem thawExpiry_stamped {d : Dev} {seq n : Nat} {r : Req} (hexp : expiredAt d .thaw seq = some n)
    (hfind : ((dropTimer d .thaw seq).reqs.find? fun r => r.seq == seq) = some r) {d1 : Dev}
    (h1 : noteLateThaws (dropTimer d .thaw seq) (r.kept.filter (lateAt n)) = d1) :
    thawExpiry d seq = { d1 with reqs := d1.reqs.map fun r => if r.seq = seq then
      { r with thawStamp := some n,
               failed := if r.phase = .merging ∧ (r.kept.any (lateAt n)) then stTierLate else r.failed } else r } := by
  simp only [thawExpiry, hexp, hfind, h1]

theorem responseExpiry_stamped {d : Dev} {seq n : Nat} (hexp : expiredAt d .response seq = some n) :
    responseExpiry d seq =
      { d with reqs := d.reqs.map fun r => if r.seq = seq then { r with respStamp := some n } else r } := by
  simp only [responseExpiry, hexp]

/-! ## Page summaries (R207 to R213) -/

/-- A layer changed depends on what the change makes of that layer alone. -/
theorem modLayer_congr {d : Dev} {i l : Nat} {x : LayerSt} {g g' : LayerSt → LayerSt}
    (hx : (sess d i).layers[l]? = some x) (hg : g x = g' x) : modLayer d i l g = modLayer d i l g' := by
  have hlayers : modNth (sess d i).layers l g = modNth (sess d i).layers l g' := by
    refine List.ext_getElem? fun j => ?_
    rw [modNth, modNth, List.getElem?_modify, List.getElem?_modify]
    by_cases hj : l = j
    · subst hj; simp [hx, hg]
    · simp [hj]
  simp only [modLayer, modSess, hlayers]

/-- The layer with the summary entry of its page q at index k, whose positions end at `stop` (R207). -/
def withSummary (q : PageEnt) (k stop : Nat) (heads : List SumHead) (y : LayerSt) : LayerSt :=
  { y with pages := modNth y.pages k fun p => { p with
    sum := { valid := true, spn := q.spn, posCount := stop - q.first, heads := heads } } }

/-- R208, R210: the summary of a page that lies on one stack with its entry is built from the page and counted; within
its target time it is not late. -/
theorem summaryBuild_builds {d : Dev} {i l k f : Nat} {ld : LayerDesc} {x : LayerSt} {q : PageEnt} {job : SumJob}
    {page : Nat × PageData} (hfum : d.pwr.fumarole = false) (hld : layerOf d (sess d i) l = some ld)
    (hx : (sess d i).layers[l]? = some x) (hq : x.pages[k]? = some q)
    (hjob : (d.vnt.sumQ.find? fun j => j.entry == i && j.layer == l && j.spn == q.spn) = some job)
    (hframe : residentFrame d q.spn = some f) (hwaits : sumWaits d x ld k f = false)
    (hbg : ((bgSlotsNow d).any fun y => y.activity == 4 && onStack y (stackOf f)) = true) {d0 d1 : Dev}
    (h0 : dropJob d i l q.spn = d0) (hstack : oneStack d0 x ld k f = true)
    (hpage : pageData d0 (sess d i) l ld q.spn q.first (pageEnd x k) = .ok page)
    (h1 : bump (modLayer d0 i l fun y => withSummary q k (pageEnd y k) (sumHeads ld page.2) y)
      Addr.MUD_SUM_BUILT_CNT = d1) (hlim : d1.tick - job.tick ≤ lim d1 Addr.MUD_SUM_TARGET) :
    summaryBuild d i l k = d1 := by
  have hx0 : (sess d0 i).layers[l]? = some x := h0 ▸ hx
  have hsum : (modLayer d0 i l fun y => withSummary q k (pageEnd y k) (sumHeads ld page.2) y) =
      modLayer d0 i l (withSummary q k (pageEnd x k) (sumHeads ld page.2)) := modLayer_congr hx0 rfl
  rw [hsum] at h1
  subst h1
  simp only [summaryBuild, hfum, hld, hx, hq, hjob, hframe, hwaits, hbg, h0, hstack, hpage, Bool.not_true,
    Bool.false_eq_true, or_self, if_false]
  exact if_neg (Nat.not_lt.2 hlim)

/-- Settles O50: each clause is the row's effect on a serving device whose state meets the row's conditions. -/
theorem requestRowsComplete : Obligations.RequestRowsComplete := by
  intro s hs
  refine ⟨?thaw, ?manifest, ?batch, ?skip, ?merge, ?thawExpiry, ?responseExpiry, ?summary⟩
  case thaw =>
    intro handle i hlive hst hfork hattach hslot hreqs
    change execControlPageThaw handle s = _
    unfold execControlPageThaw
    refine serve_eq_did hs ?_
    simp only [hlive]
    exact controlThaw_ready hst hfork hattach hslot hreqs
  case manifest =>
    intro p hreqs hplan hslot hst hthrottle t
    exact serve_eq_did hs (manifestPrepare_offers hreqs rfl hplan hslot hst hthrottle)
  case batch =>
    intro p idx m hplan hent hmissed hid
    exact serve_eq_did (f := fun d => layerBatch d idx []) hs (layerBatch_runs rfl hplan hent hmissed hid)
  case skip =>
    intro p idx decay m hplan hent hmissed hid d
    exact serve_eq_did (f := fun d => layerBatch d idx decay) hs (layerBatch_skips rfl hplan hent hmissed hid)
  case merge =>
    intro p idx sl hplan hsl hcls hindex hmissed hent d0 hnone d
    exact serve_eq_did (f := fun d => mergeSlot d idx []) hs
      (mergeSlot_settles hplan hsl hcls hindex hmissed hent rfl hnone rfl)
  case thawExpiry =>
    intro seq n r hexp hfind d
    exact serve_eq_did (f := fun d => thawExpiry d seq) hs (thawExpiry_stamped hexp hfind rfl)
  case responseExpiry =>
    intro seq n hexp
    exact serve_eq_did (f := fun d => responseExpiry d seq) hs (responseExpiry_stamped hexp)
  case summary =>
    intro i l k f ld x q job page hst hfum hslot hld hx hq hjob hframe hwaits hbg d hstack hpage d1 hlim
    refine serve_eq_did (f := background 4 2 true fun d => summaryBuild d i l k) hs ?_
    rw [background_ok 4 2 true _ hst hfum hslot]
    exact congrArg (noteBg 4) (summaryBuild_builds hfum hld hx hq hjob hframe hwaits hbg rfl hstack hpage rfl hlim)

end Sys2Proof.Machine
end

section
/-!
PROOFS. The tick and ledger family, the tick counter (R47): what leaves it alone, the boundary that advances it, and the
registers that show it.
-/

namespace Sys2Proof.Machine

/-! ## Events, alerts and power -/

/-- A step repeated over a list leaves the tick counter where one step does. -/
theorem foldl_tick {α : Type} {f : Dev → α → Dev} (h : ∀ d a, (f d a).tick = d.tick) (l : List α) (d : Dev) :
    (l.foldl f d).tick = d.tick :=
  List.foldlRecOn (motive := fun d' => d'.tick = d.tick) l f rfl fun d' hd a _ => (h d' a).trans hd

@[simp] theorem wake_tick (d : Dev) : (wake d).tick = d.tick := by unfold wake; split_ifs <;> rfl

@[simp] theorem captureRec_tick (d : Dev) (r : LedRec) : (captureRec d r).tick = d.tick := by
  unfold captureRec; split_ifs <;> rfl

@[simp] theorem noteInput_tick (d : Dev) (n : Nat) : (noteInput d n).tick = d.tick := by
  unfold noteInput; dsimp only; split_ifs
  · exact wake_tick _
  · rfl
  · rfl

@[simp] theorem stampAt_tick (d : Dev) (input type status part object cycle : Nat) :
    (stampAt d input type status part object cycle).tick = d.tick := by simp [stampAt]

@[simp] theorem stamp_tick (d : Dev) (input type status part object : Nat) :
    (stamp d input type status part object).tick = d.tick := by simp [stamp]

@[simp] theorem workDone_tick (d : Dev) (input status part object : Nat) :
    (workDone d input status part object).tick = d.tick := stamp_tick ..

@[simp] theorem alert_tick (d : Dev) (code object part : Nat) : (alert d code object part).tick = d.tick := by
  unfold alert; dsimp only; split_ifs
  · rfl
  · simp [sendHost]

@[simp] theorem noteBg_tick (d : Dev) (a : Nat) : (noteBg a d).tick = d.tick := by unfold noteBg; split_ifs <;> rfl

/-! ## Frames, copies and pages (R99 to R113) -/

@[simp] theorem noteSticky_tick (d : Dev) (n : Nat) : (noteSticky d n).tick = d.tick := by
  unfold noteSticky; split_ifs <;> rfl

@[simp] theorem endDescTwin_tick (d : Dev) (a : Nat) : (endDescTwin d a).tick = d.tick := by
  unfold endDescTwin; split
  · split_ifs <;> rfl
  · rfl

@[simp] theorem freeFrame_tick (d : Dev) (f : Nat) : (freeFrame d f).tick = d.tick := by
  unfold freeFrame; dsimp only
  have htwin : (match frame d f with
      | some x => if x.tv then endDescTwin d x.twin else d
      | none => d).tick = d.tick := by
    split
    · split_ifs
      · exact endDescTwin_tick ..
      · rfl
    · rfl
  split <;> exact htwin

@[simp] theorem decFrame_tick (d : Dev) (f : Nat) : (decFrame d f).tick = d.tick := by
  unfold decFrame; split
  · split_ifs
    · exact freeFrame_tick d f
    · rfl
  · rfl

@[simp] theorem freeFrames_tick (d : Dev) (fs : List Nat) : (freeFrames d fs).tick = d.tick :=
  foldl_tick decFrame_tick fs d

@[simp] theorem decDesc_tick (d : Dev) (a : Nat) : (decDesc d a).tick = d.tick := by
  unfold decDesc; split
  · split_ifs <;> rfl
  · rfl

@[simp] theorem incFrame_tick (d : Dev) (f : Nat) : (incFrame d f).tick = d.tick := by
  unfold incFrame; split
  · exact noteSticky_tick ..
  · rfl

@[simp] theorem incDesc_tick (d : Dev) (a : Nat) : (incDesc d a).tick = d.tick := by
  unfold incDesc; split
  · exact noteSticky_tick ..
  · rfl

@[simp] theorem holdBeforeDrop_tick (d : Dev) (spn : Nat) : (holdBeforeDrop d spn).tick = d.tick := by
  unfold holdBeforeDrop; dsimp only; split
  · split
    · split
      · simp [holdCopy]
      · rfl
      · split
        · split_ifs <;> simp [holdCopy, holdFrame]
        · rfl
    · rfl
  · rfl

@[simp] theorem notePage_tick (d : Dev) (spn : Nat) : (notePage d spn).tick = d.tick := by
  unfold notePage; split_ifs <;> rfl

@[simp] theorem revokeGrants_tick (d : Dev) (spn : Nat) : (revokeGrants d spn).tick = d.tick := by
  unfold revokeGrants; dsimp only; split_ifs <;> rfl

@[simp] theorem freeSpn_tick (d : Dev) (spn : Nat) : (freeSpn d spn).tick = d.tick := by
  unfold freeSpn; dsimp only; split
  · rfl
  · split
    · exact foldl_tick decFrame_tick _ _
    · rfl

@[simp] theorem dropPage_tick (d : Dev) (spn : Nat) : (dropPage d spn).tick = d.tick := by
  unfold dropPage; split
  · simp [illegalEvent]
  · dsimp only
    split <;> simp

@[simp] theorem dropPages_tick (d : Dev) (l : List Nat) : (dropPages d l).tick = d.tick := foldl_tick dropPage_tick l d

@[simp] theorem takeFrame_tick (d : Dev) (f own : Nat) (loc : Bool) : (takeFrame d f own loc).tick = d.tick := rfl

/-- R695: an allocation for partition 0's own structures leaves the tick counter. -/
theorem allocOwn_tick {d d1 : Dev} {loc : Bool} {home f : Nat} (h : allocOwn d loc home = .ok (f, d1)) :
    d1.tick = d.tick := by
  unfold allocOwn allocAt at h
  split at h
  · split at h
    next heq =>
      split at heq
      · cases h; cases heq; rfl
      · cases heq
    next => cases h
  · cases h

/-! ## Sessions and requests (R34, R97, R300) -/

@[simp] theorem modLayer_tick (d : Dev) (i l : Nat) (g : LayerSt → LayerSt) : (modLayer d i l g).tick = d.tick :=
  modSess_tick ..

@[simp] theorem zeroRow_tick (d : Dev) (ld : LayerDesc) (f row : Nat) : (zeroRow d ld f row).tick = d.tick :=
  foldl_tick (fun d h => by dsimp only; split_ifs <;> rfl) _ d

@[simp] theorem discardAppend_tick (d : Dev) (r : Req) : (discardAppend d r).tick = d.tick := by
  have htails : (r.newTails.foldl (fun s n => dropTail (dropPage s n) r.entry r.layer) d).tick = d.tick :=
    foldl_tick (fun d n => by simp [dropTail]) _ d
  unfold discardAppend; dsimp only; split
  · rfl
  · split
    · split_ifs
      · exact htails
      · split
        · split
          · exact (foldl_tick (fun d k => by split_ifs <;> simp) _ _).trans htails
          · exact htails
        · exact htails
    · exact htails

@[simp] theorem windowDrop_tick (d : Dev) (i l : Nat) : (windowDrop d i l).tick = d.tick := by
  unfold windowDrop; dsimp only; split
  · split_ifs <;> simp
  · rfl

@[simp] theorem setAdp_tick (d : Dev) (id : Nat) (x : AdpId) : (setAdp d id x).tick = d.tick := noteObj_tick ..

@[simp] theorem freeVersion_tick (d : Dev) (id ver : Nat) : (freeVersion d id ver).tick = d.tick := by
  unfold freeVersion; dsimp only; split
  · rw [setAdp_tick]
    exact (foldl_tick (fun d c => decFrame_tick d _) _ _).trans (foldl_tick decDesc_tick _ _)
  · rfl

@[simp] theorem releaseVersion_tick (d : Dev) (id ver : Nat) : (releaseVersion d id ver).tick = d.tick := by
  unfold releaseVersion; dsimp only; split_ifs <;> simp

@[simp] theorem freeEntry_tick (d : Dev) (i : Nat) : (freeEntry d i).tick = d.tick := by
  unfold freeEntry; dsimp only; split_ifs <;> simp

@[simp] theorem finishDoomed_tick (d : Dev) (i : Nat) : (finishDoomed d i).tick = d.tick := by
  unfold finishDoomed; split_ifs <;> simp [releaseSession]

@[simp] theorem countEvent_tick (d : Dev) (p k n : Nat) : (countEvent d p k n).tick = d.tick := rfl

@[simp] theorem dropReq_tick (d : Dev) (r : Req) : (dropReq d r).tick = d.tick := rfl

/-- The answer of a request leaves the tick counter, whatever it releases. -/
@[simp] theorem endReq_tick (d : Dev) (r : Req) (code : Nat) (out : List Byte) : (endReq d r code out).tick = d.tick := by
  unfold endReq
  simp [apply_ite Dev.tick, sendRsp, sendFab]

/-! ## The models' sessions (R96, R294) -/

@[simp] theorem degrade_tick (d : Dev) (i reason : Nat) : (degrade d i reason).tick = d.tick := modSess_tick ..

@[simp] theorem degradeUnserved_tick (d : Dev) (m : Nat) : (degradeUnserved d m).tick = d.tick :=
  foldl_tick (fun _ _ => by
    dsimp only
    split
    · rfl
    · rfl
    · rfl
    · split_ifs <;> simp
    · rw [degrade_tick]
      exact foldl_tick (fun d r => endReq_tick ..) _ _) _ d

@[simp] theorem restoreServed_tick (d : Dev) (m : Nat) : (restoreServed d m).tick = d.tick :=
  foldl_tick (fun _ _ => modSess_tick ..) _ d

@[simp] theorem refreshModels_tick (d : Dev) : (refreshModels d).tick = d.tick :=
  foldl_tick (fun d m => by unfold refreshModel; split_ifs <;> simp) _ d

/-! ## A swap of plans (R58, R609, R664) -/

@[simp] theorem retireUnits_tick (d : Dev) (p : Plan) : (retireUnits d p).tick = d.tick := by
  unfold retireUnits; dsimp only
  exact (foldl_tick (fun _ _ => by rfl) _ _).trans (foldl_tick (fun _ _ => by rfl) _ _)

@[simp] theorem serveUnits_tick (d : Dev) (p : Plan) : (serveUnits d p).tick = d.tick := by
  unfold serveUnits; dsimp only
  exact (foldl_tick (fun _ _ => by rfl) _ _).trans (foldl_tick (fun _ _ => by rfl) _ _)

@[simp] theorem takeCapture_tick (d : Dev) (p : Plan) : (takeCapture d p).tick = d.tick := by
  have htaken : ∀ fs gs : List Nat, (fs.foldl (fun d f => takeFrame d f 0 false) (freeFrames d gs)).tick = d.tick :=
    fun fs gs => (foldl_tick (fun _ _ => by rfl) fs _).trans (freeFrames_tick d gs)
  unfold takeCapture; dsimp only; split_ifs <;> exact htaken ..

@[simp] theorem activatePlan_tick (d : Dev) (p : Plan) : (activatePlan d p).tick = d.tick := by simp [activatePlan]

@[simp] theorem swapPlan_tick (d : Dev) : (swapPlan d).tick = d.tick := by
  unfold swapPlan; split
  · dsimp only; split_ifs <;> simp
  · rfl

/-! ## The frame boundary (R498, R650, R653, R668) -/

@[simp] theorem setCost_tick (d : Dev) (n : Nat) : (setCost d n).tick = d.tick := rfl

@[simp] theorem rewidth_tick (d : Dev) (n : Nat) : (rewidth d n).tick = d.tick := by
  unfold rewidth; dsimp only; split_ifs <;> rfl

@[simp] theorem holdScrub_tick (d : Dev) : (holdScrub d).tick = d.tick := by unfold holdScrub; split_ifs <;> rfl

@[simp] theorem accountFrame_tick (d : Dev) : (accountFrame d).tick = d.tick :=
  foldl_tick (fun d a => by simp [reportBehind]) _ d

@[simp] theorem enterPower_tick (d : Dev) (st : Nat) : (enterPower d st).tick = d.tick := by
  unfold enterPower; dsimp only; split_ifs
  · exact foldl_tick rewidth_tick _ _
  · exact foldl_tick (fun _ _ => by rfl) _ _

@[simp] theorem powerStep_tick (d : Dev) : (powerStep d).tick = d.tick := by
  unfold powerStep; dsimp only; split_ifs <;> simp

@[simp] theorem sampleQueues_tick (d : Dev) : (sampleQueues d).tick = d.tick := by
  unfold sampleQueues; dsimp only; split_ifs <;> rfl

@[simp] theorem throttleStep_tick (d : Dev) : (throttleStep d).tick = d.tick := rfl

@[simp] theorem frameBoundary_tick (d : Dev) : (frameBoundary d).tick = d.tick := by
  unfold frameBoundary; split_ifs <;> simp

/-! ## The tick boundary (R47, R67, R76) -/

@[simp] theorem stampTimer_tick (d : Dev) (t : Timer) : (stampTimer d t).tick = d.tick := by simp [stampTimer]

@[simp] theorem applyShapers_tick (d : Dev) : (applyShapers d).tick = d.tick := foldl_tick (fun _ _ => by rfl) _ _

@[simp] theorem applyTolerance_tick (d : Dev) : (applyTolerance d).tick = d.tick := by
  unfold applyTolerance; dsimp only; split_ifs <;> simp

@[simp] theorem unadmit_tick (d : Dev) (seqs : List Nat) : (unadmit d seqs).tick = d.tick := rfl

@[simp] theorem latchManifest_tick (d : Dev) : (latchManifest d).tick = d.tick := by
  unfold latchManifest; dsimp only; split <;> simp [missManifest, unadmitOthers]

@[simp] theorem fillReserve_tick (n : Nat) (d : Dev) : (fillReserve n d).tick = d.tick := by
  induction n generalizing d with
  | zero => rfl
  | succ n ih =>
    unfold fillReserve; split
    next halloc =>
      have hkept := allocOwn_tick halloc
      exact (ih _).trans hkept
    next => rfl

@[simp] theorem refillReserve_tick (d : Dev) : (refillReserve d).tick = d.tick := by
  unfold refillReserve; dsimp only; split_ifs <;> simp

@[simp] theorem drainTelemetry_tick (d : Dev) : (drainTelemetry d).tick = d.tick := by
  have hled : (drainLedger d).tick = d.tick := by
    unfold drainLedger; dsimp only; split_ifs <;> simp
  unfold drainTelemetry drainSamples; dsimp only; split_ifs <;> simp [hled]

@[simp] theorem sampleStepTick_tick (d : Dev) : (sampleStepTick d).tick = d.tick := by
  unfold sampleStepTick; split_ifs
  · exact foldl_tick (fun _ _ => by rfl) _ d
  · rfl

@[simp] theorem settleMigration_tick (d : Dev) : (settleMigration d).tick = d.tick := by
  unfold settleMigration; split_ifs <;> rfl

/-- R47: the boundary advances the counter by one, and nothing else that happens at it does. -/
theorem tickBoundary_tick (d : Dev) : (tickBoundary d).tick = (d.tick + 1) % 2 ^ 64 := by
  have hnext : (nextTick (drainTelemetry d)).tick = (d.tick + 1) % 2 ^ 64 :=
    congrArg (fun n => (n + 1) % 2 ^ 64) (drainTelemetry_tick d)
  simp only [tickBoundary, settleMigration_tick, sampleStepTick_tick, refillReserve_tick, latchManifest_tick,
    frameBoundary_tick, applyTolerance_tick, applyShapers_tick, foldl_tick stampTimer_tick, hnext]

/-! ## The registers that show the counter -/

theorem viewReg_tickLo (d : Dev) : (viewReg d Addr.FSQ_TICK_CNT_LO).1 = BitVec.ofNat 32 d.tick := by
  have hnat : viewNat d Addr.FSQ_TICK_CNT_LO = d.tick % 2 ^ 32 := rfl
  have hfree : isFree Addr.FSQ_TICK_CNT_LO = false := by decide
  rw [viewReg, hfree, hnat]
  exact BitVec.eq_of_toNat_eq (by simp)

theorem viewReg_tickHi (d : Dev) : (viewReg d Addr.FSQ_TICK_CNT_HI).1 = BitVec.ofNat 32 (d.tick / 2 ^ 32) := by
  have hnat : viewNat d Addr.FSQ_TICK_CNT_HI = d.tick / 2 ^ 32 % 2 ^ 32 := rfl
  have hfree : isFree Addr.FSQ_TICK_CNT_HI = false := by decide
  rw [viewReg, hfree, hnat]
  exact BitVec.eq_of_toNat_eq (by simp)

/-- Settles O6: a released device starts from what reset left, with the counter at 0, and of all that a boundary does the
step to the next tick alone moves it. -/
theorem tickCounterCounts : Obligations.TickCounterCounts := by
  refine ⟨fun s st hlegal hpow hrel => ?release, fun s hrun => ?boundary,
    fun d _ => ⟨viewReg_tickLo d, viewReg_tickHi d⟩⟩
  case release =>
    have hstart : exec (.sysResetRelease st true) s = _ :=
      congrArg Host.Outcome.next (sysResetRelease_starts st hpow hrel)
    have htrip := Pins.untripped_of_unreleased hlegal hrel
    exact ⟨_, hstart, (Pins.running_iff _).2 ⟨rfl, hpow, rfl, htrip⟩, rfl⟩
  case boundary => exact ⟨_, run_running tickBoundary hrun, tickBoundary_tick s.dev⟩

end Sys2Proof.Machine
end

section
/-!
PROOFS. The tick and ledger family, frame plans: delivery, checks and swaps (R52, R53, R57, R58, R572).
-/

namespace Sys2Proof.Machine

/-! ## PLAN_LOAD and PLAN_SWAP (R58, R572) -/

/-- R572: a piece of a delivery that passes its checks is written into the bank, which FIRST has cleared; the reply waits
for the checks where the piece is FINAL. -/
theorem planLoad_taken {s : State} {h : CmdHdr} {flags off total : Nat} {data : List Byte} (hb : ByOperator s h)
    (hflags : flags ≤ 3) (hbank : bit flags 0 = true ∨ s.dev.plan.standbySt = 1 ∧ s.dev.plan.total = total)
    (hoff : off % 16 = 0) (hne : data ≠ []) (hlen : data.length ≤ 65536) (hroom : off + data.length ≤ total)
    (hfinal : s.dev.plan.finalCmd = none) (hswap : s.dev.plan.swapTick = none) {d d1 : Dev}
    (hd : (if bit flags 0 then clearBank s.dev total else s.dev) = d)
    (h1 : { d with plan.bank := Memory.writeBytes d.plan.bank off data } = d1) :
    planLoad s.dev h flags off total data =
      if bit flags 1 then { d1 with plan.finalCmd := some h } else reply d1 h 0x0801 stOk := by
  obtain ⟨hloading, hsame⟩ : (!bit flags 0 && s.dev.plan.standbySt != 1) = false ∧
      (!bit flags 0 && s.dev.plan.total != total) = false := by
    rcases hbank with hfirst | ⟨hst, htotal⟩
    · simp [hfirst]
    · simp [hst, htotal]
  subst hd h1
  refine (onChannel_operator hb 0x0801 true _).trans (checked_ok h 0x0801 _ ?_)
  simp only [firstFail, hloading, hsame]
  simp [Nat.not_lt.2 hflags, hoff, hne, Nat.not_lt.2 hlen, Nat.not_lt.2 hroom, hfinal, hswap]

/-- R58, R665: a swap to a checked plan, at a tick that leaves the manifests time, waits for its frame boundary. -/
theorem planSwap_taken {s : State} {h : CmdHdr} {t : Nat} (hb : ByOperator s h) (hst : s.dev.plan.standbySt = 2)
    (hsoon : h.tick + 2 ≤ t) (hnamed : t < 2 ^ 64 - 1) (hfum : s.dev.pwr.fumarole = false)
    (hsw : s.dev.mdl.switches = []) (hbusy : retiredBusy s.dev = false) (hswap : s.dev.plan.swapTick = none) :
    planSwap s.dev h t =
      reply { s.dev with plan.swapTick := some t, pwr.busyDormant := true } h 0x0802 stOk := by
  refine (onChannel_operator hb 0x0802 true _).trans ?_
  simp only [if_neg (Nat.ne_of_lt hnamed)]
  exact checked_ok h 0x0802 _ (by simp [firstFail, hst, Nat.not_lt.2 hsoon, hfum, hsw, hbusy, hswap])

/-! ## The checks of a delivered plan (R53, R57) -/

section PlanCheck

variable {d : Dev} {f : CmdHdr} {p : Plan} {img blk : List Byte}

/-- R57: in a slot of the management cores a signed bank that shows the plan's header, and of which no check fails, is
CHECKED. -/
theorem planCheckDone_passes (hcmd : d.plan.finalCmd = some f) (hslot : mgmtSlot d = true)
    (hsig : signedImage d 1 false true (bankBytes d) = some (img, blk)) (hok : headerOk (bankBytes d) = true)
    (his : headerIs (bankBytes d) p = true) (hpass : planDetail d (bankBytes d) p = 0) :
    planCheckDone d p = reply { d with
      plan.finalCmd := none, plan.standbySt := 2, plan.checkDetail := 0,
      plan.standby := some { p with sigHead := blk.take 48 } } f 0x0801 stOk := by
  simp [planCheckDone, hcmd, hslot, hsig, hok, his, hpass]

/-- R57: a check that fails leaves the bank FAILED with its sub-reason. -/
theorem planCheckDone_fails (hcmd : d.plan.finalCmd = some f) (hslot : mgmtSlot d = true)
    (hsig : signedImage d 1 false true (bankBytes d) = some (img, blk)) (hok : headerOk (bankBytes d) = true)
    (his : headerIs (bankBytes d) p = true) (hfail : planDetail d (bankBytes d) p ≠ 0) :
    planCheckDone d p = planFailed d f (stw stParam (planDetail d (bankBytes d) p)) (planDetail d (bankBytes d) p) := by
  obtain ⟨k, hk⟩ := Nat.exists_eq_succ_of_ne_zero hfail
  simp [planCheckDone, hcmd, hslot, hsig, hok, his, hk]

end PlanCheck

/-- Settles O40: a command whose checks pass, and a check that ends, have the effects that their clauses give. -/
theorem planCommandsComplete : Obligations.PlanCommandsComplete := by
  intro s h hb
  refine ⟨?first, ?piece, ?swap, ?check⟩
  case first =>
    intro total data hfinal hswap hne hlen hroom
    exact serve_eq_did (f := fun d => planLoad d h 1 0 total data) hb.1
      (planLoad_taken hb (by decide) (.inl rfl) rfl hne hlen (by simpa using hroom) hfinal hswap rfl rfl)
  case piece =>
    intro off total data hst htotal hfinal hswap hoff hne hlen hroom
    constructor
    · exact serve_eq_did (f := fun d => planLoad d h 0 off total data) hb.1
        (planLoad_taken hb (by decide) (.inr ⟨hst, htotal⟩) hoff hne hlen hroom hfinal hswap rfl rfl)
    · exact serve_eq_did (f := fun d => planLoad d h 2 off total data) hb.1
        (planLoad_taken hb (by decide) (.inr ⟨hst, htotal⟩) hoff hne hlen hroom hfinal hswap rfl rfl)
  case swap =>
    intro t hst hsoon hnamed hfum hsw hbusy hswap
    exact serve_eq_did (f := fun d => planSwap d h t) hb.1 (planSwap_taken hb hst hsoon hnamed hfum hsw hbusy hswap)
  case check =>
    intro f p img blk hcmd hslot hsig hok his
    exact ⟨fun hpass => serve_eq_did (f := fun d => planCheckDone d p) hb.1
        (planCheckDone_passes hcmd hslot hsig hok his hpass),
      fun hfail => serve_eq_did (f := fun d => planCheckDone d p) hb.1
        (planCheckDone_fails hcmd hslot hsig hok his hfail)⟩

end Sys2Proof.Machine
end

section
/-!
PROOFS. The tick and ledger family, launches (R72, R394 to R397): the placement of two launches that share a
ledger number.
-/

namespace Sys2Proof.Machine

/-- A launch that waits for `contexts` contexts of pool 0; every one has the ledger number 3. -/
def waitingLaunch (contexts : Nat) : Launch :=
  { cmd := ⟨0, 0, 1, 3, 0⟩
    d := { package := 32, pool := 0, contexts := contexts, argBase := 0, argStride := 8, objCount := 0, partition := 0,
           budget := 9, objList := 0, tag := 0 }
    objs := [], placed := none, live := 0, faulted := 0, firstThread := 0, fault := 0, pc := 0 }

/-- A serving device with two launches of one ledger number, one of one context and one of two, in this tick's manifest;
pool 0 of its plan is cluster 0, which serves. -/
def sharedNumber : State := { State.reset with dev := { State.reset.dev with
  obs.stage := 2
  plan.active := some
    { groupSize := 1, planId := 5, retiredMaskId := 0, cutoff := 0, thawBudget := 0, bgAssign := [], slots := [],
      pairing := [], pools := [[0]], openPools := [0], rtvPool := 0, retiredPipes := [], retiredClusters := [],
      retiredPcs := [], ledgerBudget := 0, inventoryOk := true, windowBytes := 0, arenaBytes := 4096,
      captureFrames := [], sigHead := [] }
  plan.latched := [⟨0, 4, 3, 1, 0, 0, 0, 5⟩], plan.descs := [(0, [3])]
  vnt.clusters := [(0, 1)], vnt.launches := [waitingLaunch 1, waitingLaunch 2]
  vnt.pkgs := [(32, { Pkg.empty with img := ⟨2, 128, [9], []⟩, codeLen := 64, maxCtx := 2, budget := 9 })] } }

/-- How many contexts each launch of an outcome's device still holds. -/
def contextsHeld : Host.Outcome State Fault Refusal → List Nat
  | .next t => t.dev.vnt.launches.map (·.live)
  | _ => []

/-- The placement gives each launch of the number its own count of contexts. -/
theorem contextsHeld_launchPlace : contextsHeld (exec (.launchPlace 3) sharedNumber) = [1, 2] := by decide +kernel

/-- Refutes O60: its clause on LAUNCH_PLACE gives every launch of the ledger number the context count of the one that is
found first, where the row gives each its own. The two differ where launches of different counts share a number, which
no hypothesis of the clause excludes; the stamps of R74 make no such pair within 2^48 events. -/
theorem not_launchRowsComplete : ¬ Obligations.LaunchRowsComplete := by
  intro h
  obtain ⟨-, hplace, -, -⟩ := h sharedNumber ⟨rfl, rfl⟩
  have hsame := hplace 3 (waitingLaunch 1) rfl rfl rfl rfl (by decide) rfl (by decide +kernel)
  have hstated : contextsHeld (exec (.launchPlace 3) sharedNumber) = [1, 1] := by rw [hsame]; decide +kernel
  exact absurd (contextsHeld_launchPlace.symm.trans hstated) (by decide)

end Sys2Proof.Machine
end

section
/-!
PROOFS. The session space family, SESSION_CREATE (R84, R99 to R112, R148): the search for a free entry, what an
allocation and a Write leave of the session table, and the generation that a new session keeps.
-/

namespace Sys2Proof.Machine

/-! ## The lowest free entry of a range (R84) -/

theorem firstFrom_eq_some {p : Nat → Bool} {n lo k : Nat} (h : firstFrom p lo n = some k) :
    (lo ≤ k ∧ k < lo + n) ∧ p k = true ∧ ∀ j, lo ≤ j → j < k → p j = false := by
  induction n generalizing lo with
  | zero => cases h
  | succ n ih =>
    unfold firstFrom at h
    split at h
    next hlo => cases h; exact ⟨by omega, hlo, by omega⟩
    next hlo =>
      obtain ⟨hk, hpk, hbelow⟩ := ih h
      refine ⟨by omega, hpk, fun j hj hjk => ?_⟩
      rcases Nat.eq_or_lt_of_le hj with rfl | hlt
      · exact Bool.eq_false_iff.2 hlo
      · exact hbelow j hlt hjk

theorem firstFrom_eq_none {p : Nat → Bool} {n lo : Nat} (h : firstFrom p lo n = none) {j : Nat} (hlo : lo ≤ j)
    (hj : j < lo + n) : p j = false := by
  induction n generalizing lo with
  | zero => omega
  | succ n ih =>
    unfold firstFrom at h
    split at h
    next => cases h
    next hp =>
      rcases Nat.eq_or_lt_of_le hlo with rfl | hlt
      · exact Bool.eq_false_iff.2 hp
      · exact ih h hlt (by omega)

/-- R84: a session table entry that SESSION_CREATE may take. -/
def Takeable (d : Dev) (j : Nat) : Prop := (sess d j).st = .free ∧ (sess d j).quar = false

theorem takeable_iff {d : Dev} {j : Nat} :
    Takeable d j ↔ ((sess d j).st == .free && !(sess d j).quar) = true := by simp [Takeable]

theorem not_takeable_iff {d : Dev} {j : Nat} :
    ¬ Takeable d j ↔ ((sess d j).st == .free && !(sess d j).quar) = false :=
  takeable_iff.not.trans Bool.eq_false_iff.symm

theorem tget_mem_keys {α : Type} {t : Tbl α} {k : Nat} {v : α} (h : tget t k = some v) : k ∈ t.map Prod.fst := by
  induction t with
  | nil => cases h
  | cons p r ih =>
    unfold tget at h
    split_ifs at h with hlt heq
    · exact heq ▸ List.mem_cons_self
    · exact List.mem_cons_of_mem _ (ih h)

/-- An entry that cannot be taken stands in the table: one that nothing wrote is FREE (R86). -/
theorem mem_keys_of_not_takeable {d : Dev} {j : Nat} (h : ¬ Takeable d j) : j ∈ d.sess.map Prod.fst := by
  cases hj : tget d.sess j with
  | some e => exact tget_mem_keys hj
  | none => exact absurd (by simp [Takeable, sess, tgetD, hj, SessEnt.free]) h

/-- Of any run of entries one longer than the table, one can be taken. -/
theorem exists_takeable (d : Dev) (lo : Nat) : ∃ j, lo ≤ j ∧ j < lo + (d.sess.length + 1) ∧ Takeable d j := by
  by_contra hnone
  push Not at hnone
  have hsub : Finset.Ico lo (lo + (d.sess.length + 1)) ⊆ (d.sess.map Prod.fst).toFinset := fun j hj => by
    obtain ⟨hlo, hhi⟩ := Finset.mem_Ico.1 hj
    exact List.mem_toFinset.2 (mem_keys_of_not_takeable (hnone j hlo hhi))
  have hcard := (Finset.card_le_card hsub).trans (List.toFinset_card_le _)
  simp at hcard

theorem freeEntryOf_eq_some {d : Dev} {p i : Nat} (h : freeEntryOf d p = some i) :
    (part d p).cfg.sessBase ≤ i ∧ i < (part d p).cfg.sessBase + (part d p).cfg.sessCount ∧ Takeable d i ∧
      ∀ j, (part d p).cfg.sessBase ≤ j → j < i → ¬ Takeable d j := by
  obtain ⟨hi, htake, hbelow⟩ := firstFrom_eq_some h
  exact ⟨hi.1, by omega, takeable_iff.2 htake, fun j hj hji => not_takeable_iff.2 (hbelow j hj hji)⟩

/-- The search passes one entry more than the table holds, so what it does not find is not in the range. -/
theorem freeEntryOf_eq_none {d : Dev} {p : Nat} (h : freeEntryOf d p = none) {j : Nat}
    (hlo : (part d p).cfg.sessBase ≤ j) (hhi : j < (part d p).cfg.sessBase + (part d p).cfg.sessCount) :
    ¬ Takeable d j := by
  have hnone : ∀ {k}, (part d p).cfg.sessBase ≤ k →
      k < (part d p).cfg.sessBase + min (part d p).cfg.sessCount (d.sess.length + 1) → ¬ Takeable d k :=
    fun hk hk' => not_takeable_iff.2 (firstFrom_eq_none h hk hk')
  rcases Nat.le_total (part d p).cfg.sessCount (d.sess.length + 1) with hfew | hmany
  · exact hnone hlo (by rwa [Nat.min_eq_left hfew])
  · obtain ⟨k, hk, hk', htake⟩ := exists_takeable d (part d p).cfg.sessBase
    exact absurd htake (hnone hk (by rwa [Nat.min_eq_right hmany]))

/-! ## What allocations and Writes leave (R99 to R112, R148) -/

@[simp] theorem takeFrame_sess (d : Dev) (f own : Nat) (loc : Bool) : (takeFrame d f own loc).sess = d.sess := rfl
@[simp] theorem copyFrame_sess (d : Dev) (f g : Nat) : (copyFrame d f g).sess = d.sess := rfl
@[simp] theorem modPte_sess (d : Dev) (n : Nat) (g : Pte → Pte) : (modPte d n g).sess = d.sess := rfl
@[simp] theorem setPte_sess (d : Dev) (n : Nat) (x : Pte) : (setPte d n x).sess = d.sess := rfl

theorem allocAt_sess {d d1 : Dev} {own f home : Nat} {loc : Bool} (h : allocAt d own loc home = some (f, d1)) :
    d1.sess = d.sess := by
  unfold allocAt at h
  split at h
  · cases h; rfl
  · cases h

@[simp] theorem parkToTwin_sess (d : Dev) (spn : Nat) : (parkToTwin d spn).sess = d.sess := by
  have hsnap : ∀ (d : Dev) (a : Nat), (parkSnap d spn a).sess = d.sess := fun d a => by
    unfold parkSnap
    split
    · split_ifs
      · exact holdCopy_sess _ _ _
      · exact holdCopy_sess _ _ _
      · rfl
    · rfl
  have hinc : ∀ (d : Dev) (a : Nat), (incDesc d a).sess = d.sess := fun d a => by
    unfold incDesc
    split
    · exact noteSticky_sess _ _
    · rfl
  unfold parkToTwin
  split
  · split
    · simp [hinc, hsnap]
    · rfl
  · rfl

theorem cleanEvict_sess {d d1 : Dev} {ok : Nat → Bool} {f : Nat} (h : cleanEvict d ok = some (f, d1)) :
    d1.sess = d.sess := by
  unfold cleanEvict at h
  split at h
  · cases h; exact parkToTwin_sess d _
  · cases h

/-- R148: an allocation, with the clean eviction that it may call for, leaves the session table. -/
theorem allocFrame_sess {d d1 : Dev} {p home f : Nat} {loc : Bool} (h : allocFrame d p loc home = .ok (f, d1)) :
    d1.sess = d.sess := by
  unfold allocFrame at h
  dsimp only at h
  split at h
  · split at h
    · split at h
      next halloc => cases h; exact allocAt_sess halloc
      next => cases h
    · cases h
  · split at h
    · split at h
      next halloc => cases h; exact allocAt_sess halloc
      next => cases h
    · split at h
      next hclean =>
        have hevict := cleanEvict_sess hclean
        split at h
        · cases h; exact hevict
        · split at h
          next halloc => cases h; exact (allocAt_sess halloc).trans hevict
          next => cases h
      next => cases h

@[simp] theorem endTwin_sess (d : Dev) (f : Nat) : (endTwin d f).sess = d.sess := by
  unfold endTwin
  split
  · split_ifs
    · exact endDescTwin_sess _ _
    · rfl
  · rfl

@[simp] theorem writeInPlace_sess (d : Dev) (spn f : Nat) : (writeInPlace d spn f).sess = d.sess := by
  unfold writeInPlace
  dsimp only
  split_ifs <;> exact endTwin_sess d f

@[simp] theorem writeMarked_sess (d : Dev) (spn f : Nat) : (writeMarked d spn f).sess = d.sess := by
  unfold writeMarked
  split <;> exact writeInPlace_sess _ _ _

theorem writeCopy_sess {d d1 : Dev} {i p spn f : Nat} {q : Pte} (h : writeCopy d i p spn f q = .ok d1) :
    d1.sess = d.sess := by
  unfold writeCopy at h
  dsimp only at h
  split at h
  · cases h
  · split at h
    next => cases h
    next g s1 halloc =>
      have hcopy := (copyFrame_sess s1 f g).trans (allocFrame_sess halloc)
      cases h
      rw [modPte_sess]
      split
      · exact hcopy
      · exact (decFrame_sess _ _).trans hcopy

/-- Rows 6 to 8: a page whose frame no other page shares is written where it stands. -/
theorem writeSole_sess {d d1 : Dev} {spn f : Nat} {snap : Bool} (h : (if snap then
      if badFrame d f then (.error stUncorr : Res Dev) else .ok (writeMarked d spn f)
    else .ok (writeInPlace d spn f)) = .ok d1) : d1.sess = d.sess := by
  split_ifs at h
  · cases h; exact writeMarked_sess ..
  · cases h; exact writeInPlace_sess ..

theorem writeHbm_sess {d d1 : Dev} {i p spn : Nat} (h : writeHbm d i p spn = .ok d1) : d1.sess = d.sess := by
  unfold writeHbm at h
  split at h
  · split at h
    · split at h
      · exact writeCopy_sess h
      · exact (writeSole_sess h).trans (by split_ifs <;> rfl)
    · cases h; rfl
  · cases h; rfl

theorem markForWrite_sess {d d1 : Dev} {spn : Nat} {prom : Bool} (h : markForWrite d spn prom = .ok d1) :
    d1.sess = d.sess := by
  unfold markForWrite at h
  split at h
  · split at h
    · unfold markPage at h
      split at h
      · cases h
      · split_ifs at h
        · cases h; rfl
        · cases h; rfl
    · cases h; rfl
  · cases h; rfl

/-- The Write event of R111 leaves the session table. -/
theorem writeEvent_sess {d d1 : Dev} {i p spn : Nat} {prom : Bool} (h : writeEvent d i p spn prom = .ok d1) :
    d1.sess = d.sess := by
  unfold writeEvent at h
  split at h
  · unfold firstWrite at h
    dsimp only at h
    split at h
    · cases h
    next halloc =>
      have hkept := (allocFrame_sess halloc).trans (notePage_sess _ _)
      cases h
      exact hkept
  · split at h
    next hmark =>
      rw [writeHbm_sess h, notePage_sess, markForWrite_sess hmark, revokeGrants_sess]
    next => cases h
  · split at h
    next hmark =>
      rw [writeHbm_sess h, modPte_sess, notePage_sess, markForWrite_sess hmark, revokeGrants_sess]
    next => cases h
  · cases h; rfl

theorem allocBlock_sess {d d1 : Dev} {b : Nat} (h : allocBlock d b = .ok d1) : d1.sess = d.sess := by
  have htaken : ∀ fs : List Nat, (fs.foldl (fun d f => takeFrame d f 0 false) d).sess = d.sess :=
    fun fs => foldl_sess (f := fun d f => takeFrame d f 0 false) (fun _ _ => rfl) fs d
  unfold allocBlock at h
  dsimp only at h
  split at h
  · split at h
    · cases h; exact htaken _
    · cases h
  · cases h

/-- R99: a new SPN, with the table block that it may need, leaves the session table. -/
theorem allocSpn_sess {d d1 : Dev} {i n : Nat} (h : allocSpn d i = .ok (n, d1)) : d1.sess = d.sess := by
  unfold allocSpn at h
  dsimp only at h
  split at h
  · cases h
  · split at h
    · cases h
    · split at h
      next => cases h
      next hblock =>
        cases h
        rw [notePage_sess, setPte_sess]
        split at hblock
        · cases hblock; rfl
        · exact allocBlock_sess hblock

/-! ## The generation of a new session (R84, R101, R148) -/

/-- Entry i has the generation g. -/
def HasGen (i g : Nat) (d : Dev) : Prop := (sess d i).gen = g

section HasGen

variable {d d1 : Dev} {i g : Nat}

theorem HasGen.of_sess_eq (h : HasGen i g d) (hs : d1.sess = d.sess) : HasGen i g d1 := by
  simpa only [HasGen, sess, hs] using h

theorem HasGen.modSess {f : SessEnt → SessEnt} (h : HasGen i g d) (hf : ∀ e, (f e).gen = e.gen) :
    HasGen i g (modSess d i f) := by simpa [HasGen, hf] using h

/-- A fold whose steps fail or keep a property of the device keeps it where it succeeds. -/
theorem foldl_ok_keeps {α : Type} {P : Dev → Prop} {f : Res Dev → α → Res Dev}
    (herr : ∀ c a, f (.error c) a = .error c) (hstep : ∀ {d d1 : Dev} {a : α}, P d → f (.ok d) a = .ok d1 → P d1)
    {l : List α} (hd : P d) (h : l.foldl f (.ok d) = .ok d1) : P d1 := by
  induction l generalizing d with
  | nil => cases h; exact hd
  | cons a l ih =>
    rw [List.foldl_cons] at h
    cases hfa : f (.ok d) a with
    | ok d' => exact ih (hstep hd hfa) (hfa ▸ h)
    | error c =>
      rw [hfa, List.foldl_fixed' (herr c)] at h
      cases h

/-- R101: a page that the entry takes into its lists. -/
theorem hasGen_newPage {p : Nat} {place : Dev → Nat → Dev} (hd : HasGen i g d)
    (h : newPage d i p place = .ok d1) (hplace : ∀ d n, HasGen i g d → HasGen i g (place d n)) : HasGen i g d1 := by
  unfold newPage at h
  split at h
  · cases h
  next hspn => exact (hplace _ _ (hd.of_sess_eq (allocSpn_sess hspn))).of_sess_eq (writeEvent_sess h)

theorem hasGen_allStatePages {ls : List LayerDesc} (hd : HasGen i g d) (h : allStatePages d i ls = .ok d1) :
    HasGen i g d1 := by
  refine foldl_ok_keeps (fun _ _ => rfl) (fun {d d1 a} hd h => ?_) hd h
  dsimp only at h
  split_ifs at h
  · refine foldl_ok_keeps (fun _ _ => rfl) (fun {d d1 k} hd h => ?_) hd h
    dsimp only at h
    split at h
    · cases h
    next hspn => cases h; exact (hd.of_sess_eq (allocSpn_sess hspn)).modSess fun _ => rfl
  · cases h; exact hd

theorem hasGen_sessionPages {p : Nat} (hd : HasGen i g d) (h : sessionPages d i p = .ok d1) : HasGen i g d1 := by
  unfold sessionPages at h
  split at h
  · cases h
  next hdir =>
    split at h
    · cases h
    next hctrl =>
      have hdir' := hasGen_newPage hd hdir fun _ _ hd => hd.modSess fun _ => rfl
      have hctrl' := hasGen_newPage hdir' hctrl fun _ _ hd => hd.modSess fun _ => rfl
      refine foldl_ok_keeps (fun _ _ => rfl) (fun {d d1 k} hd h => ?_) hctrl' h
      dsimp only at h
      exact hasGen_newPage hd h fun _ _ hd => hd.modSess fun _ => rfl

@[simp] theorem setAdp_sess (d : Dev) (id : Nat) (x : AdpId) : (setAdp d id x).sess = d.sess := noteObj_sess ..

@[simp] theorem holdVersion_sess (d : Dev) (id ver : Nat) : (holdVersion d id ver).sess = d.sess := by
  unfold holdVersion
  split_ifs
  · rfl
  · exact setAdp_sess ..

/-- R84: the new session has its entry's stored generation. -/
theorem createSession_gen {h : CmdHdr} {model adapter ver seed mode : Nat} {c : Ctrl}
    (hc : createSession d h i model adapter ver seed c mode = .ok d1) : (sess d1 i).gen = (sess d i).gen := by
  unfold createSession at hc
  dsimp only at hc
  split at hc
  · cases hc
  next hstate =>
    split at hc
    · cases hc
    next hpages =>
      cases hc
      have hnew := hasGen_allStatePages (g := (sess d i).gen) (by simp [HasGen, SessEnt.free]) hstate
      exact (hasGen_sessionPages hnew hpages).of_sess_eq (holdVersion_sess ..)

end HasGen

theorem hGen_mkHandle (p l g : Nat) : hGen (mkHandle p l g) = g % 2 ^ 32 := by
  simp only [hGen, bits, mkHandle]
  omega

theorem hGen_handleOf (d : Dev) (i : Nat) : hGen (handleOf d i) = (sess d i).gen % 2 ^ 32 := by
  unfold handleOf
  split
  · exact hGen_mkHandle ..
  · simp [hGen, bits]

/-! ## SESSION_CREATE -/

/-- SESSION_CREATE passes its checks where its operands are in range and its partition may create sessions (R26). -/
theorem sessionCreate_passes {d : Dev} {p model mode sink adapter topk recent ver : Nat} {tau : F32}
    (hmodel : modelUsable d p model = true)
    (hsel : firstFail (selectChecks mode tau.toNat topk sink recent (7, 11, 12, 8, 13)) = none)
    (hver : adapterVersion d p adapter model = some ver)
    (hfum : (d.pwr.fumarole && (mode != 0 || gated d p)) = false)
    (hgate : gatedAlone d p = false) (hkeys : keysMissing d p = false) :
    firstFail ([(!modelUsable d p model, stw stParam 6)] ++
        selectChecks mode tau.toNat topk sink recent (7, 11, 12, 8, 13) ++
        [((adapterVersion d p adapter model).isNone, stw stParam 10),
         (d.pwr.fumarole && (mode != 0 || gated d p), stw stRetry 0), (gatedAlone d p, stw stRetry 0),
         (keysMissing d p, stw stRetry 0)]) = none := by
  simp only [firstFail_append, hsel]
  simp [firstFail, hmodel, hver, hfum, hgate, hkeys]

/-- Settles O9: the search finds the lowest entry that can be taken, and what makes the session keeps its generation. -/
theorem sessionCreateTakesLowestEntry : Obligations.SessionCreateTakesLowestEntry := by
  refine ⟨fun d p i hfree => ?found, fun d p hnone j => freeEntryOf_eq_none hnone, ?command⟩
  case found =>
    obtain ⟨hlo, hhi, ⟨hst, hquar⟩, hbelow⟩ := freeEntryOf_eq_some hfree
    exact ⟨hlo, hhi, hst, hquar, hbelow⟩
  case command =>
    intro s h model mode sink adapter topk recent ver tau hi hmodel hsel hver hfum hgate hkeys
    have hpass := sessionCreate_passes hmodel hsel hver hfum hgate hkeys
    refine ⟨fun hnone => ?full, fun i d hfree hcreate => ⟨?created, ?gen⟩⟩
    case full =>
      refine serve_eq_did (f := fun d => sessionCreate d h model mode sink adapter tau topk recent) hi.1
        ((onChannel_issued hi 0x0101 _).trans ((checked_ok h 0x0101 _ hpass).trans ?_))
      simp only [hnone]
    case created =>
      refine serve_eq_did (f := fun d => sessionCreate d h model mode sink adapter tau topk recent) hi.1
        ((onChannel_issued hi 0x0101 _).trans ((checked_ok h 0x0101 _ hpass).trans ?_))
      simp only [hfree, hver, Option.getD_some, hcreate]
    case gen =>
      have hgen := createSession_gen hcreate
      exact ⟨hgen, by rw [hGen_handleOf, hgen]; rfl⟩

end Sys2Proof.Machine
end

section
/-!
PROOFS. The session space family, the end of a session (R85, R95, R97): what the answers of requests leave of a session's
entry, what counts a quarantined entry, SESSION_DESTROY and fences.
-/

namespace Sys2Proof.Machine

/-! ## What repeated steps leave -/

/-- A step repeated over a list leaves what one step leaves. -/
theorem foldl_keeps {α β : Type} (F : Dev → β) {f : Dev → α → Dev} (h : ∀ d a, F (f d a) = F d) (l : List α) (d : Dev) :
    F (l.foldl f d) = F d :=
  List.foldlRecOn (motive := fun d' => F d' = F d) l f rfl fun d' hd a _ => (h d' a).trans hd

/-- R34: a discarded append leaves what the drops of its tail pages and the rows set to zero leave. -/
theorem discardAppend_keeps {β : Type} (F : Dev → β) {r : Req}
    (hdrop : ∀ d n, F (dropTail (dropPage d n) r.entry r.layer) = F d)
    (hzero : ∀ d ld f row, F (zeroRow d ld f row) = F d) (d : Dev) : F (discardAppend d r) = F d := by
  have htails := foldl_keeps F hdrop r.newTails d
  unfold discardAppend
  dsimp only
  split
  · rfl
  · split
    · split
      · exact htails
      · split
        · split
          · refine (foldl_keeps F (fun d k => ?_) _ _).trans htails
            split
            · exact hzero ..
            · rfl
          · exact htails
        · exact htails
    · exact htails

/-- R103: the window drop leaves what a change of the layer and the drops of its pages leave. -/
theorem windowDrop_keeps {β : Type} (F : Dev → β) {i l : Nat} (hlayer : ∀ d g, F (modLayer d i l g) = F d)
    (hdrop : ∀ d ns, F (dropPages d ns) = F d) (d : Dev) : F (windowDrop d i l) = F d := by
  unfold windowDrop
  dsimp only
  split
  · split
    · rfl
    · exact (hdrop ..).trans (hlayer ..)
  · rfl

/-- R34: so does what the answer makes of the append. -/
theorem settleAppend_keeps {β : Type} (F : Dev → β) {r : Req} (hlayer : ∀ d g, F (modLayer d r.entry r.layer g) = F d)
    (hdrop : ∀ d n, F (dropPage d n) = F d) (hzero : ∀ d ld f row, F (zeroRow d ld f row) = F d) (d : Dev) (code : Nat) :
    F (settleAppend d r code) = F d := by
  unfold settleAppend
  split_ifs
  · rfl
  · exact (windowDrop_keeps F hlayer (fun d ns => foldl_keeps F hdrop ns d) _).trans (hlayer ..)
  · exact discardAppend_keeps F (fun d n => (hlayer ..).trans (hdrop ..)) hzero d

/-! ## What an answered request leaves of an entry (R34, R465) -/

/-- Entry i without its layers and their least length, which the answers of its requests change. -/
def entryCore (d : Dev) (i : Nat) : SessEnt := { sess d i with layers := [], length := 0 }

section EntryCore

variable {d d' : Dev} {i : Nat}

theorem entryCore_of_sess_eq (h : d'.sess = d.sess) : entryCore d' i = entryCore d i := by
  simp only [entryCore, sess, h]

theorem doomed_eq_of_entryCore_eq (h : entryCore d' i = entryCore d i) : (sess d' i).doomed = (sess d i).doomed :=
  (congrArg SessEnt.doomed h :)

theorem st_eq_of_entryCore_eq (h : entryCore d' i = entryCore d i) : (sess d' i).st = (sess d i).st :=
  (congrArg SessEnt.st h :)

theorem gen_eq_of_entryCore_eq (h : entryCore d' i = entryCore d i) : (sess d' i).gen = (sess d i).gen :=
  (congrArg SessEnt.gen h :)

theorem quar_eq_of_entryCore_eq (h : entryCore d' i = entryCore d i) : (sess d' i).quar = (sess d i).quar :=
  (congrArg SessEnt.quar h :)

@[simp] theorem entryCore_modLayer (d : Dev) (i j l : Nat) (g : LayerSt → LayerSt) :
    entryCore (modLayer d j l g) i = entryCore d i := by
  unfold entryCore modLayer
  rw [sess_modSess]
  split_ifs with hij
  · rw [hij]
  · rfl

@[simp] theorem entryCore_settleAppend (d : Dev) (i : Nat) (r : Req) (code : Nat) :
    entryCore (settleAppend d r code) i = entryCore d i :=
  settleAppend_keeps (entryCore · i) (fun d g => entryCore_modLayer d i r.entry r.layer g)
    (fun d n => entryCore_of_sess_eq (dropPage_sess d n))
    (fun d ld f row => entryCore_of_sess_eq (zeroRow_sess d ld f row)) d code

@[simp] theorem freeVersion_sess (d : Dev) (id ver : Nat) : (freeVersion d id ver).sess = d.sess := by
  unfold freeVersion
  dsimp only
  split
  · rw [setAdp_sess]
    exact (foldl_sess (fun d c => decFrame_sess d _) _ _).trans (foldl_sess decDesc_sess _ _)
  · rfl

@[simp] theorem releaseVersion_sess (d : Dev) (id ver : Nat) : (releaseVersion d id ver).sess = d.sess := by
  unfold releaseVersion
  dsimp only
  split_ifs <;> simp

/-- R97: the device when the pages and the adapter version of entry i are released, before its entry is freed. -/
def holdingsReleased (d : Dev) (i : Nat) : Dev :=
  releaseVersion (dropPages d (allSpns (sess d i))) (sess d i).adapter (sess d i).adpVersion

theorem releaseSession_eq (d : Dev) (i : Nat) : releaseSession d i = freeEntry (holdingsReleased d i) i := rfl

@[simp] theorem holdingsReleased_sess (d : Dev) (i : Nat) : (holdingsReleased d i).sess = d.sess := by
  simp [holdingsReleased]

theorem entryCore_freeEntry_ne {j : Nat} (h : i ≠ j) : entryCore (freeEntry d j) i = entryCore d i := by
  unfold freeEntry
  dsimp only
  simp only [entryCore, sess_setSess, h, if_false]
  split_ifs <;> rfl

/-- R97: the release of a destroyed session leaves the entries of the sessions that live. -/
theorem entryCore_finishDoomed {j : Nat} (h : (sess d i).doomed = false) :
    entryCore (finishDoomed d j) i = entryCore d i := by
  by_cases hij : i = j
  · rw [← hij, finishDoomed_live h]
  · unfold finishDoomed
    split_ifs
    · rw [releaseSession_eq, entryCore_freeEntry_ne hij]
      exact entryCore_of_sess_eq (holdingsReleased_sess d j)
    · rfl

/-- The device when a request's append is settled and its answer has left, before a session that was kept for it goes. -/
def answered (d : Dev) (r : Req) (code : Nat) (out : List Byte) : Dev :=
  let d1 := dropReq (settleAppend d r (answerCode r code)) r
  let st := stw (answerCode r code) (endDetail (answerCode r code))
  let d2 := sendRsp d1 r.src r.tag r.part r.handle r.layer r.count r.first st (outFmtOf d1 r.entry) r.seq
    (if answerCode r code = stOk ∧ r.append = false then out else [])
  countEvent (if r.phase = .waiting then d2 else workDone d2 12 st r.part r.handle) r.part 3 1

theorem endReq_eq (d : Dev) (r : Req) (code : Nat) (out : List Byte) :
    endReq d r code out = finishDoomed (answered d r code out) r.entry := rfl

@[simp] theorem entryCore_answered (d : Dev) (i : Nat) (r : Req) (code : Nat) (out : List Byte) :
    entryCore (answered d r code out) i = entryCore d i := by
  have hsess : (answered d r code out).sess = (settleAppend d r (answerCode r code)).sess := by
    simp only [answered, countEvent_sess, apply_ite Dev.sess, workDone_sess, ite_self, sendRsp_sess, dropReq_sess]
  exact (entryCore_of_sess_eq hsess).trans (entryCore_settleAppend ..)

/-- R34, R97: an answer leaves the entry of a live session but for its layers. -/
theorem entryCore_endReq (h : (sess d i).doomed = false) (r : Req) (code : Nat) (out : List Byte) :
    entryCore (endReq d r code out) i = entryCore d i := by
  have hkept := entryCore_answered d i r code out
  rw [endReq_eq, entryCore_finishDoomed ((doomed_eq_of_entryCore_eq hkept).trans h), hkept]

/-- R334, R467: so does the end of a LOGITS without a token. -/
theorem entryCore_endLogits (h : (sess d i).doomed = false) (l : LogitsReq) (status reason : Nat) :
    entryCore (endLogits d l status reason) i = entryCore d i := by
  have hkept : entryCore (sendToken { d with tok.logits := d.tok.logits.filter fun q => q.seq != l.seq } l.src l.tag
      (hPart l.handle) l.handle l.pos 0 2 reason status l.seq) i = entryCore d i :=
    entryCore_of_sess_eq (by simp [sendToken, sendFab])
  exact (entryCore_finishDoomed ((doomed_eq_of_entryCore_eq hkept).trans h)).trans hkept

/-- A step that leaves the entry of a live session, repeated over a list, leaves it. -/
theorem foldl_entryCore_live {α : Type} {f : Dev → α → Dev} (hlive : (sess d i).doomed = false)
    (h : ∀ {d : Dev} (a : α), (sess d i).doomed = false → entryCore (f d a) i = entryCore d i) (l : List α) :
    entryCore (l.foldl f d) i = entryCore d i :=
  List.foldlRecOn (motive := fun d' => entryCore d' i = entryCore d i) l f rfl fun _ hd a _ =>
    (h a ((doomed_eq_of_entryCore_eq hd).trans hlive)).trans hd

end EntryCore

/-! ## The counter of quarantined entries (R85) -/

/-- SPM_QUAR_CNT. -/
def quarCnt (d : Dev) : Nat := rd d Addr.SPM_QUAR_CNT

section QuarCnt

variable {d d' : Dev}

theorem quarCnt_of_reg_eq (h : d'.reg = d.reg) : quarCnt d' = quarCnt d := by simp only [quarCnt, rd, regGet, h]

theorem quarCnt_regSet_ne {a : Nat} (v : Word) (h : Addr.SPM_QUAR_CNT ≠ a) : quarCnt (regSet d a v) = quarCnt d := by
  simp only [quarCnt, rd, regGet_regSet, if_neg h]

theorem quarCnt_bumpBy_ne {a : Nat} (n : Nat) (h : Addr.SPM_QUAR_CNT ≠ a) : quarCnt (bumpBy d a n) = quarCnt d :=
  quarCnt_regSet_ne _ h

/-- The counter saturates at 2^32 - 1. -/
theorem quarCnt_bump (d : Dev) : quarCnt (bump d Addr.SPM_QUAR_CNT) = min (quarCnt d + 1) 0xFFFFFFFF := by
  simp only [quarCnt, bump, bumpBy, rd, regGet_regSet_self, BitVec.toNat_ofNat]
  omega

/-! Operations that touch no register. -/

@[simp] theorem endDescTwin_reg (d : Dev) (a : Nat) : (endDescTwin d a).reg = d.reg := by
  unfold endDescTwin
  split
  · split_ifs <;> rfl
  · rfl

@[simp] theorem freeFrame_reg (d : Dev) (f : Nat) : (freeFrame d f).reg = d.reg := by
  have htwin : ∀ x : Frame, (if x.tv then endDescTwin d x.twin else d).reg = d.reg := fun x => by
    split_ifs <;> simp
  unfold freeFrame
  cases frame d f with
  | none => dsimp only; split <;> rfl
  | some x => dsimp only; split <;> exact htwin x

@[simp] theorem decFrame_reg (d : Dev) (f : Nat) : (decFrame d f).reg = d.reg := by
  unfold decFrame
  split
  · split_ifs
    · exact freeFrame_reg d f
    · rfl
  · rfl

@[simp] theorem decDesc_reg (d : Dev) (a : Nat) : (decDesc d a).reg = d.reg := by
  unfold decDesc
  split
  · split_ifs <;> rfl
  · rfl

@[simp] theorem freeSpn_reg (d : Dev) (spn : Nat) : (freeSpn d spn).reg = d.reg := by
  unfold freeSpn
  dsimp only
  split
  · rfl
  · split
    · exact foldl_keeps Dev.reg decFrame_reg _ _
    · rfl

@[simp] theorem notePage_reg (d : Dev) (spn : Nat) : (notePage d spn).reg = d.reg := by
  unfold notePage
  split_ifs <;> rfl

@[simp] theorem zeroRow_reg (d : Dev) (ld : LayerDesc) (f row : Nat) : (zeroRow d ld f row).reg = d.reg :=
  foldl_keeps Dev.reg (fun d h => by dsimp only; split_ifs <;> rfl) _ d

@[simp] theorem modLayer_reg (d : Dev) (i l : Nat) (g : LayerSt → LayerSt) : (modLayer d i l g).reg = d.reg :=
  modSess_reg ..

@[simp] theorem setAdp_reg (d : Dev) (id : Nat) (x : AdpId) : (setAdp d id x).reg = d.reg := noteObj_reg ..

@[simp] theorem freeVersion_reg (d : Dev) (id ver : Nat) : (freeVersion d id ver).reg = d.reg := by
  unfold freeVersion
  dsimp only
  split
  · rw [setAdp_reg]
    exact (foldl_keeps Dev.reg (fun d c => decFrame_reg d _) _ _).trans (foldl_keeps Dev.reg decDesc_reg _ _)
  · rfl

@[simp] theorem releaseVersion_reg (d : Dev) (id ver : Nat) : (releaseVersion d id ver).reg = d.reg := by
  unfold releaseVersion
  dsimp only
  split_ifs <;> simp

/-! Operations that count something else. -/

@[simp] theorem quarCnt_enqueue (d : Dev) (m : Msg) : quarCnt (enqueue d m) = quarCnt d := by
  unfold enqueue
  split_ifs
  · exact quarCnt_bumpBy_ne 1 (by decide)
  · exact quarCnt_of_reg_eq (pushQueue_reg d m)

@[simp] theorem quarCnt_reply (d : Dev) (h : CmdHdr) (op st : Nat) : quarCnt (reply d h op st) = quarCnt d :=
  quarCnt_enqueue (finish d h) _

@[simp] theorem quarCnt_stamp (d : Dev) (input type status part object : Nat) :
    quarCnt (stamp d input type status part object) = quarCnt d := by
  have hcapture : ∀ r, quarCnt (captureRec d r) = quarCnt d := fun r => by
    unfold captureRec
    split_ifs
    · rfl
    · exact quarCnt_bumpBy_ne 1 (by decide)
    · rfl
  have hnote : ∀ d : Dev, (noteInput d input).reg = d.reg := fun d => by
    unfold noteInput wake
    dsimp only
    split_ifs <;> rfl
  exact (quarCnt_of_reg_eq (hnote _)).trans (hcapture _)

theorem quarCnt_noteSticky (d : Dev) (n : Nat) : quarCnt (noteSticky d n) = quarCnt d := by
  unfold noteSticky
  split_ifs
  · exact quarCnt_bumpBy_ne 1 (by decide)
  · rfl

theorem quarCnt_holdFrame (d : Dev) (f spn : Nat) : quarCnt (holdFrame d f spn) = quarCnt d := by
  simp only [holdFrame, incFrame]
  split
  · exact quarCnt_noteSticky ..
  · rfl

theorem quarCnt_holdCopy (d : Dev) (a spn : Nat) : quarCnt (holdCopy d a spn) = quarCnt d := by
  simp only [holdCopy, incDesc]
  split
  · exact quarCnt_noteSticky ..
  · rfl

@[simp] theorem quarCnt_holdBeforeDrop (d : Dev) (spn : Nat) : quarCnt (holdBeforeDrop d spn) = quarCnt d := by
  unfold holdBeforeDrop
  split
  · dsimp only
    split
    · split
      · exact quarCnt_holdCopy ..
      · rfl
      · split
        · split_ifs
          · exact quarCnt_holdCopy ..
          · exact quarCnt_holdFrame ..
        · rfl
    · rfl
  · rfl

@[simp] theorem quarCnt_revokeGrants (d : Dev) (spn : Nat) : quarCnt (revokeGrants d spn) = quarCnt d := by
  unfold revokeGrants
  dsimp only
  split_ifs
  · rfl
  · exact quarCnt_bumpBy_ne _ (by decide)

/-- A Drop counts grants that it revokes, sticky counts and events that R111 does not list, and no quarantined entry. -/
@[simp] theorem quarCnt_dropPage (d : Dev) (spn : Nat) : quarCnt (dropPage d spn) = quarCnt d := by
  have hbefore : quarCnt (notePage (holdBeforeDrop (revokeGrants d spn) spn) spn) = quarCnt d := by
    rw [quarCnt_of_reg_eq (notePage_reg ..), quarCnt_holdBeforeDrop, quarCnt_revokeGrants]
  unfold dropPage
  split
  · exact quarCnt_bumpBy_ne 1 (by decide)
  · dsimp only
    generalize notePage (holdBeforeDrop (revokeGrants d spn) spn) spn = d1 at hbefore ⊢
    refine (quarCnt_of_reg_eq ?_).trans hbefore
    split <;> simp

@[simp] theorem quarCnt_dropPages (d : Dev) (l : List Nat) : quarCnt (dropPages d l) = quarCnt d :=
  foldl_keeps quarCnt quarCnt_dropPage l d

theorem quarCnt_settleAppend (d : Dev) (r : Req) (code : Nat) : quarCnt (settleAppend d r code) = quarCnt d :=
  settleAppend_keeps quarCnt (fun _ _ => quarCnt_of_reg_eq (modLayer_reg ..)) quarCnt_dropPage
    (fun _ _ _ _ => quarCnt_of_reg_eq (zeroRow_reg ..)) d code

@[simp] theorem quarCnt_holdingsReleased (d : Dev) (i : Nat) : quarCnt (holdingsReleased d i) = quarCnt d :=
  (quarCnt_of_reg_eq (releaseVersion_reg ..)).trans (quarCnt_dropPages ..)

/-- A freed entry that a destroy had doomed was quarantined, and counted, by that destroy (R97). -/
theorem quarCnt_freeEntry_doomed {i : Nat} (h : (sess d i).doomed = true) : quarCnt (freeEntry d i) = quarCnt d := by
  unfold freeEntry
  dsimp only
  rw [h]
  simp [quarCnt_of_reg_eq (setSess_reg ..)]

theorem quarCnt_finishDoomed (d : Dev) (i : Nat) : quarCnt (finishDoomed d i) = quarCnt d := by
  unfold finishDoomed
  split
  next h =>
    have hdoomed : (sess (holdingsReleased d i) i).doomed = true := by
      simpa [sess] using (Bool.and_eq_true_iff.1 h).1
    rw [releaseSession_eq, quarCnt_freeEntry_doomed hdoomed, quarCnt_holdingsReleased]
  next => rfl

@[simp] theorem quarCnt_workDone (d : Dev) (input status part object : Nat) :
    quarCnt (workDone d input status part object) = quarCnt d := quarCnt_stamp ..

@[simp] theorem quarCnt_sendRsp (d : Dev) (src tag part handle layer count first status outFmt ref : Nat)
    (out : List Byte) : quarCnt (sendRsp d src tag part handle layer count first status outFmt ref out) = quarCnt d :=
  quarCnt_enqueue d _

@[simp] theorem quarCnt_countEvent (d : Dev) (p k n : Nat) : quarCnt (countEvent d p k n) = quarCnt d :=
  quarCnt_of_reg_eq (modPart_reg ..)

@[simp] theorem quarCnt_dropReq (d : Dev) (r : Req) : quarCnt (dropReq d r) = quarCnt d := quarCnt_of_reg_eq rfl

theorem quarCnt_endReq (d : Dev) (r : Req) (code : Nat) (out : List Byte) : quarCnt (endReq d r code out) = quarCnt d := by
  rw [endReq_eq, quarCnt_finishDoomed]
  simp only [answered, quarCnt_countEvent, apply_ite quarCnt, quarCnt_workDone, ite_self, quarCnt_sendRsp,
    quarCnt_dropReq, quarCnt_settleAppend]

theorem quarCnt_endLogits (d : Dev) (l : LogitsReq) (status reason : Nat) :
    quarCnt (endLogits d l status reason) = quarCnt d :=
  (quarCnt_finishDoomed ..).trans (quarCnt_enqueue _ _)

end QuarCnt

/-! ## SESSION_DESTROY (R85, R97) -/

/-- R97: the requests of entry i that a destroy stamped `seq` ends. -/
def endStaleRequests (d : Dev) (i seq : Nat) : Dev :=
  (d.reqs.filter fun r => r.entry == i && (r.phase == .waiting || before seq r.seq)).foldl
    (fun d r => endWaiting d r stStale) d

/-- R97: the LOGITS of entry i that it ends. -/
def endStaleLogits (d : Dev) (i seq : Nat) : Dev :=
  (d.tok.logits.filter fun l => l.entry == i && (!l.sent || before seq l.seq)).foldl
    (fun d l => endLogits d l (stw stStale 5) 0) d

/-- R97, R279: a destroy up to the release of the session's pages. -/
def destroyEnds (d : Dev) (i seq : Nat) : Dev := endStaleLogits (endStaleRequests (guardHolder d i seq) i seq) i seq

/-- R97: a destroyed session whose pages something still keeps: from now on its handle is not live. -/
def doomEntry (d : Dev) (i : Nat) : Dev :=
  let e := sess d i
  setSess (if e.gen = 0xFFFFFFFF then bump d Addr.SPM_QUAR_CNT else d) i
    { e with doomed := true, gen := if e.gen = 0xFFFFFFFF then e.gen else e.gen + 1,
             quar := e.quar || e.gen == 0xFFFFFFFF }

theorem destroySession_eq (d : Dev) (i seq : Nat) : destroySession d i seq =
    if keptAlive (destroyEnds d i seq) i then doomEntry (destroyEnds d i seq) i
    else releaseSession (destroyEnds d i seq) i := rfl

theorem entryCore_endStaleRequests {d : Dev} {i : Nat} (h : (sess d i).doomed = false) (seq : Nat) :
    entryCore (endStaleRequests d i seq) i = entryCore d i :=
  foldl_entryCore_live h (fun r hr => entryCore_endReq hr r stStale []) _

theorem entryCore_endStaleLogits {d : Dev} {i : Nat} (h : (sess d i).doomed = false) (seq : Nat) :
    entryCore (endStaleLogits d i seq) i = entryCore d i :=
  foldl_entryCore_live h (fun l hl => entryCore_endLogits hl l (stw stStale 5) 0) _

/-- Up to the release of its pages a destroy leaves the session's entry but for its layers. -/
theorem entryCore_destroyEnds {d : Dev} {i : Nat} (h : (sess d i).doomed = false) (seq : Nat) :
    entryCore (destroyEnds d i seq) i = entryCore d i := by
  have hreqs : entryCore (endStaleRequests (guardHolder d i seq) i seq) i = entryCore d i :=
    entryCore_endStaleRequests (d := guardHolder d i seq) h seq
  exact (entryCore_endStaleLogits ((doomed_eq_of_entryCore_eq hreqs).trans h) seq).trans hreqs

theorem quarCnt_destroyEnds (d : Dev) (i seq : Nat) : quarCnt (destroyEnds d i seq) = quarCnt d := by
  have hreqs : quarCnt (endStaleRequests (guardHolder d i seq) i seq) = quarCnt (guardHolder d i seq) :=
    foldl_keeps quarCnt (fun d r => quarCnt_endReq d r stStale []) _ _
  exact (foldl_keeps quarCnt (fun d l => quarCnt_endLogits d l _ 0) _ _).trans hreqs

/-- R85: entry i of d' is the next after the session of generation g in entry i of d: it has the next generation, or is
quarantined and counted. -/
def MovedOn (g : Nat) (d d' : Dev) (i : Nat) : Prop :=
  (g ≠ 0xFFFFFFFF → (sess d' i).gen = g + 1 ∧ (sess d' i).quar = false) ∧
  (g = 0xFFFFFFFF → (sess d' i).gen = 0xFFFFFFFF ∧ (sess d' i).quar = true ∧
    quarCnt d' = min (quarCnt d + 1) 0xFFFFFFFF)

/-- R85: a released entry that no destroy had moved on is FREE and moves on. -/
theorem freeEntry_movesOn {d : Dev} {i : Nat} (hlive : (sess d i).doomed = false) (hquar : (sess d i).quar = false) :
    MovedOn (sess d i).gen d (freeEntry d i) i ∧ (sess (freeEntry d i) i).st = .free := by
  unfold freeEntry MovedOn
  by_cases hg : (sess d i).gen = 0xFFFFFFFF
  · simp [hlive, hquar, hg, SessEnt.free, quarCnt_of_reg_eq (setSess_reg ..), quarCnt_bump]
  · simp [hlive, hquar, hg, SessEnt.free]

theorem doomEntry_movesOn {d : Dev} {i : Nat} (hquar : (sess d i).quar = false) :
    MovedOn (sess d i).gen d (doomEntry d i) i ∧ (sess (doomEntry d i) i).doomed = true := by
  unfold doomEntry MovedOn
  by_cases hg : (sess d i).gen = 0xFFFFFFFF
  · simp [hg, quarCnt_of_reg_eq (setSess_reg ..), quarCnt_bump]
  · simp [hquar, hg]

/-- R97: the release of a session drops its pages and its adapter version, and its entry is freed. -/
theorem releaseSession_movesOn {d : Dev} {i : Nat} (hlive : (sess d i).doomed = false) (hquar : (sess d i).quar = false) :
    MovedOn (sess d i).gen d (releaseSession d i) i ∧ (sess (releaseSession d i) i).st = .free := by
  have hentry : sess (holdingsReleased d i) i = sess d i := by simp only [sess, holdingsReleased_sess]
  have hfree := freeEntry_movesOn (d := holdingsReleased d i) (hentry ▸ hlive) (hentry ▸ hquar)
  simpa only [MovedOn, releaseSession_eq, hentry, quarCnt_holdingsReleased] using hfree

/-- R85, R97: a destroyed session's entry moves on. Where something keeps its pages, the release waits (log 38). -/
theorem destroySession_movesOn {d : Dev} {i : Nat} (seq : Nat) (hlive : (sess d i).doomed = false)
    (hquar : (sess d i).quar = false) : MovedOn (sess d i).gen d (destroySession d i seq) i ∧
      ((sess (destroySession d i seq) i).st = .free ∨ (sess (destroySession d i seq) i).doomed = true) := by
  have hcore := entryCore_destroyEnds hlive seq
  have hlive' := (doomed_eq_of_entryCore_eq hcore).trans hlive
  have hquar' := (quar_eq_of_entryCore_eq hcore).trans hquar
  have hmoved : ∀ {d' : Dev}, MovedOn (sess (destroyEnds d i seq) i).gen (destroyEnds d i seq) d' i →
      MovedOn (sess d i).gen d d' i := fun h => by
    simpa only [MovedOn, gen_eq_of_entryCore_eq hcore, quarCnt_destroyEnds] using h
  rw [destroySession_eq]
  split
  · obtain ⟨hgen, hdoomed⟩ := doomEntry_movesOn hquar'
    exact ⟨hmoved hgen, .inr hdoomed⟩
  · obtain ⟨hgen, hfree⟩ := releaseSession_movesOn hlive' hquar'
    exact ⟨hmoved hgen, .inl hfree⟩

/-- R83: a live handle names an entry that is not doomed. -/
theorem doomed_of_live {d : Dev} {handle i : Nat} (h : live d handle = some i) : (sess d i).doomed = false := by
  unfold live at h
  dsimp only at h
  split at h
  next hlive => cases h; exact hlive.2.2.1
  next => cases h

/-- R83, R97: SESSION_DESTROY of a live session that its channel may name. -/
theorem exec_sessionDestroy {s : State} {h : CmdHdr} {handle i : Nat} (hs : Serving s)
    (hname : h.part = 0 ∨ (hPart handle = h.part ∧ fencedFor s.dev h = false)) (hlive : live s.dev handle = some i) :
    exec (.sessionDestroy h handle) s = did s (reply (destroySession s.dev i h.seq) h 0x0102 stOk) := by
  have hserved : (h.part != 0 && fencedFor s.dev h) = false := by
    rcases hname with hop | ⟨-, hfence⟩
    · simp [hop]
    · simp [hfence]
  have hown : h.part = 0 ∨ hPart handle = h.part := hname.imp id And.left
  refine serve_eq_did (f := fun d => sessionDestroy d h handle) hs ?_
  unfold sessionDestroy
  rw [hserved, if_neg (by decide), if_pos hown, hlive]

/-- Settles O11: a destroy moves the entry on, whether its pages go at once or something keeps them (log 38), and the
search passes a quarantined entry. -/
theorem destroyedEntryMovesOn : Obligations.DestroyedEntryMovesOn := by
  refine ⟨fun s h handle i hs hname hlive hquar => ?destroy, fun d p i hfree => ?search⟩
  case destroy =>
    obtain ⟨⟨hnext, hquarantined⟩, hgone⟩ := destroySession_movesOn h.seq (doomed_of_live hlive) hquar
    have hentry : sess (reply (destroySession s.dev i h.seq) h 0x0102 stOk) i =
        sess (destroySession s.dev i h.seq) i := by simp only [sess, reply_sess]
    refine ⟨_, exec_sessionDestroy hs hname hlive, ?_⟩
    rw [hentry]
    exact ⟨hnext, fun hg => by rw [← quarCnt, quarCnt_reply]; exact hquarantined hg, hgone⟩
  case search =>
    obtain ⟨-, -, htake, -⟩ := freeEntryOf_eq_some hfree
    exact htake

/-! ## Fences (R95) -/

/-- R95: a session under a fence, with the state that it had before. -/
def fencedEntry (e : SessEnt) : SessEnt := if e.st = .fenced then e else { e with prev := e.st, st := .fenced }

theorem fencedEntry_st (e : SessEnt) : (fencedEntry e).st = .fenced := by
  unfold fencedEntry
  split_ifs with h
  · exact h
  · rfl

theorem fencedEntry_doomed (e : SessEnt) : (fencedEntry e).doomed = e.doomed := by
  unfold fencedEntry
  split_ifs <;> rfl

/-- The entries of a list put under a fence. -/
def fenceEntries (d : Dev) (is : List Nat) : Dev := is.foldl (fun d i => modSess d i fencedEntry) d

theorem fenceEntries_doomed (d : Dev) (is : List Nat) (j : Nat) :
    (sess (fenceEntries d is) j).doomed = (sess d j).doomed :=
  List.foldlRecOn (motive := fun d' => (sess d' j).doomed = (sess d j).doomed) is _ rfl fun d' hd i _ => by
    rw [sess_modSess]
    split_ifs with hij
    · rw [fencedEntry_doomed, ← hij, hd]
    · exact hd

/-- Once under a fence an entry stays there, whatever further entries are put under it. -/
theorem fenceEntries_st {is : List Nat} {j : Nat} (d : Dev) (h : j ∈ is ∨ (sess d j).st = .fenced) :
    (sess (fenceEntries d is) j).st = .fenced := by
  induction is generalizing d with
  | nil => simpa [fenceEntries] using h
  | cons i is ih =>
    refine ih (modSess d i fencedEntry) ?_
    by_cases hij : j = i
    · exact .inr (by simp [hij, fencedEntry_st])
    · exact h.imp (fun hj => (List.mem_cons.1 hj).resolve_left hij) fun hst => by rwa [sess_modSess, if_neg hij]

theorem fenceSessions_sess (d : Dev) (p : Nat) : (fenceSessions d p).sess =
    (((fenceEntries d (entriesOf d p)).reqs.filter fun r => (entriesOf d p).contains r.entry && r.phase == .waiting).foldl
      (fun d r => endWaiting d r stFenced) (fenceEntries d (entriesOf d p))).sess := rfl

/-- Settles O43: the fence marks every entry of the partition, and the requests that it ends leave the marks of live
sessions. -/
theorem fenceFencesSessions : Obligations.FenceFencesSessions := by
  intro d p i hi hlive
  have hmarked : (sess (fenceEntries d (entriesOf d p)) i).doomed = false := (fenceEntries_doomed ..).trans hlive
  have hkept := (entryCore_of_sess_eq (i := i) (fenceSessions_sess d p)).trans
    (foldl_entryCore_live hmarked (fun r hr => entryCore_endReq hr r stFenced []) _)
  exact (st_eq_of_entryCore_eq hkept).trans (fenceEntries_st d (.inl hi))

end Sys2Proof.Machine
end

section
/-!
PROOFS. The session space family, commands on a live session, forks and parks (R97, R115, R116, R135, R153, R202, R300,
R562).
-/

namespace Sys2Proof.Machine

/-- A command on a live session, on a serving device. -/
theorem onSession_runs {s : State} {h : CmdHdr} {handle i : Nat} (ho : OnSession s h handle i) (op det : Nat)
    (k : Dev → Nat → SessEnt → Dev) : onChannel s.dev h op false (fun d => withSess d h op handle det k) =
      k (touched s.dev i) i (sess s.dev i) := by
  obtain ⟨hissued, hlive⟩ := ho
  exact (onChannel_issued hissued op _).trans (withSess_ok op det k hlive)

/-- R152: of an entry that a command names only the tick is noted. -/
theorem sess_touched (d : Dev) (i : Nat) : sess (touched d i) i = { sess d i with lastTick := d.tick } :=
  sess_modSess_self ..

/-! ## The commands on a live session -/

/-- R202: SESSION_SET_SELECT with parameters in range, between the session's steps. -/
theorem sessionSetSelect_runs {s : State} {h : CmdHdr} {handle i mode sink topk recent : Nat} {tau : F32} {d1 : Dev}
    (ho : OnSession s h handle i)
    (hsel : firstFail (selectChecks mode tau.toNat topk sink recent (7, 12, 9, 8, 10)) = none)
    (hfree : (attaching (touched s.dev i) i || stepInProgress (touched s.dev i) i ||
      (s.dev.pwr.fumarole && mode != 0)) = false) (hctrl : CtrlWritable (touched s.dev i) i d1) :
    sessionSetSelect s.dev h handle mode sink topk recent tau =
      reply (modSess d1 i fun e => { e with select := mode, ctrl := { e.ctrl with
        tau := tau, topkK := topk, sinkPages := sink, recentPages := recent } }) h 0x0105 stOk := by
  unfold sessionSetSelect
  simp only [hsel]
  refine (onSession_runs ho 0x0105 6 _).trans ?_
  simp only [touched_pwr, hfree, Bool.false_eq_true, if_false]
  exact writeCtrl_ok h 0x0105 _ hctrl

/-- R300: SESSION_SET_ADAPTER to a version that the session may name, between its steps. -/
theorem sessionSetAdapter_runs {s : State} {h : CmdHdr} {handle i adapter v : Nat} (ho : OnSession s h handle i)
    (hver : adapterVersion (touched s.dev i) h.part adapter (sess s.dev i).model = some v)
    (hfree : stepInProgress (touched s.dev i) i = false) :
    sessionSetAdapter s.dev h handle adapter =
      replyBody (modSess (releaseVersion (holdVersion (touched s.dev i) adapter v) (sess s.dev i).adapter
        (sess s.dev i).adpVersion) i fun e => { e with adapter := adapter, adpVersion := v }) h 0x0106 stOk
        (leBytes 4 v ++ leBytes 12 0) := by
  refine (onSession_runs ho 0x0106 6 _).trans ?_
  simp only [hver, hfree, Bool.false_eq_true, if_false]

/-- Settles O10: each clause is what the command does on the entry that its handle names. -/
theorem sessionCommandsComplete : Obligations.SessionCommandsComplete := by
  intro s h handle i
  refine ⟨fun hs hname hlive => exec_sessionDestroy hs hname hlive, fun ho => ?info, ?select, ?adapter⟩
  case info =>
    refine serve_eq_did (f := fun d => sessionInfo d h handle) ho.1.1 ((onSession_runs ho 0x0108 6 _).trans ?_)
    rw [sess_touched]
    rfl
  case select =>
    intro mode sink topk recent tau d1 ho hsel hfree hctrl
    exact serve_eq_did (f := fun d => sessionSetSelect d h handle mode sink topk recent tau) ho.1.1
      (sessionSetSelect_runs ho hsel hfree hctrl)
  case adapter =>
    intro adapter v ho hver hfree
    exact serve_eq_did (f := fun d => sessionSetAdapter d h handle adapter) ho.1.1 (sessionSetAdapter_runs ho hver hfree)

/-! ## Forks (R115, R116) -/

/-- R115: a fork whose parent has no page in flight and its control page at hand begins at once. -/
theorem forkStep_begins {d d1 : Dev} {h : CmdHdr} {k c seed : Nat} (hflight : inFlight d (sess d k) = false)
    (hplace : ctrlPlace d (sess d k) = .here) (hfree : freeEntryOf d h.part = some c)
    (hinto : forkInto d h k c seed none = .ok d1) :
    forkStep d h k seed none = (putFork d1 ⟨h, k, seed, some c, false⟩, none) := by
  unfold forkStep
  simp only [hflight, hplace, hfree, hinto, Option.isSome_none, Bool.false_eq_true, if_false]

theorem sessionFork_begins {s : State} {h : CmdHdr} {handle i c seed : Nat} {d1 : Dev} (ho : OnSession s h handle i)
    (hstate : forkParkState (sess s.dev i) = none)
    (hfree : (gatedAlone (touched s.dev i) h.part || attaching (touched s.dev i) i || stepBars (touched s.dev i) i) =
      false)
    (hstep : forkStep (touched s.dev i) h i seed none = (putFork d1 ⟨h, i, seed, some c, false⟩, none)) :
    sessionFork s.dev h handle seed = putFork d1 ⟨h, i, seed, some c, false⟩ := by
  refine (onSession_runs ho 0x0103 6 _).trans ?_
  simp only [hstate, hfree, hstep, Bool.false_eq_true, if_false]

/-- R116: a fork whose child stands is answered in a slot of the session and page manager. -/
theorem forkComplete_answers {d : Dev} {h : CmdHdr} {k seed c : Nat}
    (hfork : forkOf d h.seq = some ⟨h, k, seed, some c, false⟩) (hslot : svcSlot d .spmPort h.part = true)
    (hown : (d.pfx.jobs.any fun j => j.cmd == h) = false) :
    forkComplete d h.seq = replyBody (endFork d h k) h 0x0103 stOk
      (leBytes 8 (handleOf (endFork d h k) c) ++ leBytes 8 (sess (endFork d h k) c).ctrl.sampling.seed) := by
  unfold forkComplete
  simp only [hfork]
  rw [if_neg (by simp [hslot, hown])]
  simp [hfork]

/-! ## Parks (R135, R153) -/

/-- R135, R137: a park of a session that may be parked, and whose units can be had. -/
theorem sessionPark_runs {s : State} {h : CmdHdr} {handle pflags i : Nat} {d2 : Dev} (ho : OnSession s h handle i)
    (hflags : pflags ≤ 1) (hfum : s.dev.pwr.fumarole = false) (hkeys : (part s.dev h.part).tierKeys ≠ [])
    (hstate : forkParkState (sess s.dev i) = none) (hst : (sess s.dev i).st ≠ .parked)
    (hwait : (forking (touched s.dev i) i || (!bit pflags 0 && codecWaits (touched s.dev i) i)) = false)
    (hbars : (attaching (touched s.dev i) i || stepBars (touched s.dev i) i) = false) {need t d3 : Dev} {r : Nat × Dev}
    (hneed : beforePark (touched s.dev i) i (bit pflags 0) = need)
    (hunits : reserveUnits (touched s.dev i) h.part (unitsNeeded need (parkList need i (bit pflags 0))) = (d2, none))
    (ht : beforePark d2 i (bit pflags 0) = t)
    (h3 : (if bit pflags 0 then t else modSess t i fun e => { e with st := .parked }) = d3)
    (hr : parkAll d3 i h.seq (parkList d3 i (bit pflags 0)) = r) :
    sessionPark s.dev h handle pflags = settleParks { r.2 with pg.parks := r.2.pg.parks ++ [(h, i, r.1)] } := by
  obtain ⟨hfork, hcodec⟩ := Bool.or_eq_false_iff.1 hwait
  have hkept : (part (touched s.dev i) h.part).tierKeys.isEmpty = false := by simpa [part] using hkeys
  subst hneed ht h3 hr
  unfold sessionPark
  simp only [if_neg (Nat.not_lt.2 hflags)]
  refine (onSession_runs ho 0x0104 6 _).trans ?_
  simp only [touched_pwr, hfum, hkept, hstate, if_neg hst, hbars, hunits, Bool.false_eq_true, if_false]
  exact if_neg (by simpa [hfork] using hcodec)

/-- R152, R153: of the sessions in their order the first that age parking may take, and whose units can be had, is
parked. -/
theorem ageFirst_parks {a d2 : Dev} {older younger : List Nat} {i : Nat} (holder : ∀ j ∈ older, ageable a j = false)
    (hage : ageable a i = true) (hst : (sess (beforePark d2 i false) i).st = .active)
    (hunits : reserveUnits a (ownerOf a i)
      (unitsNeeded (beforePark a i false) (parkList (beforePark a i false) i false)) = (d2, none)) {d3 : Dev}
    (h3 : modSess (beforePark d2 i false) i (fun e => { e with st := .parked }) = d3) :
    ageFirst (older ++ i :: younger) a = bump (parkAll d3 i 0 (parkList d3 i false)).2 Addr.TMC_AGE_PARK_CNT := by
  induction older with
  | nil =>
    subst h3
    simp only [List.nil_append, ageFirst, hage, hunits, modSess, hst, Bool.not_true, Bool.false_eq_true, if_false]
  | cons j older ih =>
    have hj := holder j List.mem_cons_self
    simp only [List.cons_append, ageFirst, hj, Bool.not_false, if_true]
    exact ih fun k hk => holder k (List.mem_cons_of_mem _ hk)

/-- R153: age parking is on while the pool is short. -/
theorem agePark_on {d a : Dev} (hfum : d.pwr.fumarole = false) (hpool : poolFree d < lim d Addr.TMC_POOL_LOW)
    (ha : { d with pg.ageParking := true } = a) : agePark d = ageFirst (agedSessions a) a := by
  subst ha
  simp [agePark, hfum, hpool]

/-- Settles O12: each clause is the effect of a fork or a park whose conditions hold. -/
theorem forksAndParksComplete : Obligations.ForksAndParksComplete := by
  intro s h handle i
  refine ⟨?fork, ?complete, ?park, ?age⟩
  case fork =>
    intro seed c d1 ho hstate hfree hflight hplace hentry hinto
    exact serve_eq_did (f := fun d => sessionFork d h handle seed) ho.1.1
      (sessionFork_begins ho hstate hfree (forkStep_begins hflight hplace hentry hinto))
  case complete =>
    intro k seed c hs hfork hslot hown d1
    exact serve_eq_did (f := fun d => serveHeld (forkComplete d h.seq)) hs
      (congrArg serveHeld (forkComplete_answers hfork hslot hown))
  case park =>
    intro pflags d2 ho hflags hfum hkeys hstate hst hwait hbars need hunits t d3 r
    exact serve_eq_did (f := fun d => sessionPark d h handle pflags) ho.1.1
      (sessionPark_runs ho hflags hfum hkeys hstate hst hwait hbars rfl hunits rfl rfl rfl)
  case age =>
    intro hs hfum hpool a d2 older younger horder holder hage hst hunits d3
    refine serve_eq_did (f := agePark) hs ((agePark_on hfum hpool rfl).trans ?_)
    change ageFirst (agedSessions a) a = _
    rw [horder]
    exact ageFirst_parks holder hage hst hunits rfl

end Sys2Proof.Machine
end

section
/-!
PROOFS. The session space family, partitions: configuration, fences and resets (R95, R569, R570, R617 to R619, R649).
-/

namespace Sys2Proof.Machine

/-! ## PARTITION_CONFIG (R569, R570) -/

/-- R569, R570: a configuration whose fields pass, whose reservation and whose buckets can be had takes effect. -/
theorem partitionConfig_applied {s : State} {h : CmdHdr} {p : Nat} {c : PartCfg} {d1 : Dev} (hb : ByOperator s h)
    (htest : productionTest s.dev = false) (hst : (part s.dev p).st ≠ .resetting)
    (hfields : firstFail (partitionChecks s.dev p c) = none) (hreserve : reserveOk s.dev p c = true)
    (hbuckets : bucketsUsed s.dev - (part s.dev p).cfg.pfxBuckets + c.pfxBuckets ≤ 2 ^ 21)
    (happly : applyConfig s.dev p c = .ok d1) : partitionConfig s.dev h p c = reply d1 h 0x0701 stOk := by
  have hpass : firstFail (partitionChecks s.dev p c ++
      [(!reserveOk s.dev p c, stw stNoCap 0),
       (decide (2 ^ 21 < bucketsUsed s.dev - (part s.dev p).cfg.pfxBuckets + c.pfxBuckets), stw stNoCap 0)]) = none := by
    rw [firstFail_append, hfields]
    simpa [firstFail, hreserve] using hbuckets
  refine (onChannel_operator hb 0x0701 true _).trans ?_
  simp only [htest, Bool.false_eq_true, false_and, if_false, if_neg hst]
  refine (checked_ok h 0x0701 _ hpass).trans ?_
  simp only [happly]

/-! ## PARTITION_FENCE (R95, R617) -/

/-- R95, R617: a fence of an OPEN partition other than 0. -/
theorem partitionFence_fences {s : State} {h : CmdHdr} {p : Nat} (hb : ByOperator s h) (hp : p ≠ 0)
    (hst : (part s.dev p).st = .opened) : partitionFence s.dev h p 1 =
      reply (fenceSessions (modPart s.dev p fun q => { q with st := .fenced }) p) h 0x0703 stOk := by
  refine (onChannel_operator hb 0x0703 true _).trans ?_
  simp only [hst, if_neg hp]

/-- R95, R617: the fence is lifted, and the sessions return to their states before it. -/
theorem partitionFence_lifts {s : State} {h : CmdHdr} {p : Nat} (hb : ByOperator s h)
    (hst : (part s.dev p).st = .fenced) : partitionFence s.dev h p 0 =
      reply ((entriesOf (modPart s.dev p fun q => { q with st := .opened }) p).foldl unfenceSession
        (modPart s.dev p fun q => { q with st := .opened })) h 0x0703 stOk := by
  refine (onChannel_operator hb 0x0703 true _).trans ?_
  simp only [hst]

/-! ## PARTITION_RESET (R618, R619, R649) -/

/-- R618, R619: a reset, once the commands stamped before it are served, fences the partition and its sessions. -/
theorem partitionReset_fences {s : State} {h : CmdHdr} {p : Nat} (hb : ByOperator s h) (hp : p ≠ 0)
    (hst : (part s.dev p).st = .opened ∨ (part s.dev p).st = .fenced) (hopen : earlierOpen s.dev p h.seq = false) :
    partitionReset s.dev h p =
      fenceSessions (modPart s.dev p fun q => { q with st := .resetting, resetCmd := some h }) p := by
  refine (onChannel_operator hb 0x0702 true _).trans ?_
  rcases hst with hst | hst
  · simp only [hst, if_neg hp, hopen, Bool.false_eq_true, if_false]
  · simp only [hst, if_neg hp, hopen, Bool.false_eq_true, if_false]

/-- R618, R649: a reset whose partition has nothing unanswered wipes it, gives it a new identity and opens it. -/
theorem partitionResetResume_opens {d d1 : Dev} {p : Nat} {c : CmdHdr} (hst : (part d p).st = .resetting)
    (hcmd : (part d p).resetCmd = some c) (hanswered : unanswered d p = false)
    (h1 : modPart (wipeStorage (wipeObjects (wipeEntries d p) p) p) p
      (fun q => { q with tierKeys := [], replKeys := [], kem := none }) = d1) :
    partitionResetResume d p = reply (modPart (wholeWindows (drawIdentity d1 p) p) p fun q =>
      { q with st := .opened, resetCmd := none, tol := 0 }) c 0x0702 stOk := by
  subst h1
  unfold partitionResetResume
  simp only [hst, hcmd, hanswered, Bool.false_eq_true, if_false]

/-- Settles O42: each clause is what the command, or the rest of a reset, does where its checks pass. -/
theorem partitionCommandsComplete : Obligations.PartitionCommandsComplete := by
  intro s h hb
  refine ⟨?config, fun p hp hst => ?fence, fun p hst => ?lift, fun p hp hst hopen => ?reset, ?resume⟩
  case config =>
    intro p c d1 htest hst hfields hreserve hbuckets happly
    exact serve_eq_did (f := fun d => partitionConfig d h p c) hb.1
      (partitionConfig_applied hb htest hst hfields hreserve hbuckets happly)
  case fence => exact serve_eq_did (f := fun d => partitionFence d h p 1) hb.1 (partitionFence_fences hb hp hst)
  case lift => exact serve_eq_did (f := fun d => partitionFence d h p 0) hb.1 (partitionFence_lifts hb hst)
  case reset => exact serve_eq_did (f := fun d => partitionReset d h p) hb.1 (partitionReset_fences hb hp hst hopen)
  case resume =>
    intro p c hst hcmd hanswered d
    exact serve_eq_did (f := fun d => partitionResetResume d p) hb.1
      (partitionResetResume_opens hst hcmd hanswered rfl)

end Sys2Proof.Machine
end

section
/-!
PROOFS. The tiers and parking family: the acknowledgements of the targets, the loss of a slot and TIER_TARGET_CONFIG
(R122 to R125, R133, R157 to R161, R469, R571).
-/

namespace Sys2Proof.Machine

/-! ## TIER_ACK (R133, R158, R469) -/

section TierAck

variable {d : Dev} {p cycle : Nat} {m : FabMsg} {x : Xfer}

/-- R469: an accepted answer goes to the outstanding transfer that its TAG names. -/
theorem tierAck_matched (ha : Accepted d p m 0x12 2) (hx : (d.pg.xfers.find? fun x => x.tag == m.tag) = some x) :
    tierAck d p cycle m =
      serveHeld (copyNext (tierAckFor (noteSeen d m.src m.type m.tag) p cycle m x) (slotOf x.addr)) := by
  have hseen : ((noteSeen d m.src m.type m.tag).pg.xfers.find? fun x => x.tag == m.tag) = some x := hx
  refine congrArg serveHeld ((accept_ok id _ ha).trans ?_)
  simp only [hseen]

/-- R469: an accepted answer whose TAG names no outstanding transfer is counted as a duplicate. -/
theorem tierAck_unmatched (ha : Accepted d p m 0x12 2) (hx : (d.pg.xfers.find? fun x => x.tag == m.tag) = none) :
    tierAck d p cycle m = serveHeld (bump (noteSeen d m.src m.type m.tag) Addr.FAB_DUP_CNT) := by
  have hseen : ((noteSeen d m.src m.type m.tag).pg.xfers.find? fun x => x.tag == m.tag) = none := hx
  refine congrArg serveHeld ((accept_ok id _ ha).trans ?_)
  simp only [hseen]

/-- A durable park is stamped in the ledger and done with. -/
theorem tierAckFor_park_durable (hk : x.kind = .park) (hres : bodyAt m 5 1 = 0) (hop : bodyAt m 4 1 = 0) :
    tierAckFor d p cycle m x = writeDone (stampAt (endXfer d x.tag) (portInput p) 0x08 0
      (match desc (endXfer d x.tag) x.addr with
        | some q => q.own
        | none => 0xFF) x.addr cycle) x := by
  simp [tierAckFor, hk, hres, hop] <;> rfl

/-- A thawed unit that opens is read. -/
theorem tierAckFor_thaw_opens {a b : Nat} {data : List Byte} (hk : x.kind = .thaw) (hres : bodyAt m 5 1 = 0)
    (hop : bodyAt m 4 1 = 1)
    (hopen : openUnit (endXfer d x.tag) x.addr (slice m.body 16 32) (slice m.body 48 65536) = some (a, b, data)) :
    tierAckFor d p cycle m x = readDone (endXfer d x.tag) x data := by
  simp [tierAckFor, hk, hres, hop, hopen]

/-- A thawed unit that does not open has failed its tag. -/
theorem tierAckFor_thaw_tagFailed (hk : x.kind = .thaw) (hres : bodyAt m 5 1 = 0) (hop : bodyAt m 4 1 = 1)
    (hopen : openUnit (endXfer d x.tag) x.addr (slice m.body 16 32) (slice m.body 48 65536) = none) :
    tierAckFor d p cycle m x = tagFailed (endXfer d x.tag) x := by
  simp [tierAckFor, hk, hres, hop, hopen]

/-- A thaw read arrives in its frame. -/
theorem readDone_thaw (data : List Byte) (hk : x.kind = .thaw) : readDone d x data = settleParks (arrive d x data) := by
  simp only [readDone, hk]

/-- R133: the first failure of a unit's tag is counted, and the unit is read once more. -/
theorem tagFailed_first (hfirst : x.retried = false) : tagFailed d x =
    issueRead (bump d Addr.TMC_TAG_FAIL_CNT) (match desc (bump d Addr.TMC_TAG_FAIL_CNT) x.addr with
      | some q => q.own
      | none => 0) { x with retried := true, sent := false } :=
  if_neg (Bool.eq_false_iff.1 hfirst)

end TierAck

/-! ## SLOT_LOST (R157) -/

/-- R157: the target's own report loses its slot. -/
theorem slotLost_reported (d : Dev) (n : Nat) (pathsDown : Bool) :
    slotLost d n true pathsDown = serveHeld (loseSlot d n) := by
  simp [slotLost]

/-- R157: a transfer sent and unanswered for TMC_TIER_TIMEOUT ticks loses its slot. -/
theorem slotLost_late {d : Dev} {n : Nat} {x : Xfer} (reported pathsDown : Bool) (hx : x ∈ d.pg.xfers)
    (hslot : slotOf x.addr = n) (hsent : x.sent = true)
    (htimeout : x.issued + lim d Addr.TMC_TIER_TIMEOUT ≤ d.tick) :
    slotLost d n reported pathsDown = serveHeld (loseSlot d n) := by
  have hlate : (d.pg.xfers.any fun x =>
      slotOf x.addr == n && x.sent && decide (x.issued + lim d Addr.TMC_TIER_TIMEOUT ≤ d.tick)) = true :=
    List.any_eq_true.2 ⟨x, hx, by simp [hslot, hsent, htimeout]⟩
  simp [slotLost, hlate]

/-! ## TIER_TARGET_CONFIG (R122, R161, R571) -/

section TargetConfig

variable {s : State} {h : CmdHdr} {sl addr cap : Nat} (mask : Nat)

/-- A slot number and an address in range pass the checks outside fumarole service. -/
theorem tierTargetChecks_pass {d : Dev} (hsl : sl < 16) (haddr : addr < 2 ^ 24) (hfum : d.pwr.fumarole = false) :
    firstFail [(decide (16 ≤ sl), stw stParam 6), (decide (2 ^ 24 ≤ addr), stw stParam 9),
      (d.pwr.fumarole, stw stRetry 0)] = none := by
  simp only [firstFail, decide_eq_false (Nat.not_le.2 hsl), decide_eq_false (Nat.not_le.2 haddr), hfum,
    Bool.false_eq_true, if_false]

/-- R122, R571: an ABSENT slot is bound with a capacity that the sum over the slots allows. -/
theorem tierTargetConfig_binds (hb : ByOperator s h) (hsl : sl < 16) (haddr : addr < 2 ^ 24)
    (hfum : s.dev.pwr.fumarole = false) (hst : (slot s.dev sl).st = 0) (hpos : 1 ≤ cap) (hcap : cap ≤ 2 ^ 30)
    (hsum : capSumOk s.dev sl cap = true) :
    tierTargetConfig s.dev h sl mask addr cap = bindSlot s.dev h sl mask addr cap := by
  refine (onChannel_operator hb 0x0704 true _).trans
    ((checked_ok h 0x0704 _ (tierTargetChecks_pass hsl haddr hfum)).trans ?_)
  simp only [hst]
  exact if_pos ⟨hpos, hcap, hsum⟩

/-- R571: an ONLINE slot given capacity 0 is unbound. -/
theorem tierTargetConfig_unbinds (hb : ByOperator s h) (hsl : sl < 16) (haddr : addr < 2 ^ 24)
    (hfum : s.dev.pwr.fumarole = false) (hst : (slot s.dev sl).st = 1) :
    tierTargetConfig s.dev h sl mask addr 0 = unbindSlot s.dev h sl := by
  refine (onChannel_operator hb 0x0704 true _).trans
    ((checked_ok h 0x0704 _ (tierTargetChecks_pass hsl haddr hfum)).trans ?_)
  simp only [hst, if_true]

/-- R161, R571: an ONLINE slot given another address and no less capacity is COPYING, and its first unit is read. -/
theorem tierTargetConfig_replaces (hb : ByOperator s h) (hsl : sl < 16) (haddr : addr < 2 ^ 24)
    (hfum : s.dev.pwr.fumarole = false) (hst : (slot s.dev sl).st = 1) (hcap : cap ≠ 0)
    (hmoved : addr ≠ (slot s.dev sl).addr) (hroom : (slot s.dev sl).cap ≤ cap) (hsum : capSumOk s.dev sl cap = true) :
    tierTargetConfig s.dev h sl mask addr cap = copyNext (setSlot s.dev sl { slot s.dev sl with
      st := 2, newAddr := addr, newPlane := mask, copied := [], cmd := some h }) sl := by
  have hfits : ¬(cap < (slot s.dev sl).cap ∨ ¬capSumOk s.dev sl cap = true) := by simp [hroom, hsum]
  refine (onChannel_operator hb 0x0704 true _).trans
    ((checked_ok h 0x0704 _ (tierTargetChecks_pass hsl haddr hfum)).trans ?_)
  simp only [hst, if_neg hcap, if_neg hmoved, if_neg hfits]

end TargetConfig

/-- Settles O31: each clause is what the row does where its checks pass, and what an answer does with its transfer. -/
theorem tierRowsComplete : Obligations.TierRowsComplete := by
  refine ⟨fun s hs => ⟨?matched, ?unmatched, ?reported, ?late, ?config⟩,
    fun d p cycle m x hres => ⟨?durable, ?opened, ?reread⟩⟩
  case matched =>
    intro p cycle m x ha hx
    exact serve_eq_did (f := fun d => tierAck d p cycle m) hs (tierAck_matched ha hx)
  case unmatched =>
    intro p cycle m ha hx
    exact serve_eq_did (f := fun d => tierAck d p cycle m) hs (tierAck_unmatched ha hx)
  case reported =>
    intro n pathsDown _
    exact serve_eq_did (f := fun d => slotLost d n true pathsDown) hs (slotLost_reported s.dev n pathsDown)
  case late =>
    intro n x reported pathsDown hx hslot hsent htimeout
    exact serve_eq_did (f := fun d => slotLost d n reported pathsDown) hs
      (slotLost_late reported pathsDown hx hslot hsent htimeout)
  case config =>
    intro h sl mask addr cap hb hsl haddr hfum
    have hrow : ∀ {d1 : Dev}, tierTargetConfig s.dev h sl mask addr cap = d1 →
        exec (.tierTargetConfig h sl mask addr cap) s = did s d1 :=
      serve_eq_did (f := fun d => tierTargetConfig d h sl mask addr cap) hs
    refine ⟨fun hst hpos hcap hsum => ?bind, fun hst hcap => ?unbind, fun hst hcap hmoved hroom hsum => ?replace⟩
    case bind => exact hrow (tierTargetConfig_binds mask hb hsl haddr hfum hst hpos hcap hsum)
    case unbind => subst hcap; exact hrow (tierTargetConfig_unbinds mask hb hsl haddr hfum hst)
    case replace => exact hrow (tierTargetConfig_replaces mask hb hsl haddr hfum hst hcap hmoved hroom hsum)
  case durable =>
    intro hk hop
    exact tierAckFor_park_durable hk hres hop
  case opened =>
    intro a b data hk hop hopen
    exact (tierAckFor_thaw_opens hk hres hop hopen).trans (readDone_thaw data hk)
  case reread =>
    intro hk hop hfirst hopen
    exact (tierAckFor_thaw_tagFailed hk hres hop hopen).trans (tagFailed_first hfirst)

end Sys2Proof.Machine
end

section
/-!
PROOFS. The Sinter codec family: its formats and layer maps, the build of books, the encoding of runs and the decoding of
recurrent state (R226, R227, R231 to R234, R238 to R241, R252).
-/

namespace Sys2Proof.Machine

/-! ## Formats and maps (R226, R227) -/

/-- A field with the values 1 to 15 passes the check of its range. -/
theorem nibble_passes {n : Nat} (h : 1 ≤ n ∧ n ≤ 15) : (n == 0 || decide (15 < n)) = false :=
  Bool.or_eq_false_iff.2 ⟨beq_false_of_ne (Nat.ne_of_gt h.1), decide_eq_false (Nat.not_lt.2 h.2)⟩

/-- A check that one kind of format has to meet passes where the formats of that kind meet it. -/
theorem ofKind_passes {kind k : Nat} {fails : Bool} (h : kind = k → fails = false) : (kind == k && fails) = false :=
  Bool.and_eq_false_imp.2 fun hk => h (eq_of_beq hk)

/-- A width of codes that the codec has passes. -/
theorem width_passes {w : Nat} (h : w ∈ [2, 4, 8, 16]) : (!([2, 4, 8, 16] : List Nat).contains w) = false := by
  rw [List.contains_iff_mem.2 h, Bool.not_true]

/-- R226: a format whose fields are in range, under a number that no layer map names, is set. -/
theorem sinterFormatSet_sets {s : State} {h : CmdHdr} {n : Nat} {fm : Fmt} (hb : ByOperator s h) (hn : 1 ≤ n ∧ n ≤ 15)
    (hkind : fm.kind ≤ 1) (hrun : fm.kind = 0 → 4 ≤ fm.run ∧ fm.run ≤ 8) (hdk : fm.kind = 0 → fm.dk ∈ [2, 4, 8, 16])
    (hdv : fm.dv ∈ [2, 4, 8, 16]) (href : fm.refMax ≤ 64) (hrec : fm.kind = 1 → fm.refMax = 0)
    (hrounds : 1 ≤ fm.rounds ∧ fm.rounds ≤ 15) (hfree : formatNamed s.dev n = false) :
    sinterFormatSet s.dev h n fm =
      reply { s.dev with snt.fmts := tset s.dev.snt.fmts n fm } h 0x020B stOk := by
  have hrun' : (fm.kind == 0 && !(decide (4 ≤ fm.run) && decide (fm.run ≤ 8))) = false :=
    ofKind_passes fun hk => by simpa using hrun hk
  have href' : (decide (64 < fm.refMax) || (fm.kind == 1 && fm.refMax != 0)) = false :=
    Bool.or_eq_false_iff.2 ⟨decide_eq_false (Nat.not_lt.2 href), ofKind_passes fun hk => by simpa using hrec hk⟩
  unfold sinterFormatSet
  refine (onChannel_operator hb 0x020B true _).trans (checked_ok h 0x020B _ ?_)
  simp only [firstFail, nibble_passes hn, decide_eq_false (Nat.not_lt.2 hkind), hrun',
    ofKind_passes fun hk => width_passes (hdk hk), width_passes hdv, href', nibble_passes hrounds, hfree,
    Bool.false_eq_true, if_false]

/-- The layer formats that a MAP field gives (R564). -/
def mapEntries (map : List Byte) : List Nat := (List.range 256).map (mapEntry map)

/-- R227, R564: a map whose entries fit the layers of the model's descriptor is set, one entry for each layer. -/
theorem sinterMapSet_sets {s : State} {h : CmdHdr} {m : Nat} {map : List Byte} {ds : Descr} (hb : ByOperator s h)
    (hm : m < 32) (hds : modelDesc s.dev m = some ds)
    (hfits : ((mapEntries map).zipIdx.any fun q => badEntry s.dev ds.layers[q.2]? q.1) = false) :
    sinterMapSet s.dev h m map = reply { s.dev with mdl.slots := tmod s.dev.mdl.slots m fun x =>
      { x with map := (mapEntries map).take ds.layers.length } } h 0x020C stOk := by
  have hpass : firstFail [(decide (32 ≤ m), stw stParam 6),
      ((mapEntries map).zipIdx.any fun q => badEntry s.dev ds.layers[q.2]? q.1, stw stParam 8)] = none := by
    simp only [firstFail, decide_eq_false (Nat.not_le.2 hm), hfits, Bool.false_eq_true, if_false]
  refine (onChannel_operator hb 0x020C true _).trans ?_
  simp only [hds]
  exact checked_ok h 0x020C _ hpass

/-! ## BOOK_BUILD (R231 to R234) -/

/-- R231 to R234: a build that is due, whose slot no coded page names and whose samples suffice and are in place,
fills its slot. -/
theorem bookBuild_fills {d : Dev} {dom m l target : Nat} {ld : LayerDesc} {fm : Fmt}
    (hld : (modelDesc d m).bind (·.layers[l]?) = some ld) (hfm : tget d.snt.fmts (mapFmt d m l) = some fm)
    (hconf : confidential d dom = false) (hfum : d.pwr.fumarole = false)
    (hdue : buildDue d dom m l ld (bookAt d (bookKey dom m l)) = true)
    (htarget : ((bookAt d (bookKey dom m l)).cur = none ∧ target = 0) ∨
      ((bookAt d (bookKey dom m l)).cur = some (1 - target) ∧ target ≤ 1))
    (huses : slotUses d (bookKey dom m l) target = 0) (hkind : ld.kind ≠ 2)
    (hcount : 256 ≤ ((samplePages d dom m l ld).map (·.n)).sum)
    (hwindow : ((samplePages d dom m l ld).any fun q => inWindow d q.frame) = false) :
    bookBuild d dom m l = finishBuild d fm ld dom m l target (samplePages d dom m l ld) := by
  unfold bookBuild
  simp only [hld, hfm, hconf, hfum, hdue, hwindow, if_neg hkind, decide_eq_false (Nat.not_lt.2 hcount), Bool.not_true,
    Bool.or_self, Bool.false_eq_true, if_false]
  rcases htarget with ⟨hcur, rfl⟩ | ⟨hcur, hle⟩
  · simp [hcur, huses]
  · simp [hcur, Nat.sub_sub_self hle, huses]

/-! ## RUN_ENCODE (R238 to R241) -/

/-- R238 to R241: a candidate run that no request and no put-off keeps, whose frame and SPN can be had, is encoded with
the current book and replaced by its coded page. -/
theorem runEncode_replaces {d d1 d2 : Dev} {i l k slot f spn dom : Nat} {ld : LayerDesc} {x : LayerSt} {fm : Fmt}
    {run : List PageEnt} {r : List Byte × F32} (hfum : d.pwr.fumarole = false)
    (hld : layerOf d (sess d i) l = some ld) (hx : (sess d i).layers[l]? = some x)
    (hfm : tget d.snt.fmts (mapFmt d (sess d i).model l) = some fm) (hst : (sess d i).st ≠ .free) (hkv : ld.kind ≠ 2)
    (hkind : fm.kind = 0) (hconf : confidential d (ownerOf d i) = false) (hshape : runShape d fm ld x k = true)
    (hretry : (d.snt.retry.any fun r => r.1 == i && r.2.1 == l) = false) (hfirst : earlierRun d i l k = false)
    (hdom : bookDomain d (ownerOf d i) = dom) (hrun : slice x.pages k fm.run = run)
    (hcur : (bookAt d (bookKey dom (sess d i).model l)).cur = some slot)
    (hreqs : (d.reqs.any fun r => r.entry == i && r.layer == l && r.phase != .waiting) = false)
    (hrow : (run.all fun q => row28 d q.spn) = true)
    (hgood : badAmong d (run.filterMap fun q => residentFrame d q.spn) = none)
    (hframe : allocFrame d (ownerOf d i) true (homeStack i l) = .ok (f, d1)) (hspn : allocSpn d1 i = .ok (spn, d2))
    (hr : encodeRun d2 (sess d i) l (mapFmt d (sess d i).model l) dom slot fm ld run = r) :
    runEncode d i l k =
      noteError (replaceRun d2 i l k (mapFmt d (sess d i).model l) dom slot spn f run r.1)
        (bookKey dom (sess d i).model l) r.2 := by
  subst hdom hrun hr
  unfold runEncode
  simp only [hfum, hld, hx, hfm, hst, hkv, hkind, hconf, hshape, hretry, hfirst, hcur, hreqs, hrow, hgood, hframe, hspn,
    ne_eq, not_true, Bool.not_true, Bool.false_eq_true, Bool.true_eq_false, or_self, if_false]

/-! ## STATE_DECODE (R252) -/

/-- R252: a coded layer all of whose pages are resident, sound and decoded gives way to new state pages, and the session
is active again where nothing else keeps it. -/
theorem stateDecode_restores {d d2 : Dev} {spn l : Nat} {q : Pte} {ld : LayerDesc} {x : LayerSt} {rows : List (List F32)}
    {bytes : List Byte} (hq : pte d spn = some q) (hcmp : q.cmp = true) (hl : layerWith (sess d q.owner) spn = some l)
    (hld : layerOf d (sess d q.owner) l = some ld) (hx : (sess d q.owner).layers[l]? = some x) (hkind : ld.kind = 2)
    (hslot : svcSlot d .codec (ownerOf d q.owner) = true)
    (hhere : (x.pages.all fun p => pageSt d p.spn == .hbm && isCoded d p.spn) = true)
    (hgood : badAmong d (x.pages.filterMap fun p => residentFrame d p.spn) = none)
    (hrows : decodeStatePages d (sess d q.owner) l ld x.pages = .ok rows)
    (hbytes : patBytes ld.elem (rows.flatten.map fun v => narrow (elemFmt ld.elem) v) = bytes)
    (hwrite : writeStatePages (modLayer d q.owner l fun x => { x with pages := [] }) q.owner (ownerOf d q.owner) l
      (chunks 65536 bytes.length bytes) = .ok d2) :
    stateDecode d spn = activate (dropPages d2 (x.pages.map (·.spn))) q.owner := by
  subst hbytes
  unfold stateDecode
  simp only [hq, hcmp, hl, hld, hx, hkind, hslot, hhere, hgood, hrows, hwrite, ne_eq, not_true, Bool.not_true,
    Bool.false_eq_true, Bool.true_eq_false, or_self, if_false]

/-- Settles O21: each clause is what the command, or the background row in a slot of its activity, does where its
conditions hold. -/
theorem sinterCommandsComplete : Obligations.SinterCommandsComplete := by
  refine ⟨fun s h hb => ⟨?format, ?map⟩, fun s i l hs hfum => ⟨?build, ?encode, ?retry, ?decode⟩⟩
  case format =>
    intro n kind run dk dv refMax keep rounds hn hn' hkind hrun hdk hdv href href' hrounds hrounds' hfree
    exact serve_eq_did (f := fun d => sinterFormatSet d h n ⟨kind, run, dk, dv, refMax, keep, rounds⟩) hb.1
      (sinterFormatSet_sets hb ⟨hn, hn'⟩ hkind hrun hdk hdv href href' ⟨hrounds, hrounds'⟩ hfree)
  case map =>
    intro m map ds hm hds hfits
    exact serve_eq_did (f := fun d => sinterMapSet d h m map) hb.1 (sinterMapSet_sets hb hm hds hfits)
  case build =>
    intro dom m target ld fm d b htarget hst hslot hld hfm hconf hdue huses hkind hcount hwindow
    refine serve_eq_did (f := background 6 1 true fun d => bookBuild { d with pwr.busySimmer := true } dom m l) hs ?_
    rw [background_ok 6 1 true _ hst hfum hslot]
    exact congrArg (noteBg 6) (bookBuild_fills (d := d) hld hfm hconf hfum hdue htarget huses hkind hcount hwindow)
  case encode =>
    intro k slot f spn ld x fm d1 d2 e p dom run hst hslot hld hx hfm hlive hkv hkind hconf hshape hretry hfirst hcur
      hreqs hrow hgood hframe hspn r
    refine serve_eq_did (f := background 6 2 true fun d => runEncode d i l k) hs ?_
    rw [background_ok 6 2 true _ hst hfum hslot]
    exact congrArg (noteBg 6) (runEncode_replaces hfum hld hx hfm hlive hkv hkind hconf hshape hretry hfirst rfl rfl hcur
      hreqs hrow hgood hframe hspn rfl)
  case retry => exact serve_serving (fun d => codedRunRetry d i l) hs
  case decode =>
    intro spn q ld x rows d2 e hq hcmp hl hld hx hkind hslot hhere hgood hrows bytes hwrite
    exact serve_eq_did (f := fun d => stateDecode d spn) hs
      (stateDecode_restores hq hcmp hl hld hx hkind hslot hhere hgood hrows rfl hwrite)

end Sys2Proof.Machine
end

section
/-!
PROOFS. The index of shared prefixes: the commands that begin an insert or an attach, the public domains, the end of an insert,
and the attach phase with and without a match (R257 to R259, R263, R267 to R279).
-/

namespace Sys2Proof.Machine

/-! ## The rows on a serving device -/

section Rows

variable {s : State} {t : Dev} (hs : Serving s)
include hs

theorem exec_prefixInsert {h : CmdHdr} {handle domain piflags first : Nat} {ids : List Nat}
    (ht : prefixInsert s.dev h handle domain piflags first ids = t) :
    exec (.prefixInsert h handle domain piflags first ids) s = did s t :=
  serve_eq_did (f := fun d => prefixInsert d h handle domain piflags first ids) hs ht

theorem exec_prefixAttach {h : CmdHdr} {handle first : Nat} {ids : List Nat}
    (ht : prefixAttach s.dev h handle first ids = t) : exec (.prefixAttach h handle first ids) s = did s t :=
  serve_eq_did (f := fun d => prefixAttach d h handle first ids) hs ht

theorem exec_prefixDomainConfig {h : CmdHdr} {domain opn buckets : Nat}
    (ht : prefixDomainConfig s.dev h domain opn buckets = t) :
    exec (.prefixDomainConfig h domain opn buckets) s = did s t :=
  serve_eq_did (f := fun d => prefixDomainConfig d h domain opn buckets) hs ht

theorem exec_prefixInsertDone {seq : Nat} (ht : prefixInsertDone s.dev seq = t) :
    exec (.prefixInsertDone seq) s = did s (serveHeld t) :=
  serve_eq_did (f := fun d => serveHeld (prefixInsertDone d seq)) hs (congrArg serveHeld ht)

theorem exec_prefixAttachPhase {seq : Nat} (ht : prefixAttachPhase s.dev seq = t) :
    exec (.prefixAttachPhase seq) s = did s (serveHeld t) :=
  serve_eq_did (f := fun d => serveHeld (prefixAttachPhase d seq)) hs (congrArg serveHeld ht)

end Rows

/-! ## Jobs (R278) -/

/-- The job that PREFIX_INSERT adds (R268). -/
def insertJob (h : CmdHdr) (handle domain piflags first : Nat) (ids : List Nat) : PfxJob :=
  { cmd := h, insert := true, handle := handle, domain := domain, firstBlock := first,
    lastBlock := first + (wholeBlocks ids).length, chains := [], hit := none, started := false,
    blocks := wholeBlocks ids, fork := piflags == 1 }

/-- The job that PREFIX_ATTACH adds (R272). -/
def attachJob (h : CmdHdr) (handle first : Nat) (ids : List Nat) : PfxJob :=
  { cmd := h, insert := false, handle := handle, domain := 255, firstBlock := first,
    lastBlock := first + (wholeBlocks ids).length, chains := [], hit := none, started := false,
    blocks := wholeBlocks ids, fork := false }

theorem jobOf_isSome_iff {d : Dev} {seq : Nat} {insert : Bool} :
    (jobOf d seq insert).isSome = true ↔ ∃ q ∈ d.pfx.jobs, q.cmd.seq = seq ∧ q.insert = insert := by
  simp [jobOf]

/-- A job whose ledger number no open job has joins the table. -/
theorem jobOf_addJob {d : Dev} {j : PfxJob} (hnew : (d.pfx.jobs.any fun q => q.cmd.seq == j.cmd.seq) = false) :
    (jobOf (addJob d j) j.cmd.seq j.insert).isSome = true := by
  have hcmd : (d.pfx.jobs.any fun q => q.cmd == j.cmd) = false := by
    rw [List.any_eq_false] at hnew ⊢
    exact fun q hq hsame => hnew q hq (by rw [eq_of_beq hsame, beq_self_eq_true])
  refine jobOf_isSome_iff.2 ⟨j, ?_, rfl, rfl⟩
  simp [addJob, hcmd]

/-- R257: hashing leaves the jobs their ledger numbers and commands. -/
theorem jobOf_hashJob {d : Dev} {j : PfxJob} (hs : List (Nat × List Byte))
    (hjob : (jobOf d j.cmd.seq j.insert).isSome = true) :
    (jobOf (hashJob d j hs) j.cmd.seq j.insert).isSome = true := by
  obtain ⟨q, hq, hseq, hins⟩ := jobOf_isSome_iff.1 hjob
  refine jobOf_isSome_iff.2 ⟨_, List.mem_map_of_mem hq, ?_⟩
  split
  · exact ⟨rfl, rfl⟩
  · exact ⟨hseq, hins⟩

/-! ## PREFIX_INSERT (R258, R267 to R271) -/

/-- R268, R269: an insert whose fields are in range and whose ids are token ids adds its job, and begins where the unit
is free for it. -/
theorem prefixInsert_adds {s : State} {h : CmdHdr} {handle domain piflags first i : Nat} {ids : List Nat}
    (ho : OnSession s h handle i) (hdom : domain = 255 ∨ (h.part = 0 ∧ domain ≤ 15)) (hflags : piflags ≤ 1)
    (hlen : ids.length ≤ 65536) (hfirst : first = 0 ∨ piflags = 0) (hids : badIds ids = false) :
    prefixInsert s.dev h handle domain piflags first ids =
      let j := insertJob h handle domain piflags first ids
      let d := addJob (touched s.dev i) j
      if mayRun d h then startInsert d j else d := by
  have hpriv : (domain != 255 && h.part != 0) = false := by rcases hdom with hdom | ⟨hpart, -⟩ <;> simp [*]
  have hrange : (domain != 255 && decide (15 < domain)) = false := by
    rcases hdom with hdom | ⟨-, hle⟩
    · simp [hdom]
    · simp [Nat.not_lt.2 hle]
  have hcont : (first != 0 && piflags == 1) = false := by rcases hfirst with hfirst | hfirst <;> simp [hfirst]
  unfold prefixInsert
  refine (onChannel_issued ho.1 0x0301 _).trans ?_
  refine (checked_ok h 0x0301 _ ?_).trans ((withSess_ok 0x0301 6 _ ho.2).trans (checked_ok h 0x0301 _ ?_))
  · simp only [firstFail, hpriv, hrange, hcont, decide_eq_false (Nat.not_lt.2 hflags), decide_eq_false (Nat.not_lt.2 hlen),
      Bool.false_eq_true, if_false]
  · simp only [firstFail, hids, Bool.false_eq_true, if_false]

/-- R268, R271: an insert whose source and chain state meet its conditions hashes its blocks; with FORK = 1 its fork is
made beside it. -/
theorem startInsert_begins {d d1 : Dev} {j : PfxJob} {i : Nat} {hs : List (Nat × List Byte)}
    (hlive : liveOn d j.cmd.part j.handle = some i) (hstep : stepInProgress d i = false)
    (hlen : 64 * j.lastBlock ≤ (sess d i).length)
    (htable : (tget d.pfx.tables (insertTable j.cmd.part j.domain)).isSome = true) (hctrl : CtrlReady d i)
    (hheads : chainHeads d i true [insertTable j.cmd.part j.domain] j.firstBlock = some hs)
    (hsole : j.fork = false → hashJob d j hs = d1)
    (hfork : j.fork = true → forkBars d j.cmd.part i = none ∧ forkStep (hashJob d j hs) j.cmd i 0 none = (d1, none)) :
    startInsert d j = d1 := by
  have htable' : (tget d.pfx.tables (insertTable j.cmd.part j.domain)).isNone = false := by
    rw [Option.isNone_eq_false_iff, htable]
  have hbars : (j.fork && (forkBars d j.cmd.part i).isSome) = false :=
    Bool.and_eq_false_imp.2 fun hf => by rw [(hfork hf).1, Option.isSome_none]
  unfold startInsert
  simp only [hlive, firstFail, hstep, decide_eq_false (Nat.not_lt.2 hlen), htable', hbars, Bool.false_eq_true, if_false]
  rw [ctrlThere_ready _ _ hctrl]
  cases hf : j.fork with
  | false => simp [hheads, hsole hf]
  | true => simp [hheads, (hfork hf).2]

/-- R270: an insert without a fork ends on its source. -/
theorem prefixInsertDone_finishes {d d1 : Dev} {seq i : Nat} {j : PfxJob} (hjob : jobOf d seq true = some j)
    (hstarted : j.started = true) (hrun : mayRun d j.cmd = true) (hsole : j.fork = false)
    (hlive : liveOn d j.cmd.part j.handle = some i) (hctrl : CtrlWritable d i d1) :
    prefixInsertDone d seq = finishInsert d1 j i := by
  simp [prefixInsertDone, settleInsert, hjob, hstarted, hrun, hsole, hlive, ctrlWritten_ok _ _ hctrl]

/-- R268: an insert with a fork ends on the child once it stands. -/
theorem prefixInsertDone_finishes_child {d : Dev} {seq k : Nat} {j : PfxJob} {f : ForkJob}
    (hjob : jobOf d seq true = some j) (hstarted : j.started = true) (hrun : mayRun d j.cmd = true)
    (hforks : j.fork = true) (hfork : forkOf d j.cmd.seq = some f) (hread : f.reading = false)
    (hchild : f.child = some k) :
    prefixInsertDone d seq = finishInsert (endFork d j.cmd f.parent) j k := by
  simp [prefixInsertDone, settleInsert, hjob, hstarted, hrun, hforks, hfork, hread, hchild]

/-! ## PREFIX_ATTACH (R258, R271 to R279) -/

/-- R272: a target between its steps whose LENGTH is where the attach begins passes. -/
theorem targetChecks_pass {d : Dev} {i first : Nat} (hstep : stepInProgress d i = false)
    (hlen : (sess d i).length = 64 * first) : firstFail (targetChecks d i first) = none := by
  simp [targetChecks, firstFail, hstep, hlen]

/-- R258, R279: an attach whose ids are token ids adds its job, and begins where the unit is free for it. What its
destroyed holders keep for it stays while the job is open. -/
theorem prefixAttach_adds {s : State} {h : CmdHdr} {handle first i : Nat} {ids : List Nat} (ho : OnSession s h handle i)
    (hlen : ids.length ≤ 65536) (hids : badIds ids = false) {t : Dev}
    (ht : (let j := attachJob h handle first ids
      let d := addJob (touched s.dev i) j
      if mayRun d h then startAttach d j else d) = t) (hopen : (jobOf t h.seq false).isSome = true) :
    prefixAttach s.dev h handle first ids = t := by
  have hcount : firstFail [(decide (65536 < ids.length), stw stParam 8)] = none := by
    simp only [firstFail, decide_eq_false (Nat.not_lt.2 hlen), Bool.false_eq_true, if_false]
  have hvalid : firstFail [(badIds ids, stw stTokenInvalid 9)] = none := by
    simp only [firstFail, hids, Bool.false_eq_true, if_false]
  subst ht
  unfold prefixAttach
  simp only [onChannel_issued ho.1, checked_ok h 0x0302 _ hcount, withSess_ok 0x0302 6 _ ho.2, checked_ok h 0x0302 _ hvalid]
  exact if_pos hopen

/-- R271 to R273: an attach whose target and chain state meet its conditions hashes its blocks. -/
theorem startAttach_begins {d : Dev} {j : PfxJob} {i : Nat} {hs : List (Nat × List Byte)}
    (hlive : liveOn d j.cmd.part j.handle = some i) (hstep : stepInProgress d i = false)
    (hlen : (sess d i).length = 64 * j.firstBlock) (hctrl : CtrlReady d i)
    (hheads : chainHeads d i false (pfxTables d j.cmd.part) j.firstBlock = some hs) :
    startAttach d j = hashJob d j hs := by
  unfold startAttach
  simp only [hlive, targetChecks_pass hstep hlen]
  rw [ctrlThere_ready _ _ hctrl, hheads]

/-- R273 to R275: a lookup that ends without a match, on a target that still meets R272, sets the chain state alone. -/
theorem prefixAttachPhase_unmatched {d d1 : Dev} {seq i : Nat} {j : PfxJob} (hjob : jobOf d seq false = some j)
    (hlive : liveOn d j.cmd.part j.handle = some i) (hhit : j.hit = none) (hstarted : j.started = true)
    (hrun : mayRun d j.cmd = true) (htarget : firstFail (targetChecks (lookupAll d j).1 i j.firstBlock) = none)
    (hmiss : (lookupAll d j).2 = none) (hctrl : CtrlWritable (lookupAll d j).1 i d1) :
    prefixAttachPhase d seq = finishAttach d1 j i j.firstBlock 255 (j.chains.map fun c => (c.1, c.2.headD [])) := by
  have hlookup : endLookup d j i =
      finishAttach d1 j i j.firstBlock 255 (j.chains.map fun c => (c.1, c.2.headD [])) := by
    unfold endLookup
    simp only [htarget, hmiss]
    exact ctrlWritten_ok _ _ hctrl
  simpa [prefixAttachPhase, hjob, hhit, hlive, hrun, hstarted] using hlookup

/-- R264, R274: the attach with a match at block k of table t, once the pages of its holder can be shared. -/
theorem attachNow_shares {d d1 d2 : Dev} {j : PfxJob} {i k t hold : Nat} (hctrl : CtrlWritable d i d1)
    (hlayers : attachLayers i j.cmd.part hold j.firstBlock k d1 (sess d1 hold).layers.zipIdx = .ok d2)
    {cs : List (Nat × List Byte)} {d3 : Dev}
    (hcs : ((j.chains.filter fun c => c.1 == t).map fun c => (c.1, (nth c.2 (k - j.firstBlock)).getD [])) = cs)
    (h3 : bumpBy (bump d2 Addr.PFX_HIT_CNT) Addr.PFX_ATTACH_PAGE_CNT (attachCount d1 hold j.firstBlock k) = d3) :
    attachNow d j i k t hold =
      finishAttach (thawTails (cs.foldl (fun d c => useEntry d c.1 k c.2) d3) i) j i k (if t < 256 then 0 else 1) cs := by
  subst hcs h3
  refine (ctrlWritten_ok _ _ hctrl).trans ?_
  simp only [hlayers]

/-- R275: the attach phase of a job with a match runs once nothing of its holder is in flight, in a slot of the session
and page manager. -/
theorem prefixAttachPhase_matched {d : Dev} {seq i k t hold : Nat} {j : PfxJob} (hjob : jobOf d seq false = some j)
    (hlive : liveOn d j.cmd.part j.handle = some i) (hhit : j.hit = some (k, t, hold))
    (hflight : inFlight d (sess d hold) = false) (hslot : svcSlot d .spmPort j.cmd.part = true) :
    prefixAttachPhase d seq = attachNow d j i k t hold := by
  simp [prefixAttachPhase, attachPhase, hjob, hhit, hlive, hflight, hslot]

/-! ## PREFIX_DOMAIN_CONFIG (R259, R260, R263) -/

/-- R259, R260, R263: a closed domain opens with an empty table of its own frames and a new salt. -/
theorem prefixDomainConfig_opens {s : State} {h : CmdHdr} {domain buckets : Nat} {fs : List Nat} {d1 : Dev}
    (hb : ByOperator s h) (hdom : domain ≤ 15) (hclosed : tget s.dev.pfx.tables (256 + domain) = none)
    (hcount : bucketCountOk buckets = true) (hsum : bucketsUsed s.dev + buckets ≤ 2 ^ 21)
    (halloc : allocOwnMany s.dev false 0 (tableFrames buckets) = .ok (fs, d1)) :
    prefixDomainConfig s.dev h domain 1 buckets = reply { (drawSalt d1).2 with
      pfx.tables := tset (drawSalt d1).2.pfx.tables (256 + domain) ⟨(drawSalt d1).1, buckets, fs, []⟩ } h 0x0303 stOk := by
  unfold prefixDomainConfig
  refine (onChannel_operator hb 0x0303 true _).trans ?_
  refine (checked_ok h 0x0303 _ ?_).trans ?_
  · simp only [firstFail, decide_eq_false (Nat.not_lt.2 hdom), hclosed, hcount, decide_eq_false (Nat.not_lt.2 hsum),
      Nat.lt_irrefl, Option.isSome_none, decide_false, Bool.not_true, Bool.and_false, Bool.false_eq_true, if_false]
  · simp only [halloc]

/-- R263: an open domain closes. -/
theorem prefixDomainConfig_closes {s : State} {h : CmdHdr} {domain : Nat} (buckets : Nat) {x : PfxTable}
    (hb : ByOperator s h) (hdom : domain ≤ 15) (hopen : tget s.dev.pfx.tables (256 + domain) = some x) :
    prefixDomainConfig s.dev h domain 0 buckets = reply (closeDomain s.dev (256 + domain) x) h 0x0303 stOk := by
  unfold prefixDomainConfig
  refine (onChannel_operator hb 0x0303 true _).trans ?_
  refine (checked_ok h 0x0303 _ ?_).trans ?_
  · simp [firstFail, Nat.not_lt.2 hdom]
  · simp only [hopen]

/-- Settles O24: each clause is what the command, or the row that ends its job, does where its conditions hold. -/
theorem prefixRowsComplete : Obligations.PrefixRowsComplete := by
  refine ⟨fun s h handle first i ids => ⟨?insert, ?attach, ?opens, ?closes⟩, fun s seq i j d1 hs => ⟨?done, ?phase⟩⟩
  case insert =>
    intro domain piflags ho hdom hflags hlen hfirst hids j d t
    have hadds : prefixInsert s.dev h handle domain piflags first ids = if mayRun d h then startInsert d j else d :=
      prefixInsert_adds ho hdom hflags hlen hfirst hids
    refine ⟨fun hbusy => exec_prefixInsert ho.1.1 (hadds.trans (if_neg (ne_true_of_eq_false hbusy))),
      fun hs hrun hlive hstep hlong htable hctrl hheads => ⟨fun hflag => ?sole, fun d1 hflag hbars hmade => ?forks⟩⟩
    case sole =>
      refine exec_prefixInsert ho.1.1 ((hadds.trans (if_pos hrun)).trans
        (startInsert_begins hlive hstep hlong htable hctrl hheads (fun _ => rfl) fun hfork => ?_))
      simp [j, hflag] at hfork
    case forks =>
      refine exec_prefixInsert ho.1.1 ((hadds.trans (if_pos hrun)).trans
        (startInsert_begins hlive hstep hlong htable hctrl hheads (fun hsole => ?_) fun _ => ⟨hbars, hmade⟩))
      simp [j, hflag] at hsole
  case attach =>
    intro ho hlen hids hnew j d
    have hopen : (jobOf d h.seq false).isSome = true :=
      jobOf_addJob (j := j) (by rw [touched_pfx]; exact hnew)
    refine ⟨fun hbusy => exec_prefixAttach ho.1.1 ?waits,
      fun hs hrun hlive hstep hlong hctrl hheads => exec_prefixAttach ho.1.1 ?hashes⟩
    case waits => exact prefixAttach_adds ho hlen hids (if_neg (ne_true_of_eq_false hbusy)) hopen
    case hashes =>
      exact prefixAttach_adds ho hlen hids
        ((if_pos hrun).trans (startAttach_begins hlive hstep hlong hctrl hheads)) (jobOf_hashJob (j := j) hs hopen)
  case opens =>
    intro domain buckets fs d1 hb hdom hclosed hcount hsum halloc
    exact exec_prefixDomainConfig hb.1 (prefixDomainConfig_opens hb hdom hclosed hcount hsum halloc)
  case closes =>
    intro domain buckets x hb hdom hopen
    exact exec_prefixDomainConfig hb.1 (prefixDomainConfig_closes buckets hb hdom hopen)
  case done =>
    intro hjob hstarted hrun
    refine ⟨fun hsole hlive hctrl => exec_prefixInsertDone hs ?sole,
      fun f k hforks hfork hread hchild => exec_prefixInsertDone hs ?child⟩
    case sole => exact prefixInsertDone_finishes hjob hstarted hrun hsole hlive hctrl
    case child => exact prefixInsertDone_finishes_child hjob hstarted hrun hforks hfork hread hchild
  case phase =>
    intro hjob hlive
    refine ⟨fun hhit hstarted hrun htarget hmiss hctrl => exec_prefixAttachPhase hs ?unmatched,
      fun k t hold d2 hhit hflight hslot hctrl hlayers => exec_prefixAttachPhase hs ?matched⟩
    case unmatched => exact prefixAttachPhase_unmatched hjob hlive hhit hstarted hrun htarget hmiss hctrl
    case matched =>
      exact (prefixAttachPhase_matched hjob hlive hhit hflight hslot).trans (attachNow_shares hctrl hlayers rfl rfl)

end Sys2Proof.Machine
end

section
/-!
PROOFS. The delivery of image objects: the DATA form, the COMMIT form up to its own checks, and what a DATA command leaves of
HBM outside the frames of its object (R284, R285, R391, R560, R561).
-/

namespace Sys2Proof.Machine

/-! ## The DATA form and the COMMIT form (R284, R285, R560, R561) -/

/-- R560: the DATA form answers a failing check and nothing else, or writes its bytes into the image. -/
theorem serveData_cases (d : Dev) (h : CmdHdr) (op : Nat) (img : Image) (offset : Nat) (data : List Byte) :
    (∃ c, serveData d h op img offset data = reply d h op c) ∨
    serveData d h op img offset data = reply (imageWrite d img 3 offset data) h op stOk := by
  cases hc : firstFail (dataChecks img offset data) with
  | none => exact .inr (checked_ok h op _ hc)
  | some c => exact .inl ⟨c, by simp only [serveData, checked, hc]⟩

/-- R560: bytes at a multiple of 16 that lie in a LOADING image are written into it. -/
theorem serveData_writes {img : Image} {offset : Nat} {data : List Byte} (d : Dev) (h : CmdHdr) (op : Nat)
    (hst : img.st = 1) (hoff : offset % 16 = 0) (hne : data ≠ []) (hlen : data.length ≤ 65536)
    (hroom : offset + data.length ≤ img.length) :
    serveData d h op img offset data = reply (imageWrite d img 3 offset data) h op stOk :=
  checked_ok h op _ (by simp [dataChecks, firstFail, hst, hoff, hne, Nat.not_lt.2 hlen, Nat.not_lt.2 hroom])

/-- R285, R561: a LOADING image that can be read and has the digest expected goes on to the checks of its own kind. -/
theorem commitChecks_pass {d : Dev} {img : Image} {digest : List Byte} (h : CmdHdr) (op : Nat)
    (k : Dev → List Byte → Dev) (hst : img.st = 1) (hgood : badAmong d img.frames = none)
    (hdigest : sha256 (imageAll d img) = digest) : commitChecks d h op img digest k = k d (imageAll d img) := by
  unfold commitChecks
  simp only [hst, hgood, hdigest, ne_eq, not_true, if_false, bne_self_eq_false, Bool.false_eq_true]

/-! ## What a write into an image leaves -/

@[simp] theorem writeFrame_sess (d : Dev) (f o : Nat) (l : List Byte) : (writeFrame d f o l).sess = d.sess := rfl
@[simp] theorem writeFrame_vnt (d : Dev) (f o : Nat) (l : List Byte) : (writeFrame d f o l).vnt = d.vnt := rfl
@[simp] theorem writeFrame_memory (d : Dev) (f o : Nat) (l : List Byte) :
    (writeFrame d f o l).pg.hbm = Memory.writeBytes d.pg.hbm (frameBase f + o) l := rfl

/-- What every write into a frame of the image keeps, a write into the image keeps. -/
theorem imageWrite_keeps {P : Dev → Prop} {img : Image}
    (hstep : ∀ d f o l, P d → f ∈ img.frames → o + l.length ≤ 65536 → P (writeFrame d f o l)) :
    ∀ (n o : Nat) (l : List Byte) (d : Dev), P d → P (imageWrite d img n o l) := by
  intro n
  induction n with
  | zero => exact fun _ _ _ hd => hd
  | succ n ih =>
    intro o l d hd
    unfold imageWrite
    split
    · exact hd
    · dsimp only
      split
      next f hf =>
        refine ih _ _ _ (hstep _ _ _ _ hd (List.mem_of_getElem? hf) ?_)
        have hlen := List.length_take_le (65536 - o % 65536) l
        have hin := Nat.mod_lt o (show 0 < 65536 by decide)
        omega
      next => exact hd

@[simp] theorem imageWrite_sess (d : Dev) (img : Image) (n o : Nat) (l : List Byte) :
    (imageWrite d img n o l).sess = d.sess :=
  imageWrite_keeps (P := fun d' => d'.sess = d.sess) (fun _ _ _ _ hd _ _ => hd) n o l d rfl

@[simp] theorem imageWrite_vnt (d : Dev) (img : Image) (n o : Nat) (l : List Byte) :
    (imageWrite d img n o l).vnt = d.vnt :=
  imageWrite_keeps (P := fun d' => d'.vnt = d.vnt) (fun _ _ _ _ hd _ _ => hd) n o l d rfl

/-- Memory `m'` is canonical and reads as `m` outside the frames `fs`. -/
def ChangedWithin (fs : List Nat) (m m' : List Host.Cell) : Prop :=
  Memory.wf m' = true ∧
  ∀ k, (∀ f ∈ fs, ¬ (frameBase f ≤ k ∧ k < frameBase f + 65536)) → Memory.read m' k = Memory.read m k

theorem changedWithin_refl {m : List Host.Cell} (fs : List Nat) (h : Memory.wf m = true) : ChangedWithin fs m m :=
  ⟨h, fun _ _ => rfl⟩

/-- A write that ends in its frame changes nothing outside the frames among which that one is. -/
theorem ChangedWithin.writeBytes {fs : List Nat} {m m' : List Host.Cell} {f o : Nat} {l : List Byte}
    (h : ChangedWithin fs m m') (hf : f ∈ fs) (hin : o + l.length ≤ 65536) :
    ChangedWithin fs m (Memory.writeBytes m' (frameBase f + o) l) := by
  obtain ⟨hwf, hread⟩ := h
  refine ⟨Memory.wf_writeBytes l _ hwf, fun k hk => ?_⟩
  have hout : ¬ (frameBase f + o ≤ k ∧ k < frameBase f + o + l.length) := fun hlies => hk f hf (by omega)
  rw [Memory.read_writeBytes l _ k hwf, if_neg hout, hread k hk]

/-- R284, R560: a write into an image changes HBM in the image's frames alone. -/
theorem imageWrite_changedWithin {d : Dev} (img : Image) (n o : Nat) (l : List Byte) (h : Memory.wf d.pg.hbm = true) :
    ChangedWithin img.frames d.pg.hbm (imageWrite d img n o l).pg.hbm :=
  imageWrite_keeps (P := fun d' => ChangedWithin img.frames d.pg.hbm d'.pg.hbm)
    (fun _ _ _ _ hd hf hin => hd.writeBytes hf hin) n o l d (changedWithin_refl _ h)

/-- Settles O59: the DATA form answers without a change of memory, or writes into the image of the package. -/
theorem dataCommandsWriteTheirFrames : Obligations.DataCommandsWriteTheirFrames := by
  intro s t h o off data hb hwf hexec
  have ht : did s (serveData s.dev h 0x0804 (pkg s.dev o).img off data) = .next t :=
    (serve_eq_did (f := serveKernelData h o off data) hb.1 (onChannel_operator hb 0x0804 true _)).symm.trans hexec
  cases ht
  rcases serveData_cases s.dev h 0x0804 (pkg s.dev o).img off data with ⟨c, hfails⟩ | hwrites
  · simp [hfails, hwf]
  · obtain ⟨hwf', hread⟩ := imageWrite_changedWithin (pkg s.dev o).img 3 off data hwf
    simp only [hwrites, reply_pg, reply_sess, reply_vnt, imageWrite_sess, imageWrite_vnt, true_and]
    exact ⟨hwf', hread⟩

end Sys2Proof.Machine
end

section
/-!
PROOFS. The models: the delivery of a descriptor, its grant and its unload (R283 to R287, R560, R561), the start of a switch
and its phases (R290 to R294).
-/

namespace Sys2Proof.Machine

/-! ## Delivery (R283 to R285, R560, R561) -/

section Commands

variable {s : State} {h : CmdHdr} {m : Nat}

/-- R283, R560: an EMPTY slot whose frames can be had is LOADING. -/
theorem modelLoad_loads {length : Nat} {fs : List Nat} {d1 : Dev} (hb : ByOperator s h) (hm : m ≤ 31)
    (hunit : length % 64 = 0) (hlow : 128 ≤ length) (hhigh : length ≤ 0xFFFFFFC0) (hst : (model s.dev m).img.st = 0)
    (hframes : allocOwnMany s.dev false 0 (ceilDiv length 65536) = .ok (fs, d1)) :
    modelLoad s.dev h m length = reply (setModel d1 m
      { Model.empty with img := { st := 1, length := length, frames := fs, digest := [] } }) h 0x0201 stOk := by
  refine (onChannel_operator hb 0x0201 true _).trans ((checked_ok h 0x0201 _ ?checks).trans ?_)
  case checks => simp [firstFail, Nat.not_lt.2 hm, hunit, Nat.not_lt.2 hlow, Nat.not_lt.2 hhigh, hst]
  simp only [hframes]

/-- R285, R561: an image that can be read and has the digest goes on to the checks of its fields. -/
theorem modelCommit_checks {digest : List Byte} (hb : ByOperator s h) (hst : (model s.dev m).img.st = 1)
    (hgood : badAmong s.dev (model s.dev m).img.frames = none)
    (hdigest : sha256 (imageAll s.dev (model s.dev m).img) = digest) :
    modelCommit s.dev h m digest = match descrFault (imageAll s.dev (model s.dev m).img) with
      | some o => commitFail s.dev h 0x0203 (stw stParam 0) o
      | none => reply (setModel s.dev m { model s.dev m with
          img := { (model s.dev m).img with st := 2, digest := digest },
          desc := some (descrFrom (imageAll s.dev (model s.dev m).img)), mask := 1,
          map := (descrFrom (imageAll s.dev (model s.dev m).img)).layers.map fun _ => 0 }) h 0x0203 stOk :=
  (onChannel_operator hb 0x0203 true _).trans (commitChecks_pass h 0x0203 _ hst hgood hdigest)

/-! ## Unload and grant (R286, R287) -/

/-- R286: the number of a model slot passes. -/
theorem modelNumber_passes (hm : m ≤ 31) : firstFail [(decide (31 < m), stw stParam 6)] = none := by
  simp [firstFail, Nat.not_lt.2 hm]

/-- R287: an EMPTY slot has nothing to unload. -/
theorem modelUnload_empty (hb : ByOperator s h) (hm : m ≤ 31) (hst : (model s.dev m).img.st = 0) :
    modelUnload s.dev h m = reply s.dev h 0x0204 stOk :=
  (onChannel_operator hb 0x0204 true _).trans
    ((checked_ok h 0x0204 _ (modelNumber_passes hm)).trans (if_pos hst))

/-- R287: a model that no session, pipeline or switch names leaves with its frames, its books and its adapters. -/
theorem modelUnload_unloads {d1 : Dev} (hb : ByOperator s h) (hm : m ≤ 31) (hst : (model s.dev m).img.st ≠ 0)
    (hfree : (model s.dev m).img.st = 2 → modelNamed s.dev m = false ∧
      (s.dev.mdl.pipes.any fun p => p.2.bound == some m) = false ∧
      (s.dev.mdl.switches.any fun w => w.model == m) = false)
    (h1 : dropAdapters (dropBooks (freeFrames s.dev (model s.dev m).img.frames) m) m = d1) :
    modelUnload s.dev h m = reply { d1 with mdl.slots := tdel d1.mdl.slots m } h 0x0204 stOk := by
  subst h1
  have hidle : ((model s.dev m).img.st = 2 && (modelNamed s.dev m ||
      (s.dev.mdl.pipes.any fun p => p.2.bound == some m) || s.dev.mdl.switches.any fun w => w.model == m)) = false := by
    refine Bool.and_eq_false_imp.2 fun h2 => ?_
    obtain ⟨hnamed, hbound, hswitch⟩ := hfree (of_decide_eq_true h2)
    rw [hnamed, hbound, hswitch]
    rfl
  refine (onChannel_operator hb 0x0204 true _).trans ((checked_ok h 0x0204 _ (modelNumber_passes hm)).trans ?_)
  rw [if_neg hst, hidle]
  rfl

/-- R286: a mask that leaves no session's partition without the model is granted, the operator's bit set. -/
theorem modelGrant_grants {mask : BitVec 256} (hb : ByOperator s h) (hm : m ≤ 31) (hst : (model s.dev m).img.st = 2)
    (hused : (s.dev.sess.any fun q => q.2.st != .free && q.2.model == m &&
      !(mask ||| 1).getLsbD (ownerOf s.dev q.1)) = false) :
    modelGrant s.dev h m mask = reply (setModel s.dev m { model s.dev m with mask := mask ||| 1 }) h 0x0205 stOk := by
  refine (onChannel_operator hb 0x0205 true _).trans (checked_ok h 0x0205 _ ?_)
  simp only [firstFail, hused, hst, decide_eq_false (Nat.not_lt.2 hm), bne_self_eq_false, Bool.or_self,
    Bool.false_eq_true, if_false]

/-! ## The start of a switch (R291) -/

/-- R291: a bind whose checks pass and whose core and buffers fit the window begins its switch. -/
theorem modelBind_begins {first size : Nat} {w : Switch} {d1 : Dev} (hb : ByOperator s h)
    (hpass : firstFail (bindChecks s.dev first size m) = none)
    (hw : { cmd := h, first := first, size := size, model := m, phase := 0, start := h.tick,
            phaseTick := s.dev.tick } = w)
    (h1 : { s.dev with mdl.switches := s.dev.mdl.switches ++ [w], pwr.busySimmer := true } = d1)
    (hfits : m = 0xFF ∨ windowUsed d1 ≤ windowSize d1) : modelBind s.dev h first size m = d1 := by
  subst hw h1
  refine (onChannel_operator hb 0x0206 true _).trans ((checked_ok h 0x0206 _ hpass).trans (if_neg ?_))
  rintro ⟨hmodel, hover⟩
  exact hfits.elim hmodel (Nat.not_le.2 hover)

end Commands

/-! ## The phases of a switch (R292 to R294) -/

section Phases

variable {d d1 : Dev} {first : Nat} {w : Switch} (failed : Option Nat)
  (hw : (d.mdl.switches.find? fun w => w.first == first) = some w) (h1 : { d with pwr.busySimmer := true } = d1)
include hw h1

/-- R292: the drain of a group that takes no model ends the switch. -/
theorem switchPhaseEnd_unbinds (hphase : w.phase = 0) (hdrained : groupBusy d1 w = false) (hlater : w.start < d.tick)
    (hnone : w.model = 0xFF) : switchPhaseEnd d first failed = endSwitch d1 w none stOk := by
  subst h1
  unfold switchPhaseEnd
  simp only [hw, hphase, hdrained, hnone, Bool.false_or, decide_eq_true_eq, if_neg (Nat.not_le.2 hlater), if_true]

/-- R292: after the drain the core is read, unless it is in the window already. -/
theorem switchPhaseEnd_drained (hphase : w.phase = 0) (hdrained : groupBusy d1 w = false) (hlater : w.start < d.tick)
    (hmodel : w.model ≠ 0xFF) : switchPhaseEnd d first failed =
      setSwitch d1 { w with phase := if coreThere d1 w then 2 else 1, phaseTick := d.tick } := by
  subst h1
  unfold switchPhaseEnd
  simp only [hw, hphase, hdrained, Bool.false_or, decide_eq_true_eq, if_neg (Nat.not_le.2 hlater), if_neg hmodel]

/-- R292: the core has been read, a granule in a tick. -/
theorem switchPhaseEnd_coreRead (hphase : w.phase = 1) (hdone : w.phaseTick + coreGranules d w.model ≤ d.tick) :
    switchPhaseEnd d first failed = setSwitch d1 { w with phase := 2, phaseTick := d.tick } := by
  subst h1
  unfold switchPhaseEnd
  simp only [hw, hphase]
  exact if_pos (decide_eq_true hdone)

/-- R292: the pipelines have loaded their constants, six ticks each. -/
theorem switchPhaseEnd_configured (hphase : w.phase = 2) (hdone : w.phaseTick + 6 * w.size ≤ d.tick) :
    switchPhaseEnd d first failed = setSwitch d1 { w with phase := 3, phaseTick := d.tick } := by
  subst h1
  unfold switchPhaseEnd
  simp only [hw, hphase]
  exact if_pos (decide_eq_true hdone)

/-- R292: the array check has passed, and the group is bound. -/
theorem switchPhaseEnd_binds (hphase : w.phase = 3) (hdone : w.phaseTick + 46 ≤ d.tick) :
    switchPhaseEnd d first none = bump (endSwitch d1 w (some w.model) stOk) Addr.ADP_SWITCH_CNT := by
  subst h1
  unfold switchPhaseEnd
  simp only [hw, hphase]
  exact if_pos (decide_eq_true hdone)

/-- R293: a pipeline that fails the array check enters TEST, and the group is left unbound. -/
theorem switchPhaseEnd_fails {k : Nat} (hphase : w.phase = 3) (hdone : w.phaseTick + 46 ≤ d.tick) (hk : k < w.size) :
    switchPhaseEnd d first (some k) =
      endSwitch (setPipe d1 (w.first + k) { pipe d1 (w.first + k) with st := 3 }) w none (stw stInternal k) := by
  subst h1
  unfold switchPhaseEnd
  simp only [hw, hphase]
  exact (if_pos (decide_eq_true hdone)).trans (if_neg (Nat.not_le.2 hk))

end Phases

/-- Settles O20: each clause is what the command, or the end of a phase, does where its conditions hold. -/
theorem modelCommandsComplete : Obligations.ModelCommandsComplete := by
  refine ⟨fun s h m hb => ⟨?load, ?data, ?commit, ?unload, ?empty, ?grant⟩, fun s h first size m => ⟨?bind, ?phases⟩⟩
  case load =>
    intro length fs d1 hm hunit hlow hhigh hst hframes
    exact serve_eq_did (f := fun d => modelLoad d h m length) hb.1
      (modelLoad_loads hb hm hunit hlow hhigh hst hframes)
  case data =>
    intro offset data hst hoff hne hlen hroom
    refine serve_eq_did (f := fun d => onChannel d h 0x0202 true fun d =>
      serveData d h 0x0202 (model d m).img offset data) hb.1 ?_
    exact (onChannel_operator hb 0x0202 true _).trans (serveData_writes s.dev h 0x0202 hst hoff hne hlen hroom)
  case commit =>
    intro digest hst hgood hdigest
    have hchecks := modelCommit_checks hb hst hgood hdigest
    refine ⟨fun hpass => ?_, fun o hfault => ?_⟩
    · rw [hpass] at hchecks
      exact serve_eq_did (f := fun d => modelCommit d h m digest) hb.1 hchecks
    · rw [hfault] at hchecks
      exact serve_eq_did (f := fun d => modelCommit d h m digest) hb.1 hchecks
  case unload =>
    intro hm hst hfree d1
    exact serve_eq_did (f := fun d => modelUnload d h m) hb.1 (modelUnload_unloads hb hm hst hfree rfl)
  case empty =>
    intro hm hst
    exact serve_eq_did (f := fun d => modelUnload d h m) hb.1 (modelUnload_empty hb hm hst)
  case grant =>
    intro mask hm hst hused
    exact ⟨serve_eq_did (f := fun d => modelGrant d h m mask) hb.1 (modelGrant_grants hb hm hst hused), by simp⟩
  case bind =>
    intro hb hpass w d1 hfits
    exact serve_eq_did (f := fun d => modelBind d h first size m) hb.1 (modelBind_begins hb hpass rfl rfl hfits)
  case phases =>
    intro w failed hs hw d1
    have row {t : Dev} (failed : Option Nat) (ht : switchPhaseEnd s.dev first failed = t) :
        exec (.switchPhaseEnd first failed) s = did s t :=
      serve_eq_did (f := fun d => switchPhaseEnd d first failed) hs ht
    exact ⟨fun hphase hdrained hlater hnone =>
        row _ (switchPhaseEnd_unbinds failed hw rfl hphase hdrained hlater hnone),
      fun hphase hdrained hlater hmodel => row _ (switchPhaseEnd_drained failed hw rfl hphase hdrained hlater hmodel),
      fun hphase hdone => row _ (switchPhaseEnd_coreRead failed hw rfl hphase hdone),
      fun hphase hdone => row _ (switchPhaseEnd_configured failed hw rfl hphase hdone),
      fun hphase hdone => row _ (switchPhaseEnd_binds hw rfl hphase hdone),
      fun k hphase hdone hk => row _ (switchPhaseEnd_fails hw rfl hphase hdone hk)⟩

end Sys2Proof.Machine
end

section
/-!
PROOFS. The adapters: the delivery of an image, its commit up to the Tephra writes, and its drop (R295 to R302, R560).
-/

namespace Sys2Proof.Machine

section Commands

variable {s : State} {h : CmdHdr} {id : Nat}

/-! ## Delivery (R295, R298, R301, R560) -/

/-- R298, R301: an id of the partition's own with no image under way takes its staging frames from the quota. -/
theorem adapterLoad_loads {length : Nat} {fs : List Nat} {d1 : Dev} (hi : Issued s h)
    (hown : ownAdapter s.dev h.part id = true) (hunit : length % 64 = 0) (hlow : 128 ≤ length)
    (hhigh : length ≤ 1073741824) (hquota : (part s.dev h.part).cfg.adpQuota ≠ 0)
    (hkeys : keysMissing s.dev h.part = false) (hstage : (adpId s.dev id).stage = none)
    (hframes : cacheFrames s.dev h.part 0 (ceilDiv length 65536) = some (fs, d1)) :
    adapterLoad s.dev h id length = reply (setAdp d1 id { adpId d1 id with
      stage := some { st := 1, length := length, frames := fs, digest := [] } }) h 0x0207 stOk := by
  refine (onChannel_issued hi 0x0207 _).trans ((checked_ok h 0x0207 _ ?checks).trans ?_)
  case checks => simp [firstFail, hown, hunit, Nat.not_lt.2 hlow, Nat.not_lt.2 hhigh, hquota, hkeys, hstage]
  simp only [hframes]

/-- R298, R560: bytes for an image that is not being committed are written into it. -/
theorem exec_adapterData {offset : Nat} {data : List Byte} (hi : Issued s h)
    (hown : ownAdapter s.dev h.part id = true) (hcommit : (adpId s.dev id).commit = none)
    (hst : (stageOf s.dev id).st = 1) (hoff : offset % 16 = 0) (hne : data ≠ []) (hlen : data.length ≤ 65536)
    (hroom : offset + data.length ≤ (stageOf s.dev id).length) :
    exec (.adapterData h id offset data) s =
      did s (reply (imageWrite s.dev (stageOf s.dev id) 3 offset data) h 0x0208 stOk) := by
  refine serve_eq_did (f := fun d => onChannel d h 0x0208 false fun d =>
    if !ownAdapter d h.part id || (adpId d id).commit.isSome then reply d h 0x0208 (stw stParam 6)
    else serveData d h 0x0208 (stageOf d id) offset data) hi.1 ((onChannel_issued hi 0x0208 _).trans ?_)
  simp only [hown, hcommit, Bool.not_true, Option.isSome_none, Bool.or_self, Bool.false_eq_true, if_false]
  exact serveData_writes s.dev h 0x0208 hst hoff hne hlen hroom

/-! ## ADAPTER_COMMIT (R296 to R299) -/

/-- The version that a commit gives an id, numbered one above its last (R299). -/
def committedVer (x : AdpId) (img : Image) (bytes : List Byte) (units : List Nat) : AdpVer :=
  ⟨x.last + 1, field bytes 6 1, img.length, segmentsOf bytes, units, 0, false⟩

/-- R296 to R299: an image whose digest and fields pass, with room for its version and its units, waits for the
acknowledgments of its units. -/
theorem adapterCommit_waits {digest : List Byte} {key : Nat × List Byte} {d1 d2 d3 : Dev} {units : List Nat}
    (hi : Issued s h) (hown : ownAdapter s.dev h.part id = true) (hcommit : (adpId s.dev id).commit = none)
    (hkey : sealKey s.dev h.part = some key) (hst : (stageOf s.dev id).st = 1)
    (hgood : badAmong s.dev (stageOf s.dev id).frames = none)
    (hdigest : sha256 (imageAll s.dev (stageOf s.dev id)) = digest)
    (hpass : adapterFault s.dev id (imageAll s.dev (stageOf s.dev id)) = none) (hroom : makeRoom s.dev id = some d1)
    (hreserve : reserveUnits d1 h.part (stageOf s.dev id).frames.length = (d2, none))
    (hwrite : writeUnits h.part h.seq key d2 (stageOf s.dev id).frames = some (units, d3)) :
    adapterCommit s.dev h id digest = setAdp d3 id { adpId d3 id with
      commit := some h, waiting := units,
      vers := (adpId d3 id).vers ++
        [committedVer (adpId d3 id) (stageOf s.dev id) (imageAll s.dev (stageOf s.dev id)) units] } := by
  refine (onChannel_issued hi 0x0209 _).trans ?_
  simp only [hown, hcommit, hkey, Bool.not_true, Option.isSome_none, Bool.or_self, Bool.false_eq_true, if_false]
  refine (commitChecks_pass h 0x0209 _ hst hgood hdigest).trans ?_
  simp only [hpass, hroom, hreserve, hwrite, committedVer]

/-! ## ADAPTER_DROP (R299) -/

/-- R295: an id of the partition's own passes. -/
theorem ownAdapter_passes (hown : ownAdapter s.dev h.part id = true) :
    firstFail [(!ownAdapter s.dev h.part id, stw stParam 6)] = none := by simp [firstFail, hown]

/-- R299: with no image under way the current version alone goes. -/
theorem adapterDrop_current (hi : Issued s h) (hown : ownAdapter s.dev h.part id = true)
    (hstage : (adpId s.dev id).stage = none) :
    adapterDrop s.dev h id = reply (dropCurrent s.dev id) h 0x020A stOk := by
  refine (onChannel_issued hi 0x020A _).trans ((checked_ok h 0x020A _ (ownAdapter_passes hown)).trans ?_)
  simp only [hstage]

/-- R299: an image that is still being delivered goes too, with its frames. -/
theorem adapterDrop_staged {img : Image} (hi : Issued s h) (hown : ownAdapter s.dev h.part id = true)
    (hstage : (adpId s.dev id).stage = some img) (hcommit : (adpId s.dev id).commit = none) :
    adapterDrop s.dev h id = reply (dropCurrent (setAdp (freeFrames s.dev img.frames) id
      { adpId s.dev id with stage := none }) id) h 0x020A stOk := by
  refine (onChannel_issued hi 0x020A _).trans ((checked_ok h 0x020A _ (ownAdapter_passes hown)).trans ?_)
  simp only [hstage, hcommit]

end Commands

/-- Settles O22: each clause is what the command does where its checks pass. -/
theorem adapterObjectCommandsComplete : Obligations.AdapterObjectCommandsComplete := by
  intro s h id hi hown
  refine ⟨?load, ?data, ?commit, fun hstage => ?drop, fun img hstage hcommit => ?dropStaged⟩
  case load =>
    intro length fs d1 hunit hlow hhigh hquota hkeys hstage hframes
    exact serve_eq_did (f := fun d => adapterLoad d h id length) hi.1
      (adapterLoad_loads hi hown hunit hlow hhigh hquota hkeys hstage hframes)
  case data =>
    intro offset data hcommit hst hoff hne hlen hroom
    exact exec_adapterData hi hown hcommit hst hoff hne hlen hroom
  case commit =>
    intro digest key d1 d2 d3 units hcommit hkey hst hgood hdigest hpass hroom hreserve hwrite
    exact serve_eq_did (f := fun d => adapterCommit d h id digest) hi.1
      (adapterCommit_waits hi hown hcommit hkey hst hgood hdigest hpass hroom hreserve hwrite)
  case drop => exact serve_eq_did (f := fun d => adapterDrop d h id) hi.1 (adapterDrop_current hi hown hstage)
  case dropStaged =>
    exact serve_eq_did (f := fun d => adapterDrop d h id) hi.1 (adapterDrop_staged hi hown hstage hcommit)

end Sys2Proof.Machine
end

section
/-!
PROOFS. The gathers of adapter rows: their arrival, the segments and the index that they send, and their expiry (R303 to R307,
R468).
-/

namespace Sys2Proof.Machine

/-! ## ADAPTER_GATHER (R303, R304) -/

/-- The handles that a message names, each with its status and its pair (R304). -/
def gatherHandles (d : Dev) (m : FabMsg) : List (Nat × Option (Nat × Nat)) :=
  (List.range (bodyAt m 8 2)).map fun i => gatherHandle d (bodyAt m (16 + 8 * i) 8)

/-- The pairs that a message names, with the segments that it asks for (R303). -/
def gatherPairsOf (d : Dev) (m : FabMsg) : List GPair :=
  gatherPairs d (bodyAt m 0 2) (bodyAt m 2 2) (bodyAt m 4 2) (gatherHandles d m)

/-- The place of a handle's pair among the pairs (R305). -/
def pairPlace (ps : List GPair) : Option (Nat × Nat) → Nat
  | some x => (ps.findIdx? fun p => p.id == x.1 && p.ver == x.2).getD 0xFFFF
  | none => 0xFFFF

/-- The gather that a message with ledger number `seq` begins. -/
def gatherOf (d : Dev) (m : FabMsg) (seq : Nat) : Gather :=
  { seq := seq, tick := d.tick, src := m.src, tag := m.tag,
    handles := (gatherHandles d m).map fun q => (q.1, pairPlace (gatherPairsOf d m) q.2),
    pairs := gatherPairsOf d m, expired := false }

/-- Each handle of a gather carries its own status. -/
theorem gatherOf_statuses (d : Dev) (m : FabMsg) (seq : Nat) :
    (gatherOf d m seq).handles.map (·.1) = (gatherHandles d m).map (·.1) := List.map_map

/-- R303: a message of SUB 0 whose handles fill its length joins the gathers, with its expiry. -/
theorem adapterGather_joins {d d2 : Dev} {p cycle : Nat} {m : FabMsg} (ha : Accepted d p m 0x06 1)
    (hsub : m.sub % 4 = 0) (hsome : 1 ≤ bodyAt m 8 2) (hmost : bodyAt m 8 2 ≤ 256)
    (hfills : m.length = 48 + roundUp (8 * bodyAt m 8 2) 16)
    (h2 : stampAt (noteSeen d m.src m.type m.tag) (portInput p) 0x02 0 m.part m.tag cycle = d2) :
    adapterGather d p cycle m = addTimer { d2 with adp.gathers := d2.adp.gathers ++ [gatherOf d2 m d.led.next] } .gather
      (d2.tick + if bodyAt m 6 2 = 0 then 4 else bodyAt m 6 2) d.led.next m.tag := by
  subst h2
  have htaken : ¬ (m.sub % 4 ≠ 0 ∨ bodyAt m 8 2 = 0 ∨ 256 < bodyAt m 8 2 ∨
      m.length ≠ 48 + roundUp (8 * bodyAt m 8 2) 16) := by
    simp [hsub, Nat.ne_of_gt hsome, Nat.not_lt.2 hmost, hfills]
  unfold adapterGather
  rw [accept_ok _ _ ha, if_neg htaken]
  rfl

/-! ## GATHER_DATA_SEND (R305 to R307, R468) -/

section Send

variable {g : Gather}

/-- A gather whose pairs wait for no segment thaws nothing. -/
theorem thawGather_settled (d : Dev) (hsent : ∀ p ∈ g.pairs, p.segs = []) : thawGather d g = d := by
  refine List.foldlRecOn (motive := fun d' => d' = d) _ _ rfl fun d' hd p hp => ?_
  rw [hsent p hp, hd]
  split
  · rfl
  · rfl

/-- A pair without segments stays as it is. -/
theorem nextSeg_settled (d : Dev) {p : GPair} (h : p.segs = []) : nextSeg d p = p := by
  simp [nextSeg, h]

/-- Pairs without segments send nothing. -/
theorem sendPairs_settled (d : Dev) (n : Nat) : ∀ (k : Nat) (ps : List GPair), (∀ p ∈ ps, p.segs = []) →
    sendPairs g k d ps n = (d, ps, n) := by
  intro k
  induction k with
  | zero => exact fun _ _ => rfl
  | succ k ih =>
    intro ps hps
    cases ps with
    | nil => rfl
    | cons p r =>
      obtain ⟨hp, hr⟩ := List.forall_mem_cons.1 hps
      simp only [sendPairs, nextSeg_settled d hp, hp, ih r hr]

/-- The units that the gather names, last used in this tick (R302). -/
def unitsUsed (d : Dev) (g : Gather) : Dev :=
  { d with adp.cache := d.adp.cache.map fun c =>
    if (g.pairs.any fun p => p.id == c.id && p.ver == c.ver && p.units.contains c.unit) then { c with last := d.tick } else c }

/-- R305: the oldest gather, all of whose pairs are settled and whose data have left, sends its index. -/
theorem gatherDataSend_index {d : Dev} {rest : List Gather} (n : Nat) (hfirst : d.adp.gathers = g :: rest)
    (hlater : g.tick ≠ d.tick)
    (hslot : ((slotsNow d).any fun x => x.cls == .svc && x.kind == .modelEngine) = true) (hplan : d.plan.missed = false)
    (hleft : dataWaits d g = false) (hsent : ∀ p ∈ g.pairs, p.segs = []) :
    gatherDataSend d n = sendIndex (setGather (unitsUsed d g) g) g := by
  have hgate : ¬ (g.tick = d.tick ∨ ((slotsNow d).all fun x => x.cls != .svc || x.kind != .modelEngine) ∨
      d.plan.missed) := by
    have hserved : ((slotsNow d).all fun x => x.cls != .svc || x.kind != .modelEngine) = false := by
      simpa [List.any_eq_true, List.all_eq_false] using hslot
    simp [hlater, hserved, hplan]
  have hfind : (d.adp.gathers.find? fun q => q.seq == g.seq).getD g = g := by simp [hfirst]
  have hsettled : ((g.pairs.all fun p => p.status != 0 || p.segs.isEmpty) &&
      !dataWaits (setGather (unitsUsed d g) g) g) = true := by
    have hpairs : (g.pairs.all fun p => p.status != 0 || p.segs.isEmpty) = true :=
      List.all_eq_true.2 fun p hp => by rw [hsent p hp]; exact Bool.or_true _
    exact Bool.and_eq_true_iff.2 ⟨hpairs, congrArg not hleft⟩
  unfold gatherDataSend
  simp only [hfirst, List.head?_cons]
  rw [if_neg hgate]
  simp only [thawGather_settled d hsent, hfind, sendPairs_settled _ n _ _ hsent]
  exact if_pos hsettled

/-- R468: the pair's next segment, cached and readable, sends one piece in a slot that admits its owner. -/
theorem sendPairs_sends {d : Dev} {p p0 : GPair} {seg : Segment} {rest : List Segment} {k n : Nat} (r : List GPair)
    (hnext : nextSeg d p0 = p) (hsegs : p.segs = seg :: rest) (hst : p.status = 0)
    (hslot : svcSlot d .modelEngine (adapterOwner d p.id) = true) (hn : n ≠ 0)
    (hready : segReady d p.id p.ver seg = true) (hgood : segBad d p.id p.ver seg = none) :
    sendPairs g (k + 1) d (p0 :: r) n =
      sendPairs g k (sendPiece d g p seg n).1 ((sendPiece d g p seg n).2.1 :: r) (n - (sendPiece d g p seg n).2.2) := by
  subst hnext
  simp [sendPairs, hsegs, hst, hn, hready, hslot, hgood]

end Send

/-! ## GATHER_EXPIRY (R306) -/

/-- R306: the pairs of an expired gather that have unsent segments are late. -/
theorem gatherExpiry_late {d : Dev} {g : Gather} {tag : Nat}
    (hfind : (d.adp.gathers.find? fun g => g.tag == tag && !g.expired && (expiredAt d .gather g.seq).isSome) = some g) :
    gatherExpiry d tag = bumpBy (setGather d { g with
      pairs := g.pairs.map fun p =>
        if p.status = 0 ∧ p.segs ≠ [] then { p with status := stw stTierLate 0, segs := [] } else p,
      expired := true }) Addr.ADP_GATHER_LATE_CNT (g.pairs.filter fun p => p.status == 0 && !p.segs.isEmpty).length := by
  unfold gatherExpiry
  rw [hfind]

/-- Settles O23: each clause is what a gather does at its arrival, as it sends its data and its index, and when it
expires. -/
theorem gatherRowsComplete : Obligations.GatherRowsComplete := by
  intro s hs
  refine ⟨?arrives, ?index, ?piece, ?expires⟩
  case arrives =>
    intro p cycle m ha hsub hsome hmost hfills d1 d2 handles ps
    exact ⟨gatherOf d2 m s.dev.led.next, rfl, rfl, rfl, rfl, rfl, rfl, gatherOf_statuses d2 m _,
      serve_eq_did (f := fun d => adapterGather d p cycle m) hs (adapterGather_joins ha hsub hsome hmost hfills rfl)⟩
  case index =>
    intro g rest n hfirst hlater hslot hplan hleft hsent
    exact ⟨setGather (unitsUsed s.dev g) g, rfl, rfl, rfl, rfl, serve_eq_did (f := fun d => gatherDataSend d n) hs
      (gatherDataSend_index n hfirst hlater hslot hplan hleft hsent)⟩
  case piece =>
    intro g p0 r seg rest k n p hsegs hst hslot hn hready hgood
    exact sendPairs_sends r rfl hsegs hst hslot hn hready hgood
  case expires =>
    intro g tag hfind
    exact serve_eq_did (f := fun d => gatherExpiry d tag) hs (gatherExpiry_late hfind)

end Sys2Proof.Machine
end

section
/-!
PROOFS. Vocabularies and grammar images: their delivery, the assignment and unload of a vocabulary, and the drop of a grammar
image (R310 to R314, R335, R336, R508, R560, R561).
-/

namespace Sys2Proof.Machine

/-! ## Vocabularies (R310 to R314) -/

section Vocabularies

variable {s : State} {h : CmdHdr} {n : Nat}

/-- R310, R560: an EMPTY slot whose frames can be had is LOADING. -/
theorem vocabLoad_loads {length : Nat} {fs : List Nat} {d1 : Dev} (hb : ByOperator s h) (hn : n ≤ 7)
    (hunit : length % 64 = 0) (hlow : 256 ≤ length) (hhigh : length ≤ 268435456) (hst : (vocab s.dev n).img.st = 0)
    (hframes : allocOwnMany s.dev false 0 (ceilDiv length 65536) = .ok (fs, d1)) :
    vocabLoad s.dev h n length = reply (setVocab d1 n
      { Vocab.empty with img := { st := 1, length := length, frames := fs, digest := [] } }) h 0x0404 stOk := by
  refine (onChannel_operator hb 0x0404 true _).trans ((checked_ok h 0x0404 _ ?checks).trans ?_)
  case checks => simp [firstFail, Nat.not_lt.2 hn, hunit, Nat.not_lt.2 hlow, Nat.not_lt.2 hhigh, hst]
  simp only [hframes]

/-- R311 to R313, R561: an image that can be read, has the digest and passes R313 is READY, with the fields of its header. -/
theorem vocabCommit_readies {digest b : List Byte} (hb : ByOperator s h) (hst : (vocab s.dev n).img.st = 1)
    (hgood : badAmong s.dev (vocab s.dev n).img.frames = none) (hbytes : b = imageAll s.dev (vocab s.dev n).img)
    (hdigest : sha256 b = digest) (hpass : vocabFault b = none) :
    vocabCommit s.dev h n digest = reply (setVocab s.dev n
      { img := { (vocab s.dev n).img with st := 2, digest := digest }, logitFmt := field b 6 1, entries := field b 8 4,
        merges := field b 12 4, eos := field b 16 4, byteBase := field b 20 4, tokenOff := field b 24 4,
        poolOff := field b 28 4, mergeOff := field b 32 4 }) h 0x0406 stOk := by
  subst hbytes
  refine (onChannel_operator hb 0x0406 true _).trans ((commitChecks_pass h 0x0406 _ hst hgood hdigest).trans ?_)
  simp only [hpass]

/-- R314: a READY model that no session names takes a READY vocabulary. -/
theorem vocabAssign_assigns {m : Nat} (hb : ByOperator s h) (hm : m ≤ 31) (hmodel : (model s.dev m).img.st = 2)
    (hn : n ≤ 7) (hst : (vocab s.dev n).img.st = 2) (hfree : modelNamed s.dev m = false) :
    vocabAssign s.dev h m n =
      reply (setModel s.dev m { model s.dev m with vocab := some n }) h 0x0407 stOk := by
  refine (onChannel_operator hb 0x0407 true _).trans (checked_ok h 0x0407 _ ?_)
  simp [firstFail, Nat.not_lt.2 hm, hmodel, Nat.not_lt.2 hn, hst, hfree]

/-- R310, R314: a vocabulary whose models no session names leaves with its frames, and those models have none. -/
theorem vocabUnload_unloads {d1 : Dev} (hb : ByOperator s h) (hn : n ≤ 7)
    (hfree : (s.dev.mdl.slots.any fun q => q.2.vocab == some n && modelNamed s.dev q.1) = false)
    (hst : (vocab s.dev n).img.st ≠ 0)
    (h1 : freeFrames { s.dev with tok.vocabs := tdel s.dev.tok.vocabs n } (vocab s.dev n).img.frames = d1) :
    vocabUnload s.dev h n = reply { d1 with
      mdl.slots := tmap (fun x => if x.vocab = some n then { x with vocab := none } else x) d1.mdl.slots }
      h 0x0408 stOk := by
  subst h1
  refine (onChannel_operator hb 0x0408 true _).trans ((checked_ok h 0x0408 _ ?checks).trans (if_neg hst))
  case checks => simp only [firstFail, decide_eq_false (Nat.not_lt.2 hn), hfree, Bool.false_eq_true, if_false]

end Vocabularies

/-! ## Grammar images (R335, R336) -/

section Grammars

variable {s : State} {h : CmdHdr} {id : Nat}

/-- R335, R560: an id without an image, of a partition below its bound and whose frames can be had, is LOADING. -/
theorem grammarLoad_loads {length : Nat} {fs : List Nat} {d1 : Dev} (hi : Issued s h) (hid : gramIdBad id = false)
    (hunit : length % 64 = 0) (hlow : 128 ≤ length) (hhigh : length ≤ 67108864) (hst : (gram s.dev h.part id).img.st = 0)
    (hkeys : keysMissing s.dev h.part = false) (hcount : gramCount s.dev h.part < 1024)
    (hframes : allocMany s.dev h.part (ceilDiv length 65536) = .ok (fs, d1)) :
    grammarLoad s.dev h id length = reply (setGram d1 h.part id
      { Gram.empty with img := { st := 1, length := length, frames := fs, digest := [] } }) h 0x0409 stOk := by
  refine (onChannel_issued hi 0x0409 _).trans ((checked_ok h 0x0409 _ ?checks).trans ?_)
  case checks =>
    simp [firstFail, hid, hunit, Nat.not_lt.2 hlow, Nat.not_lt.2 hhigh, hst, hkeys, Nat.not_le.2 hcount]
  simp only [hframes]

/-- R560: bytes at a multiple of 16 that lie in a LOADING image pass the checks of the DATA form. -/
theorem dataChecks_pass {img : Image} {offset : Nat} {data : List Byte} (hst : img.st = 1) (hoff : offset % 16 = 0)
    (hne : data ≠ []) (hlen : data.length ≤ 65536) (hroom : offset + data.length ≤ img.length) :
    firstFail (dataChecks img offset data) = none := by
  simp [dataChecks, firstFail, hst, hoff, hne, Nat.not_lt.2 hlen, Nat.not_lt.2 hroom]

/-- R508, R560: bytes for a LOADING grammar image are written into it, and its frames are noted as changed. -/
theorem exec_grammarData {offset : Nat} {data : List Byte} (hi : Issued s h) (hst : (gram s.dev h.part id).img.st = 1)
    (hoff : offset % 16 = 0) (hne : data ≠ []) (hlen : data.length ≤ 65536)
    (hroom : offset + data.length ≤ (gram s.dev h.part id).img.length) :
    exec (.grammarData h id offset data) s = did s (reply (setGram
      (imageWrite s.dev (gram s.dev h.part id).img 3 offset data) h.part id (gram s.dev h.part id)) h 0x040A stOk) := by
  change execGrammarData h id offset data s = _
  refine (serve_serving _ hi.1).trans (congrArg (did s) ((onChannel_issued hi 0x040A _).trans ?_))
  exact checked_ok h 0x040A _ (dataChecks_pass hst hoff hne hlen hroom)

/-- R336, R561: an image that can be read, has the digest and passes R336 is READY, with the fields of its header. -/
theorem grammarCommit_readies {digest b : List Byte} (hi : Issued s h) (hst : (gram s.dev h.part id).img.st = 1)
    (hgood : badAmong s.dev (gram s.dev h.part id).img.frames = none)
    (hbytes : b = imageAll s.dev (gram s.dev h.part id).img) (hdigest : sha256 b = digest)
    (hpass : gramFault b ((gramVocab s.dev h.part ((b.drop 8).take 32)).map (·.entries)) = none) :
    grammarCommit s.dev h id digest = reply (setGram s.dev h.part id
      (grammarOf { (gram s.dev h.part id).img with st := 2, digest := digest } b)) h 0x040B stOk := by
  subst hbytes
  refine (onChannel_issued hi 0x040B _).trans ((commitChecks_pass h 0x040B _ hst hgood hdigest).trans ?_)
  simp only [hpass]

/-- R335, R508: an image that no session names is noted as changed and leaves with its frames. -/
theorem grammarDrop_drops {d1 : Dev} (hi : Issued s h) (hid : gramIdBad id = false)
    (hfree : gramNamed s.dev h.part id = false) (hst : (gram s.dev h.part id).img.st ≠ 0)
    (h1 : setGram s.dev h.part id (gram s.dev h.part id) = d1) :
    grammarDrop s.dev h id = reply (freeFrames { d1 with tok.grams := tdel d1.tok.grams (gramKey h.part id) }
      (gram s.dev h.part id).img.frames) h 0x040C stOk := by
  subst h1
  refine (onChannel_issued hi 0x040C _).trans ((checked_ok h 0x040C _ ?checks).trans (if_neg hst))
  case checks => simp [firstFail, hid, hfree]

end Grammars

/-- Settles O25: each clause is what the command does where its checks pass. -/
theorem textObjectCommandsComplete : Obligations.TextObjectCommandsComplete := by
  refine ⟨fun s h n hb => ⟨?load, ?data, ?commit, ?assign, ?unload⟩,
    fun s h id hi => ⟨?gramLoad, ?gramData, ?gramCommit, ?gramDrop⟩⟩
  case load =>
    intro length fs d1 hn hunit hlow hhigh hst hframes
    exact serve_eq_did (f := fun d => vocabLoad d h n length) hb.1
      (vocabLoad_loads hb hn hunit hlow hhigh hst hframes)
  case data =>
    intro offset data hst hoff hne hlen hroom
    change execVocabData h n offset data s = _
    refine (serve_serving _ hb.1).trans (congrArg (did s) ((onChannel_operator hb 0x0405 true _).trans ?_))
    exact serveData_writes s.dev h 0x0405 hst hoff hne hlen hroom
  case commit =>
    intro digest b hst hgood hbytes hdigest hpass
    exact serve_eq_did (f := fun d => vocabCommit d h n digest) hb.1
      (vocabCommit_readies hb hst hgood hbytes hdigest hpass)
  case assign =>
    intro m hm hmodel hn hst hfree
    exact serve_eq_did (f := fun d => vocabAssign d h m n) hb.1 (vocabAssign_assigns hb hm hmodel hn hst hfree)
  case unload =>
    intro hn hfree hst d
    exact serve_eq_did (f := fun d => vocabUnload d h n) hb.1 (vocabUnload_unloads hb hn hfree hst rfl)
  case gramLoad =>
    intro length fs d1 hid hunit hlow hhigh hst hkeys hcount hframes
    exact serve_eq_did (f := fun d => grammarLoad d h id length) hi.1
      (grammarLoad_loads hi hid hunit hlow hhigh hst hkeys hcount hframes)
  case gramData =>
    intro offset data hst hoff hne hlen hroom
    exact exec_grammarData hi hst hoff hne hlen hroom
  case gramCommit =>
    intro digest b hst hgood hbytes hdigest hpass
    exact serve_eq_did (f := fun d => grammarCommit d h id digest) hi.1
      (grammarCommit_readies hi hst hgood hbytes hdigest hpass)
  case gramDrop =>
    intro hid hfree hst d
    exact serve_eq_did (f := fun d => grammarDrop d h id) hi.1 (grammarDrop_drops hi hid hfree hst rfl)

end Sys2Proof.Machine
end

section
/-!
PROOFS. The token commands on a session: its sampling parameters, TOKENIZE and its stop set (R316 to R324, R328, R342).
-/

namespace Sys2Proof.Machine

section Commands

variable {s : State} {h : CmdHdr} {handle i : Nat} {d1 : Dev} (ho : OnSession s h handle i)
  (hctrl : CtrlWritable (touched s.dev i) i d1)
include ho hctrl

/-- R322 to R324: parameters in range, for the generation that goes on and with a seed of their own, are the session's. -/
theorem setSampling_sets {q : Sampling} (hrange : firstFail (samplingChecks q) = none)
    (husable : grammarUsable (touched s.dev i) (sess s.dev i) h.part q.grammar = true) (hgen : q.newGen = 0)
    (hseed : q.seed ≠ 0) (hgram : q.grammar = (sess s.dev i).ctrl.sampling.grammar)
    (hfree : stepInProgress (touched s.dev i) i = false) (hfum : (s.dev.pwr.fumarole && q.cls == 1) = false) :
    setSampling s.dev h handle q = replyBody
      (modSess d1 i fun e => { e with clsD := q.cls == 1, ctrl := { e.ctrl with sampling := q } }) h 0x0107 stOk
      (leBytes 8 q.seed ++ leBytes 8 0) := by
  refine (onChannel_issued ho.1 0x0107 _).trans ((checked_ok h 0x0107 _ hrange).trans
    ((withSess_ok 0x0107 6 _ ho.2).trans ((checked_ok h 0x0107 _ ?checks).trans
      ((writeCtrl_ok h 0x0107 _ hctrl).trans ?_))))
  case checks => simp [firstFail, husable, hgen, hgram.symm, hfree, hfum]
  have hgoes : q.newGen ≠ 1 := by omega
  simp only [if_neg hgoes, if_neg hseed]

/-- R316 to R321, R328: the text behind the carry becomes ids and a new carry; under PEN_SCOPE 0 no id is counted. -/
theorem tokenizeCmd_tokenizes {tflags : Nat} {text : List Byte} {v : Vocab} {r : List Nat × List Byte}
    (hflags : tflags ≤ 3) (hlen : text.length ≤ 65536) (hvocab : sessVocab (touched s.dev i) (sess s.dev i) = some v)
    (hscope : (sess s.dev i).ctrl.sampling.penScope = 0) (hslot : svcSlot (touched s.dev i) .sampler h.part = true)
    (hgood : badAmong (touched s.dev i) v.img.frames = none)
    (hr : tokenizeBytes d1 v (bit tflags 0) (bit tflags 1) ((sess s.dev i).ctrl.carry ++ text) = r) :
    tokenizeCmd s.dev h handle tflags text = replyEntries
      (workDone (bumpBy (countEvent (modCtrl d1 i fun c => { c with carry := r.2 }) h.part 7 text.length)
        Addr.TOK_TOKENIZE_BYTE_CNT text.length) 16 stOk h.part h.tag) h 0x0401 stOk
      (leBytes 4 r.1.length ++ leBytes 1 r.2.length ++ leBytes 11 0) 4 (r.1.map (leBytes 4)).flatten := by
  subst hr
  refine (onChannel_issued ho.1 0x0401 _).trans ((checked_ok h 0x0401 _ ?checks).trans
    ((withSess_ok 0x0401 6 _ ho.2).trans ?_))
  case checks => simp [firstFail, Nat.not_lt.2 hflags, Nat.not_lt.2 hlen]
  simp only [hvocab, hslot, hgood, Bool.not_true, Bool.false_eq_true, if_false]
  refine (writeCtrl_ok h 0x0401 _ hctrl).trans ?_
  simp only [hscope, Nat.zero_ne_one, if_false]

/-- R342: ids and valid strings within their bounds are, between the session's steps, its stop set. -/
theorem stopSetCmd_sets {ids strings : Nat} {slots : List Nat} {ents : List (Nat × List Byte)}
    (hrange : firstFail (stopChecks ids strings slots ents) = none)
    (hutf8 : (((ents.take strings).map fun e => e.2.take e.1).all utf8Valid) = true)
    (hfree : stepInProgress (touched s.dev i) i = false) :
    stopSetCmd s.dev h handle ids strings slots ents = reply (modCtrl d1 i fun c =>
      { c with stopIds := slots.take ids, stopStrs := (ents.take strings).map fun e => e.2.take e.1 }) h 0x0403 stOk := by
  refine (onChannel_issued ho.1 0x0403 _).trans ((checked_ok h 0x0403 _ hrange).trans
    ((withSess_ok 0x0403 6 _ ho.2).trans ?_))
  simp only [hutf8, hfree, Bool.not_true, Bool.false_eq_true, if_false]
  exact writeCtrl_ok h 0x0403 _ hctrl

end Commands

/-- Settles O26: each clause is what the command does on the session that its handle names. -/
theorem tokenCommandsComplete : Obligations.TokenCommandsComplete := by
  intro s h handle i d1 ho hctrl
  refine ⟨?sampling, ?tokenize, ?stops⟩
  case sampling =>
    intro q hrange husable hgen hseed hgram hfree hfum
    exact serve_eq_did (f := fun d => setSampling d h handle q) ho.1.1
      (setSampling_sets ho hctrl hrange husable hgen hseed hgram hfree hfum)
  case tokenize =>
    intro tflags text v hflags hlen hvocab hscope hslot hgood r
    exact serve_eq_did (f := fun d => tokenizeCmd d h handle tflags text) ho.1.1
      (tokenizeCmd_tokenizes ho hctrl hflags hlen hvocab hscope hslot hgood rfl)
  case stops =>
    intro ids strings slots ents hrange hutf8 hfree
    exact serve_eq_did (f := fun d => stopSetCmd d h handle ids strings slots ents) ho.1.1
      (stopSetCmd_sets ho hctrl hrange hutf8 hfree)

end Sys2Proof.Machine
end

section
/-!
PROOFS. The sampler: what it chooses for a LOGITS, and a LOGITS from its arrival to its token (R119, R325 to R334, R339,
R427, R528, R697).
-/

namespace Sys2Proof.Machine

/-! ## What the sampler chooses (R326, R332, R339, R427, R528) -/

/-- R427: a token whose table entry or bytes cannot be read ends its LOGITS. -/
theorem settleRead_unreadable {d : Dev} {v : Vocab} {id : Nat} {c : CwAddr} (l : LogitsReq) (forced : Bool)
    (hbad : tokenUe d v id = some c) :
    settleRead d l v id forced = endLogits (noteUncorrectable d c) l (stw stUncorr 0) 0 := by
  unfold settleRead
  rw [hbad]
  rfl

theorem settleRead_readable {d : Dev} {v : Vocab} {id : Nat} (l : LogitsReq) (forced : Bool)
    (hgood : tokenUe d v id = none) : settleRead d l v id forced = settleToken d l v id forced := by
  unfold settleRead
  rw [hgood]

/-- R326: at temperature 0 the candidate of highest rank is chosen. -/
theorem chooseD_greedy {q : Sampling} (pos id : Nat) (z : F32) (r : List (Nat × F32)) (htemp : q.temp = 0) :
    chooseD q pos ((id, z) :: r) = some id := by
  have hzero : (un q.temp).eqv (.fin false 0 0) = true := by rw [htemp]; decide
  exact if_pos hzero

section Choice

variable {d : Dev} {l : LogitsReq} {v : Vocab}

/-- R427: a grammar image that cannot be read ends the LOGITS. -/
theorem chooseFor_unreadable {c : CwAddr} (hbad : gramUe d (sess d l.entry) (hPart l.handle) v = some c) :
    chooseFor d l v = endLogits (noteUncorrectable d c) l (stw stUncorr 0) 0 := by
  simp only [chooseFor, hbad, failStep]

variable (hread : gramUe d (sess d l.entry) (hPart l.handle) v = none)
include hread

/-- R528: the forced token of the position is taken before the mask, and leaves the forced list. -/
theorem chooseFor_forced {id : Nat} (hforced : forcedAt (sess d l.entry).ctrl l.pos = some id) :
    chooseFor d l v = settleRead (bump (modCtrl d l.entry fun c => { c with
      forced := c.forced.filter fun f => f.1 != l.pos }) Addr.LAH_FORCED_CNT) l v id true := by
  simp only [chooseFor, hread, hforced]

variable (hfree : forcedAt (sess d l.entry).ctrl l.pos = none)
include hfree

/-- R339: where the mask allows no id, the LOGITS is a dead end; class D counts the sample that falls back on EOS. -/
theorem chooseFor_deadEnd {fb : Bool} (hmask : allowedIds d (sess d l.entry) (hPart l.handle) v = [])
    (hfb : ((sess d l.entry).ctrl.sampling.grammar != 0 &&
      (gram d (hPart l.handle) (sess d l.entry).ctrl.sampling.grammar).eosFallback) = fb) :
    chooseFor d l v = deadEnd
      (if fb && (sess d l.entry).ctrl.sampling.cls == 1 then bump d Addr.TOK_SAMPLE_CNT else d) l v fb := by
  simp only [chooseFor, hread, hfree, hmask, hfb, List.isEmpty_nil, if_true]

variable (hmask : allowedIds d (sess d l.entry) (hPart l.handle) v ≠ [])
include hmask

/-- R332: in class H the ranked candidates go to the host. -/
theorem chooseFor_classH (hcls : (sess d l.entry).ctrl.sampling.cls = 0) :
    chooseFor d l v = sendSet d l (ranked l.logits (allowedIds d (sess d l.entry) (hPart l.handle) v)) := by
  simp only [chooseFor, hread, hfree, hcls, List.isEmpty_iff, if_neg hmask, if_true]

/-- R326: in class D the device's choice among the penalized candidates is the token. -/
theorem chooseFor_classD {id : Nat} (hcls : (sess d l.entry).ctrl.sampling.cls ≠ 0)
    (hpick : chooseD (sess d l.entry).ctrl.sampling l.pos (ranked (penalized (sess d l.entry).ctrl l.logits)
      (allowedIds d (sess d l.entry) (hPart l.handle) v)) = some id) :
    chooseFor d l v = settleRead (bump d Addr.TOK_SAMPLE_CNT) l v id false := by
  simp only [chooseFor, hread, hfree, hpick, List.isEmpty_iff, if_neg hmask, if_neg hcls]

end Choice

/-- Settles O28: the choice follows what can be read, the forced token, the mask and the class, in this order. -/
theorem samplerChoice : Obligations.SamplerChoice := by
  intro d l v e p fb
  refine ⟨fun c hbad => chooseFor_unreadable hbad, fun id f c hbad => settleRead_unreadable l f hbad,
    fun id f hgood => settleRead_readable l f hgood,
    fun hread => ⟨fun id hforced => chooseFor_forced hread hforced, fun hfree hmask => ?dead,
      fun hfree hmask hcls => chooseFor_classH hread hfree hmask hcls,
      fun id z r hfree hmask hcls htemp hranked => chooseFor_classD hread hfree hmask hcls ?greedy⟩⟩
  case dead =>
    have hdead := chooseFor_deadEnd hread hfree hmask (fb := fb) rfl
    refine ⟨fun hno => hdead.trans ?_, fun hfb hcls => hdead.trans ?_⟩
    · have huncounted : (fb && e.ctrl.sampling.cls == 1) = false := by
        simpa only [Bool.and_eq_false_iff, beq_eq_false_iff_ne] using hno
      exact congrArg (deadEnd · l v fb) (if_neg (Bool.eq_false_iff.1 huncounted))
    · have hcounted : (fb && e.ctrl.sampling.cls == 1) = true := by simp [hfb, hcls]
      exact congr (congrArg (deadEnd · l v) (if_pos hcounted)) hfb
  case greedy =>
    change chooseD e.ctrl.sampling l.pos (ranked (penalized e.ctrl l.logits) (allowedIds d e p v)) = some id
    rw [hranked]
    exact chooseD_greedy l.pos id z r htemp

/-! ## The arrival of a LOGITS (R119, R697) -/

/-- R697: a LOGITS that passes every check, of a session that nothing bars, waits for its sampler unit. -/
theorem logitsArrive_waits {d d2 : Dev} {p cycle i : Nat} {m : FabMsg} {v : Vocab} (ha : Accepted d p m 0x04 1)
    (h2 : stampAt (noteSeen d m.src m.type m.tag) (portInput p) 0x02 0 (hPart m.handle) m.handle cycle = d2)
    (hhead : firstFail (logitsHead d2 m) = none) (hlive : live d2 m.handle = some i)
    (hbar : logitsBarred (touched d2 i) i = false)
    (hheld : ((touched d2 i).tok.logits.any fun l => l.entry == i && l.held.isSome) = false)
    (hserve : logitsServe (touched d2 i) i d.led.next m = .ok v) :
    logitsArrive d p cycle m = { touched d2 i with tok.logits := (touched d2 i).tok.logits ++
      [mkLogits (touched d2 i) m i d.led.next (logitsOf v m v.entries) none] } := by
  have hseq : (noteSeen d m.src m.type m.tag).led.next = d.led.next := rfl
  simp only [logitsArrive, accept_ok _ _ ha, h2, hhead, hlive, modSess_lastTick, hbar, hheld, hseq, hserve, Bool.or_self,
    Bool.false_eq_true, if_false]

/-! ## SAMPLE_STEP (R331) -/

/-- R331: a LOGITS of the manifest, not yet sent, held or fenced, has its choice made once its control page is written. -/
theorem sampleStep_chooses {d d1 d2 : Dev} {l : LogitsReq} {v : Vocab}
    (hfind : (d.tok.logits.find? fun q => q.seq == l.seq) = some l) (hbar : logitsBarred d l.entry = false)
    (hheld : l.held = none) (hsent : l.sent = false) (hfenced : l.fenced = false) (hlisted : listed d 4 l.seq = true)
    (h2 : unlist d 4 l.seq = d2) (hvocab : sessVocab d2 (sess d2 l.entry) = some v) (hctrl : CtrlWritable d2 l.entry d1) :
    sampleStep d l.seq = workDone (chooseFor d1 l v) 16 0 (hPart l.handle) l.handle := by
  have hnow : sampleNow d2 l = chooseFor d1 l v := by
    simp only [sampleNow, hsent, hheld, hfenced, hvocab, Option.isSome_none, Bool.false_eq_true, or_self, if_false]
    exact ctrlWritten_ok _ _ hctrl
  simp only [sampleStep, hfind, hbar, hlisted, h2, hnow, Bool.not_true, Bool.false_eq_true, or_self, if_false]

/-! ## The host's choice and its deadline (R332 to R334) -/

/-- R334: the deadline has passed, and no choice stamped before it waits. -/
theorem hostDeadlineExpiry_ends {d : Dev} {l : LogitsReq} {x : Nat}
    (hfind : (d.tok.logits.find? fun q => q.seq == l.seq && q.sent) = some l)
    (hexp : expiredAt d .host l.seq = some x) (hwaits : choiceWaits d l.handle x = false) :
    hostDeadlineExpiry d l.seq = hostTimeout d l := by
  simp only [hostDeadlineExpiry, hfind, hexp, hwaits, Bool.false_eq_true, if_false]

/-- R333: a choice in time, of an allowed id that can be read, for the position that awaits it, is the token. -/
theorem hostChoice_settles {s : State} {h : CmdHdr} {handle i token : Nat} {l : LogitsReq} {v : Vocab} {d1 : Dev}
    (ho : OnSession s h handle i) (hst : (sess s.dev i).st = .awaitHost)
    (hawait : awaitingHost (touched s.dev i) i = some l)
    (htime : ∀ x, expiredAt (touched s.dev i) .host l.seq = some x → before h.seq x = true)
    (hvocab : sessVocab (touched s.dev i) (sess s.dev i) = some v)
    (hread : gramUe (touched s.dev i) (sess s.dev i) h.part v = none)
    (hgood : tokenUe (touched s.dev i) v token = none)
    (hallowed : (allowedIds (touched s.dev i) (sess s.dev i) h.part v).contains token = true)
    (hctrl : CtrlWritable (touched s.dev i) i d1) :
    hostChoice s.dev h handle l.pos token = reply (settleToken (bump
      (modSess (dropTimer d1 .host l.seq) i fun e => { e with st := if e.st = .awaitHost then .active else e.st })
      Addr.TOK_HOST_CHOICE_CNT) l v token false) h 0x0402 stOk := by
  refine (onSession_runs ho 0x0402 6 _).trans ?_
  simp only [hst, hawait, hvocab, hread, hallowed, hgood, ne_eq, not_true_eq_false, if_true, if_false]
  refine (if_neg ?inTime).trans (ctrlWritten_ok _ _ hctrl)
  case inTime =>
    cases hexp : expiredAt (touched s.dev i) .host l.seq with
    | none => exact Bool.false_ne_true
    | some x => simp [htime x hexp]

/-- Settles O27: each clause is what a step of a LOGITS does where its conditions hold. -/
theorem logitsRowsComplete : Obligations.LogitsRowsComplete := by
  intro s hs
  refine ⟨?arrives, ?sampled, ?released, ?expires, ?chosen⟩
  case arrives =>
    intro p cycle i m v ha d hhead hlive hbar hheld hserve
    exact serve_eq_did (f := fun d => logitsArrive d p cycle m) hs
      (logitsArrive_waits ha rfl hhead hlive hbar hheld hserve)
  case sampled =>
    intro l v d1 hfind hbar hheld hsent hfenced hlisted d hvocab hctrl
    exact serve_eq_did (f := fun d => sampleStep d l.seq) hs
      (sampleStep_chooses hfind hbar hheld hsent hfenced hlisted rfl hvocab hctrl)
  case released =>
    intro handle i hkept
    change execTokenRelease handle s = _
    exact (serve_serving _ hs).trans (congrArg (did s) (if_pos hkept))
  case expires =>
    intro l x hfind hexp hwaits
    exact serve_eq_did (f := fun d => hostDeadlineExpiry d l.seq) hs (hostDeadlineExpiry_ends hfind hexp hwaits)
  case chosen =>
    intro h handle i token l v d1 ho hst hawait htime hvocab hread hgood hallowed hctrl
    exact serve_eq_did (f := fun d => hostChoice d h handle l.pos token) hs
      (hostChoice_settles ho hst hawait htime hvocab hread hgood hallowed hctrl)

end Sys2Proof.Machine
end

section
/-!
PROOFS. The vector stores: the commands on a store and on its vectors (R347 to R352, R355, R356, R359 to R362, R366, R371).
-/

namespace Sys2Proof.Machine

/-! ## Stores (R347 to R352, R371) -/

section Commands

variable {s : State} {h : CmdHdr} (hi : Issued s h)
include hi

/-- R347, R351, R352, R405: a free local number with parameters in range becomes a store on the roomiest stack. -/
theorem storeCreate_creates {l : Nat} {p : StoreParams} {fs : List Nat} {d1 : Dev}
    (hlocal : l < (part s.dev h.part).cfg.rtvStores) (hrange : firstFail (storeParamChecks p) = none)
    (hunused : tget s.dev.rtv.stores (storeKey h.part l) = none) (hgen : storeGen s.dev (storeKey h.part l) < 2 ^ 16)
    (hcap : (s.dev.rtv.stores.map fun x => x.2.p.capacity).sum + p.capacity ≤ 2 ^ 32)
    (halloc : allocHome s.dev h.part (roomiest s.dev) (storeFrames p) = .ok (fs, d1)) :
    serveStoreCreate h l p s.dev = replyBody (setStore (drawNext d1).2 (storeKey h.part l)
        { gen := storeGen s.dev (storeKey h.part l), st := 1, p := p, frames := fs, home := roomiest s.dev,
          levelSalt := (drawNext d1).1 % 2 ^ 256, nodes := [], side := [], sideVer := 0, other := [],
          verTick := s.dev.tick, entry := none, book := none, mergeCmd := none }) h 0x0501 stOk
      (leBytes 4 (storeHandle (storeKey h.part l) (storeGen s.dev (storeKey h.part l))) ++ leBytes 12 0) := by
  have hroom : ¬(2 ^ 16 ≤ storeGen s.dev (storeKey h.part l) ∨
      2 ^ 32 < (s.dev.rtv.stores.map fun x => x.2.p.capacity).sum + p.capacity) :=
    not_or.2 ⟨Nat.not_le.2 hgen, Nat.not_lt.2 hcap⟩
  unfold serveStoreCreate
  refine (onChannel_issued hi 0x0501 _).trans ((checked_ok h 0x0501 _ ?checks).trans
    ((if_neg ?unused).trans ((if_neg hroom).trans ?_)))
  case checks => simpa [firstFail, Nat.not_le.2 hlocal] using hrange
  case unused => simp only [hunused, Option.isSome_none, Bool.false_eq_true, not_false_eq_true]
  simp only [halloc]

/-- R349: a handle that is not live ends STORE_DROP. -/
theorem storeDrop_stale {store : Nat} (hlive : storeLive s.dev h.part store = none) :
    serveStoreDrop h store s.dev = reply s.dev h 0x0502 (stw stStale 6) := by
  simp only [serveStoreDrop, onChannel_issued hi, hlive]

section LiveStore

variable {store key : Nat} {x : Store} (hlive : storeLive s.dev h.part store = some (key, x))
include hlive

/-- R349, R352: STORE_DROP retires the store that its handle names. -/
theorem storeDrop_retires : serveStoreDrop h store s.dev = reply (retireStore s.dev key x) h 0x0502 stOk := by
  simp only [serveStoreDrop, onChannel_issued hi, hlive]

/-- R371: STORE_MERGE waits for the round that it makes due. -/
theorem storeMerge_waits (hidle : x.mergeCmd = none) : serveStoreMerge h store s.dev =
    { s.dev with rtv.stores := tset s.dev.rtv.stores key { x with mergeCmd := some h } } := by
  simp only [serveStoreMerge, onChannel_issued hi, hlive, hidle, Option.isSome_none, Bool.false_eq_true, if_false]

/-! ## Vectors (R355, R356, R359 to R362) -/

/-- R355, R356, R360: an insert of DIM finite components takes the lowest free slot and publishes it in the side list. -/
theorem vecInsert_inserts {count user slot : Nat} {comps : List (BitVec 16)} (hturn : updateTurn s.dev h store = true)
    (hlen : comps.length = count) (hdim : count = x.p.dim)
    (hgood : ((compsOf comps).any (fun c => !finite32 c) || (x.p.metric == 1 && zeroVec (compsOf comps))) = false)
    (hside : x.side.length < x.p.sideMax) (hfree : freeSlot x = some slot) :
    let gen := (tgetD x.nodes slot (Node.free 0)).gen
    let u := if x.p.metric = 1 then unitVec (compsOf comps) else compsOf comps
    let v := rerankVec x.p.rerankFmt (rerankScale u) u
    let n : Node := { Node.free gen with
      used := true, insTick := s.dev.tick, user := user, vec := v, scale := rerankScale u,
      codes := (x.book.map fun b => encodeVec b x.p.dsub v).getD [] }
    let d1 := setStore s.dev key { x with nodes := tset x.nodes slot n, side := x.side ++ [⟨slot, gen, s.dev.tick⟩] }
    serveVecInsert h store count user comps s.dev = bump (replyNextTick d1 h 0x0504 stOk
      (leBytes 8 (vidOf slot gen) ++ epochBytes d1 ++ leBytes 3 0)) Addr.RTV_INSERT_CNT := by
  intro gen u v n d1
  obtain ⟨hfinite, hnonzero⟩ := Bool.or_eq_false_iff.1 hgood
  refine (if_neg (by simp [hturn])).trans ((onChannel_issued hi 0x0504 _).trans
    ((checked_ok h 0x0504 _ ?length).trans ?_))
  case length => simp only [hlen, bne_self_eq_false, hfinite, firstFail, Bool.false_eq_true, if_false]
  simp only [hlive]
  refine (checked_ok h 0x0504 _ ?fits).trans ?_
  case fits => simp [firstFail, hdim, hnonzero, Nat.not_le.2 hside]
  simp only [hfree]
  cases hbook : x.book <;> simp [d1, n, v, u, gen, hbook]

/-- R361: VEC_DELETE marks the slot that its VID names. -/
theorem vecDelete_deletes {vid slot : Nat} {n : Node} (hturn : updateTurn s.dev h store = true)
    (hfound : vidFound x vid = some (slot, n)) :
    let d1 := setStore s.dev key
      { x with nodes := tset x.nodes slot { n with delTick := some s.dev.tick, tomb := true } }
    serveVecDelete h store vid s.dev =
      bump (replyNextTick d1 h 0x0505 stOk (epochBytes d1 ++ leBytes 11 0)) Addr.RTV_DELETE_CNT := by
  simp only [serveVecDelete, hturn, Bool.not_true, Bool.false_eq_true, if_false, onChannel_issued hi, hlive, hfound]

/-- R361, R362: a VID that names no vector ends VEC_DELETE. -/
theorem vecDelete_notFound {vid : Nat} (hturn : updateTurn s.dev h store = true) (hfound : vidFound x vid = none) :
    serveVecDelete h store vid s.dev = reply s.dev h 0x0505 (stw stVecNotFound 8) := by
  simp only [serveVecDelete, hturn, Bool.not_true, Bool.false_eq_true, if_false, onChannel_issued hi, hlive, hfound]

/-- R366, R367, R369: a query in range joins the store's queries, with its expiry, and its thread is offered a context. -/
theorem vecQuery_launches {q : QueryParams} {comps : List (BitVec 16)} (hlen : comps.length = q.count)
    (hdim : q.count = x.p.dim) (hk : 1 ≤ q.k ∧ q.k ≤ 1024) (hef : q.k ≤ q.ef ∧ q.ef ≤ 4096)
    (hrerank : q.k ≤ q.rerank ∧ q.rerank ≤ 4096) (hdeadline : q.deadline ≤ 4096)
    (hnew : (s.dev.rtv.queries.any fun q => q.cmd == h) = false) :
    serveVecQuery h store q comps s.dev = placeQuery (addTimer { s.dev with rtv.queries := s.dev.rtv.queries ++
      [{ cmd := h, key := key, gen := x.gen, sideVer := (sideAt x h.tick).1, side := (sideAt x h.tick).2, q := q,
         vec := compsOf comps, expiry := none, place := none }] } .query
      (h.tick + if q.deadline = 0 then 64 else q.deadline) h.seq h.tag) h.seq := by
  refine (if_neg (Bool.eq_false_iff.1 hnew)).trans ((onChannel_issued hi 0x0506 _).trans
    ((checked_ok h 0x0506 _ ?ranges).trans ?_))
  case ranges =>
    simp [firstFail, hlen, Nat.one_le_iff_ne_zero.1 hk.1, Nat.not_lt.2 hk.2, Nat.not_lt.2 hef.1, Nat.not_lt.2 hef.2,
      Nat.not_lt.2 hrerank.1, Nat.not_lt.2 hrerank.2, Nat.not_lt.2 hdeadline]
  simp only [hlive]
  exact checked_ok h 0x0506 _ (by simp [firstFail, hdim])

end LiveStore

end Commands

/-- R359: an insert whose turn has not come waits. -/
theorem vecInsert_waits {d : Dev} {h : CmdHdr} {store : Nat} (count user : Nat) (comps : List (BitVec 16))
    (hturn : updateTurn d h store = false) : serveVecInsert h store count user comps d = d :=
  if_pos (by simp [hturn])

/-- R359: a delete whose turn has not come waits. -/
theorem vecDelete_waits {d : Dev} {h : CmdHdr} {store : Nat} (vid : Nat) (hturn : updateTurn d h store = false) :
    serveVecDelete h store vid d = d :=
  if_pos (by simp [hturn])

/-- Settles O29: each clause is what its command does where the checks pass, or where the first one fails. -/
theorem storeCommandsComplete : Obligations.StoreCommandsComplete := by
  refine ⟨fun s h hi => ⟨?create, ?live, ?stale⟩,
    fun s h store key x hi hlive => ⟨?waits, ?insert, ?delete, ?notFound, ?query⟩⟩
  case create =>
    intro l p fs d1 hlocal hrange hunused hgen hcap halloc
    exact serve_eq_did (f := serveStoreCreate h l p) hi.1
      (storeCreate_creates hi hlocal hrange hunused hgen hcap halloc)
  case live =>
    intro store key x hlive
    exact ⟨serve_eq_did (f := serveStoreDrop h store) hi.1 (storeDrop_retires hi hlive),
      fun hidle => serve_eq_did (f := serveStoreMerge h store) hi.1 (storeMerge_waits hi hlive hidle)⟩
  case stale =>
    intro store hlive
    exact serve_eq_did (f := serveStoreDrop h store) hi.1 (storeDrop_stale hi hlive)
  case waits =>
    intro count user vid comps hturn
    exact ⟨serve_eq_did (f := serveVecInsert h store count user comps) hi.1 (vecInsert_waits count user comps hturn),
      serve_eq_did (f := serveVecDelete h store vid) hi.1 (vecDelete_waits vid hturn)⟩
  case insert =>
    intro count user slot comps hturn hlen hdim hgood hside hfree
    exact serve_eq_did (f := serveVecInsert h store count user comps) hi.1
      (vecInsert_inserts hi hlive hturn hlen hdim hgood hside hfree)
  case delete =>
    intro vid slot n hturn hfound
    exact serve_eq_did (f := serveVecDelete h store vid) hi.1 (vecDelete_deletes hi hlive hturn hfound)
  case notFound =>
    intro vid hturn hfound
    exact serve_eq_did (f := serveVecDelete h store vid) hi.1 (vecDelete_notFound hi hlive hturn hfound)
  case query =>
    intro q comps hlen hdim hk1 hk hef1 hef hrerank1 hrerank hdeadline hnew
    exact serve_eq_did (f := serveVecQuery h store q comps) hi.1
      (vecQuery_launches hi hlive hlen hdim ⟨hk1, hk⟩ ⟨hef1, hef⟩ ⟨hrerank1, hrerank⟩ hdeadline hnew)

end Sys2Proof.Machine
end

section
/-!
PROOFS. Retrieval at work: how a query ends, a merge round, the slots that a round frees, and what a query sees (R363, R367 to
R369, R371 to R375).
-/

namespace Sys2Proof.Machine

/-! ## Queries (R363, R367 to R369) -/

/-- R363: a used node is visible from the tick after its insert to the tick of its delete. -/
theorem visible_iff (n : Node) (t : Nat) : visible n t = true ↔
    n.used = true ∧ n.insTick < t ∧ (n.delTick = none ∨ ∃ x, n.delTick = some x ∧ t ≤ x) := by
  cases hdel : n.delTick <;> simp [visible, hdel, and_assoc]

/-- R367: a query that holds its context and its ADC unit keeps them. -/
theorem placeQuery_placed {d : Dev} {q : Query} {seq : Nat}
    (hfind : (d.rtv.queries.find? fun r => r.cmd.seq == seq) = some q) (hplace : q.place.isSome = true) :
    placeQuery d seq = d := by
  simp only [placeQuery, hfind, hplace, Bool.true_or, if_true]

/-- R367 to R369: a placed query whose slots have come, in time and with no bad codeword in its store, answers its results. -/
theorem completeQuery_answers {d d1 : Dev} {q : Query} {x : Store} {cycle : Nat} {r : List (Nat × Node × F32) × Nat × Bool}
    (hfind : (d.rtv.queries.find? fun r => r.cmd.seq == q.cmd.seq) = some q) (hplace : q.place.isSome = true)
    (hthread : kernelSlot d (rtvClusters d) q.cmd.part = true) (hadc : svcSlot d .adc q.cmd.part = true)
    (h1 : stampAt d 17 0x10 0 q.cmd.part q.cmd.tag cycle = d1) (htime : expiredAt d1 .query q.cmd.seq = none)
    (hstore : tget d1.rtv.stores q.key = some x) (hgood : badAmong d1 x.frames = none)
    (hr : runQuery x q.side q.q q.vec q.cmd.tick = r) (hcap : r.2.2 = false) :
    completeQuery q.cmd.seq cycle d = replyBody (meter (countEvent
      (bump (endQuery (bumpBy d1 Addr.RTV_STALE_EDGES r.2.1) q) Addr.RTV_QUERY_CNT) q.cmd.part 8 1) q.cmd.part 7 1)
      q.cmd 0x0506 stOk (leBytes 2 r.1.length ++ leBytes 14 0 ++ (r.1.map (resultBytes x.p.metric)).flatten) := by
  have hruns : (q.place.isNone || !kernelSlot d (rtvClusters d) q.cmd.part || !svcSlot d .adc q.cmd.part) = false := by
    simp [hthread, hadc, hplace]
  simp only [completeQuery, placeQuery_placed hfind hplace, hfind, hruns, h1, htime, hstore, hgood, hr, hcap,
    Option.isSome_none, Bool.false_eq_true, if_false]

/-- R369: a query whose expiry was stamped first ends late. -/
theorem expireQuery_late {d : Dev} {q : Query} {seq : Nat}
    (hfind : (d.rtv.queries.find? fun r => r.cmd.seq == seq) = some q)
    (hexp : (expiredAt d .query seq).isSome = true) : expireQuery seq d = lateQuery d q := by
  simp only [expireQuery, hfind, hexp, if_true]

/-! ## Merge rounds (R371 to R375) -/

/-- R371 to R375: a round of a due store that has its codebook, that nothing holds up and that no command awaits. -/
theorem mergeRound_merges {d : Dev} {key : Nat} {x : Store} (hcold : d.pwr.fumarole = false) (hdue : nextDue d = some key)
    (hstore : tget d.rtv.stores key = some x) (hread : otherRead d key x = false)
    (hwindow : x.frames.any (inWindow d) = false) (hgood : badAmong d x.frames = none) (hbook : x.book.isSome = true)
    (hcmd : x.mergeCmd = none) :
    let r := mergeStore x d.tick (horizon d key x)
    mergeRound key d = bumpBy (bumpBy (bump (setStore d key { r.1 with mergeCmd := none })
      Addr.RTV_MERGE_ROUND_CNT) Addr.RTV_SLOT_QUAR_CNT r.2.1) Addr.RTV_VISIT_CAP_CNT r.2.2 := by
  have hbuilt : x.book.isNone = false := Option.isNone_eq_false_iff.2 hbook
  simp only [mergeRound, hdue, hcold, hstore, hread, hwindow, hgood, hbuilt, hcmd, ne_eq, not_true_eq_false,
    Bool.false_eq_true, Bool.or_self, or_self, false_and, if_false]

/-- R374: PEND stays only on the slots that a query from before their round may still reach. -/
theorem clearPend_clears {d : Dev} {key : Nat} {x : Store} (hstore : tget d.rtv.stores key = some x) :
    clearPend key d = setStore d key
      { x with nodes := tmap (fun n => { n with pend := n.pend && olderQuery d key x n.pendAt }) x.nodes } := by
  simp only [clearPend, hstore]

/-- Settles O30: a query's end, its expiry, a merge round and the clearing of PEND, and what visibility is. -/
theorem retrievalWorkCompletes : Obligations.RetrievalWorkCompletes := by
  refine ⟨fun s hs => ⟨?complete, ?expiry, ?merge, ?pend⟩, visible_iff⟩
  case complete =>
    intro q x cycle hfind hplace hthread hadc d1 htime hstore hgood r hcap
    exact serve_eq_did (f := completeQuery q.cmd.seq cycle) hs
      (completeQuery_answers hfind hplace hthread hadc rfl htime hstore hgood rfl hcap)
  case expiry =>
    intro q hfind hexp
    exact serve_eq_did (f := expireQuery q.cmd.seq) hs (expireQuery_late hfind hexp)
  case merge =>
    intro key x hpower hcold hslot hdue hstore hread hwindow hgood hbook hcmd r
    exact serve_eq_did (f := background 5 2 true (mergeRound key)) hs ((background_ok 5 2 true _ hpower hcold hslot).trans
      (congrArg (noteBg 5) (mergeRound_merges hcold hdue hstore hread hwindow hgood hbook hcmd)))
  case pend =>
    intro key x hstore
    exact serve_eq_did (f := clearPend key) hs (clearPend_clears hstore)

end Sys2Proof.Machine
end

section
/-!
PROOFS. The Vent cores: general registers, the integer, control and system classes and the end of a wait (R380, R382 to R386,
R397), and loads, stores and atomics of the arena with what a store leaves (R387, R388, R390).
-/

namespace Sys2Proof.Machine

/-! ## General registers (R382) -/

@[simp] theorem gget_zero (x : VCtx) : gget x 0 = 0 := rfl

@[simp] theorem gset_zero (x : VCtx) (v : VReg) : gset x 0 v = x := rfl

/-- A register other than g0 holds what it was given. -/
theorem gget_gset_self {x : VCtx} {r : Nat} (v : VReg) (h0 : r ≠ 0) (hr : r < x.regs.length) :
    gget (gset x r v) r = v := by simp [gget, gset, h0, hr]

theorem gget_gset_ne {x : VCtx} {r k : Nat} (v : VReg) (h : k ≠ r) : gget (gset x r v) k = gget x k := by
  by_cases h0 : r = 0
  · rw [h0, gset_zero]
  · simp [gget, gset, h0, List.getElem?_set_ne h.symm]

@[simp] theorem gset_regs_length (x : VCtx) (r : Nat) (v : VReg) : (gset x r v).regs.length = x.regs.length := by
  unfold gset; split
  · rfl
  · exact List.length_set

/-- A result in its register, and the next instruction. -/
theorem retire_eq (d : Dev) (c : CtxId) (x : VCtx) (r : Nat) (v : VReg) :
    retire d c x r v = setCtx d c { gset x r v with pc := x.pc + 4 } := by simp [retire, fallThrough, gset_pc]

/-! ## The integer class (R383, R384) -/

/-- The immediate of a second operand; a register has none. -/
def immOf : Src2 → BitVec 16
  | .reg _ => 0
  | .imm i => i

/-- The low half-word of a sign-extended immediate is the immediate. -/
theorem setWidth_signExtend_imm (i : BitVec 16) : (i.signExtend 64).setWidth 16 = i := by
  refine BitVec.eq_of_getElem_eq fun k hk => ?_
  rw [BitVec.getElem_setWidth, BitVec.getLsbD_signExtend]
  simp [hk, show k < 64 by omega]

section Ready

variable {d : Dev} {c : CtxId} {x : VCtx} (hc : CtxReady d c x)
include hc

/-- R380, R384: an operation that is no division gives its result at once. -/
theorem ventInteger_retires {op : IntOp} {rd rs1 : Nat} {b : Src2} (hassigned : op ≠ .illegal) (hdiv : op ≠ .div)
    (hrem : op ≠ .rem) (hfits : (rowInteger op rd rs1 b).fits (codeWord d c x) = true) :
    ventInteger c op rd rs1 b d =
      retire (turnTo d c false) c x rd (intResult op (gget x rs1) (src2 x b) (immOf b)) := by
  have hruns : (rowInteger op rd rs1 b).waits = false := by simp [rowInteger, hdiv, hrem]
  refine (issue_ready _ hc hfits).trans ?_
  rw [hruns]
  cases op
  case illegal => exact absurd rfl hassigned
  case div => exact absurd rfl hdiv
  case rem => exact absurd rfl hrem
  all_goals cases b <;> rfl

/-- R18, R380: a division waits for its quotient or remainder. -/
theorem ventInteger_divides {op : IntOp} {rd rs1 : Nat} {b : Src2} (hop : op = .div ∨ op = .rem) (hb : src2 x b ≠ 0)
    (hfits : (rowInteger op rd rs1 b).fits (codeWord d c x) = true) :
    ventInteger c op rd rs1 b d =
      hold (turnTo d c true) c x (.result rd (divResult op (gget x rs1) (src2 x b))) := by
  refine (issue_ready _ hc hfits).trans ?_
  rcases hop with rfl | rfl <;> exact if_neg hb

/-- R397: a division by zero ends its thread. -/
theorem ventInteger_by_zero {op : IntOp} {rd rs1 : Nat} {b : Src2} (hop : op = .div ∨ op = .rem) (hb : src2 x b = 0)
    (hfits : (rowInteger op rd rs1 b).fits (codeWord d c x) = true) :
    ventInteger c op rd rs1 b d = endThread (turnTo d c true) c 8 := by
  refine (issue_ready _ hc hfits).trans ?_
  rcases hop with rfl | rfl <;> exact if_pos hb

/-! ## The control and system classes -/

/-- A conditional branch leads to its target where its condition holds, else to the next instruction. -/
theorem ventControl_branches {op : CtlOp} {rs1 rs2 : Nat} {disp : Int}
    (hop : op ∈ [CtlOp.beq, .bne, .blt, .bge, .bltu, .bgeu])
    (hfits : (rowControl op rs1 rs2 disp).fits (codeWord d c x) = true) :
    ventControl c op rs1 rs2 disp d = setCtx (turnTo d c false) c { x with
      pc := if taken op (gget x rs1) (gget x rs2) then branchTo x.pc disp else x.pc + 4 } := by
  refine (issue_ready _ hc hfits).trans ?_
  simp only [List.mem_cons, List.not_mem_nil, or_false] at hop
  rcases hop with rfl | rfl | rfl | rfl | rfl | rfl <;> rfl

/-- R402: a request of a Vent context whose package uses the device view waits for its unit. -/
theorem deviceViewRequest_waits {rd rs1 : Nat} (hvent : c.mudpot = false) (hdev : (pkgOf d x).2.device = true)
    (hfits : (rowSystem true).fits (codeWord d c x) = true) :
    deviceViewRequest c rd rs1 d = hold (turnTo d c true) c x (.device rd) := by
  have hopen : ¬ c.mudpot = true := by simp [hvent]
  exact (issue_ready _ hc hfits).trans ((if_neg hopen).trans (if_pos hdev))

end Ready

/-- R380: a wait ends as its kind says. -/
theorem waitSatisfied_eq {d : Dev} {c : CtxId} {x : VCtx} (hx : ctxOf d c = some x) :
    (x.wait = some .plain → waitSatisfied c d = setCtx d c { x with wait := none }) ∧
    (∀ rd v, x.wait = some (.result rd v) → waitSatisfied c d = setCtx d c (gset { x with wait := none } rd v)) ∧
    (∀ rd lo hi, x.wait = some (.result2 rd lo hi) →
      waitSatisfied c d = setCtx d c (vset { x with wait := none } rd (hi ++ lo))) ∧
    (∀ rd, x.wait = some (.device rd) → waitSatisfied c d =
      freeNext (setCtx d c (gset { x with wait := none } rd (BitVec.ofNat 64 (Config.freeNat d.freeCnt))))) := by
  refine ⟨fun hw => ?_, fun rd v hw => ?_, fun rd lo hi hw => ?_, fun rd hw => ?_⟩ <;> simp only [waitSatisfied, hx, hw]

/-- Settles O52: each row's effect on the thread of a ready context, the end of each kind of wait, and the registers. -/
theorem ventScalarRowsComplete : Obligations.VentScalarRowsComplete := by
  refine ⟨fun s c x hs hc => ⟨?retires, ?divides, ?byZero, ?control, ?system⟩, fun s c x hs hx => ?waits,
    fun x r k v hlen hr => ?registers⟩
  case retires =>
    intro op rd rs1 b hassigned hdiv hrem hfits
    refine serve_eq_did (f := ventInteger c op rd rs1 b) hs ((ventInteger_retires hc hassigned hdiv hrem hfits).trans ?_)
    rw [retire_eq]
    cases b with
    | reg r => rfl
    | imm i => simp only [immOf, src2, setWidth_signExtend_imm, if_true]
  case divides =>
    intro op rd rs1 b hop hb hfits
    exact serve_eq_did (f := ventInteger c op rd rs1 b) hs (ventInteger_divides hc hop hb hfits)
  case byZero =>
    intro op rd rs1 b hop hb hfits
    exact serve_eq_did (f := ventInteger c op rd rs1 b) hs (ventInteger_by_zero hc hop hb hfits)
  case control =>
    intro rs1 rs2 disp
    refine ⟨fun hfits => ?_, fun hfits => ?_, fun hfits => ?_, fun op hop hfits => ?_⟩
    · exact serve_issue_ready _ hs hc hfits
    · exact serve_issue_ready _ hs hc hfits
    · exact serve_issue_ready _ hs hc hfits
    · exact serve_eq_did (f := ventControl c op rs1 rs2 disp) hs (ventControl_branches hc hop hfits)
  case system =>
    intro hfits
    refine ⟨?_, ?_, ?_, fun rd rs1 hvent hdev => ?_⟩
    · exact serve_issue_ready (r := rowSystem true) _ hs hc hfits
    · exact serve_issue_ready (r := rowSystem false) _ hs hc hfits
    · exact serve_issue_ready (r := rowSystem false) _ hs hc hfits
    · exact serve_eq_did (f := deviceViewRequest c rd rs1) hs (deviceViewRequest_waits hc hvent hdev hfits)
  case waits =>
    obtain ⟨hplain, hresult, hresult2, hdevice⟩ := waitSatisfied_eq hx
    have row {t : Dev} (ht : waitSatisfied c s.dev = t) : exec (.waitSatisfied c) s = did s t :=
      serve_eq_did (f := waitSatisfied c) hs ht
    exact ⟨fun hw => row (hplain hw), fun rd v hw => row (hresult rd v hw),
      fun rd lo hi hw => row (hresult2 rd lo hi hw), fun rd hw => ⟨_, row (hdevice rd hw)⟩⟩
  case registers =>
    exact ⟨gget_zero x, gset_zero x v, fun h0 => gget_gset_self v h0 (hlen ▸ hr), gget_gset_ne v,
      (gset_regs_length x r v).trans hlen⟩

/-! ## Loads, stores and atomics of the arena (R385 to R388, R390) -/

section Arena

variable {d : Dev} {c : CtxId} {x : VCtx} {base : Nat} {off : BitVec 16}

/-- R385, R386: an aligned access of the arena view reads the arena's bytes. -/
theorem readAt_arena {a n : Nat} (ha : a < 2 ^ 60) (hin : a + n ≤ (pkgOf d x).2.arenaBytes) (hal : a % n = 0) :
    readAt d c x a n =
      .data (Memory.readBytes d.vnt.arena (arenaBase c (pkgOf d x).1 (pkgOf d x).2 + a) n) := by
  simp only [readAt, Nat.div_eq_of_lt ha, Nat.mod_eq_of_lt ha, hal, Nat.not_lt.2 hin, ne_eq, not_true_eq_false, if_true,
    if_false]

/-- R380: a load of the arena's bytes waits for them: 16 in a vector register, fewer in a general one. -/
theorem ventLoad_arena {n : Nat} {sg : Bool} {rd : Nat} {l : List Byte} (hc : CtxReady d c x)
    (hfits : (rowMemory true rd base off).fits (codeWord d c x) = true)
    (hread : readAt (turnTo d c true) c x (memAddr x base off) n = .data l) :
    ventLoad c n sg rd base off d = hold (freeNext (turnTo d c true)) c x
      (if n = 16 then .result2 rd (BitVec.ofNat 64 (leNat (l.take 8))) (BitVec.ofNat 64 (leNat (l.drop 8)))
        else .result rd (extendTo sg n l)) := by
  have hwaits : (rowMemory true rd base off).waits = true := rfl
  refine (issue_ready _ hc hfits).trans ?_
  rw [hwaits]
  simp only [hread]
  split <;> rfl

/-- The device after a store of `l` at address `w` of the arenas by context c. -/
def arenaStored (d : Dev) (c : CtxId) (x : VCtx) (w : Nat) (l : List Byte) : Dev :=
  setCtx { turnTo d c false with vnt.arena := Memory.writeBytes d.vnt.arena w l } c { x with pc := x.pc + 4 }

/-- R385, R386, R388: a store in the arena view faults beyond the arena, else off its alignment, else writes. -/
theorem ventStore_arena {n rs : Nat} (hc : CtxReady d c x)
    (hfits : (rowMemory false rs base off).fits (codeWord d c x) = true) (ha : memAddr x base off < 2 ^ 60) :
    ventStore c n rs base off d =
      if (pkgOf d x).2.arenaBytes < memAddr x base off + n then endThread (turnTo d c false) c 2
      else if memAddr x base off % n ≠ 0 then endThread (turnTo d c false) c 3
      else arenaStored d c x (arenaBase c (pkgOf d x).1 (pkgOf d x).2 + memAddr x base off) (storeSource x n rs) := by
  refine (issue_ready _ hc hfits).trans ?_
  simp only [Nat.div_eq_of_lt ha, Nat.mod_eq_of_lt ha, if_true]
  rfl

/-- R390: an atomic of a Vent context on an aligned word of its arena writes the new value and waits for the old one. -/
theorem ventAtomic_arena {op : AtomicOp} {rd rs1 rs2 w : Nat} {old : VReg} (hc : CtxReady d c x)
    (hfits : (rowAtomic op rd rs1 rs2).fits (codeWord d c x) = true) (hop : op ≠ .illegal) (hvent : c.mudpot = false)
    (hin : (gget x rs1).toNat + 8 ≤ (pkgOf d x).2.arenaBytes) (ha : (gget x rs1).toNat < 2 ^ 60)
    (hal : (gget x rs1).toNat % 8 = 0) (hw : arenaBase c (pkgOf d x).1 (pkgOf d x).2 + (gget x rs1).toNat = w)
    (hvalue : BitVec.ofNat 64 (leNat (Memory.readBytes d.vnt.arena w 8)) = old) :
    ventAtomic c op rd rs1 rs2 d = hold { turnTo d c true with
      vnt.arena := Memory.writeBytes d.vnt.arena w (leBytes 8 (atomicNew op old (gget x rs2) (gget x rd)).toNat) } c x
      (.result rd old) := by
  subst hw hvalue
  have hopen : ¬ (op = .illegal ∨ c.mudpot = true) := by simp [hop, hvent]
  have hview : ¬ ((gget x rs1).toNat / 2 ^ 60 ≠ 0 ∨ (pkgOf d x).2.arenaBytes < (gget x rs1).toNat + 8) :=
    not_or.2 ⟨not_not_intro (Nat.div_eq_of_lt ha), Nat.not_lt.2 hin⟩
  exact (issue_ready _ hc hfits).trans ((if_neg hopen).trans ((if_neg hview).trans (if_neg (not_not_intro hal))))

end Arena

/-- Settles O53: each clause is the row's effect on the thread of a ready context whose address lies in the arena view. -/
theorem ventMemoryRowsComplete : Obligations.VentMemoryRowsComplete := by
  intro s c x base off hs hc a i w
  refine ⟨?load, ?load16, ?store, ?beyond, ?misaligned, ?atomic⟩
  case load =>
    intro n sg rd hn hin ha hal hfits
    have hscalar : n ≠ 16 := by rintro rfl; simp at hn
    refine serve_eq_did (f := ventLoad c n sg rd base off) hs
      ((ventLoad_arena hc hfits (readAt_arena ha hin hal)).trans ?_)
    rw [if_neg hscalar]
    rfl
  case load16 =>
    intro rd hin ha hal hfits
    exact serve_eq_did (f := ventLoad c 16 false rd base off) hs (ventLoad_arena hc hfits (readAt_arena ha hin hal))
  case store =>
    intro n rs _ hin ha hal hfits
    refine serve_eq_did (f := ventStore c n rs base off) hs ((ventStore_arena hc hfits ha).trans ?_)
    rw [if_neg (Nat.not_lt.2 hin), if_neg (not_not_intro hal)]
    rfl
  case beyond =>
    intro n rs _ hin ha hfits
    exact serve_eq_did (f := ventStore c n rs base off) hs ((ventStore_arena hc hfits ha).trans (if_pos hin))
  case misaligned =>
    intro n rs _ hin ha hal hfits
    refine serve_eq_did (f := ventStore c n rs base off) hs ((ventStore_arena hc hfits ha).trans ?_)
    rw [if_neg (Nat.not_lt.2 hin), if_pos hal]
  case atomic =>
    intro op rd rs1 rs2 hop hvent b old hin ha hal hfits
    exact serve_eq_did (f := ventAtomic c op rd rs1 rs2) hs (ventAtomic_arena hc hfits hop hvent hin ha hal rfl rfl)

/-! ## What an arena store leaves (R388, R390) -/

/-- R74, R609, R651: an event moves the ledger, the power state and the counters among the registers, and nothing else. -/
theorem stampAt_changes (d : Dev) (a b c e f g : Nat) :
    ∃ l p r, stampAt d a b c e f g = { d with led := l, pwr := p, reg := r } := by
  unfold stampAt captureRec noteInput wake
  dsimp only
  split_ifs <;> exact ⟨_, _, _, rfl⟩

@[simp] theorem stampAt_pg (d : Dev) (a b c e f g : Nat) : (stampAt d a b c e f g).pg = d.pg := by
  obtain ⟨_, _, _, h⟩ := stampAt_changes d a b c e f g
  rw [h]

@[simp] theorem stampAt_vnt (d : Dev) (a b c e f g : Nat) : (stampAt d a b c e f g).vnt = d.vnt := by
  obtain ⟨_, _, _, h⟩ := stampAt_changes d a b c e f g
  rw [h]

@[simp] theorem workDone_pg (d : Dev) (a b c e : Nat) : (workDone d a b c e).pg = d.pg := stampAt_pg ..

@[simp] theorem workDone_vnt (d : Dev) (a b c e : Nat) : (workDone d a b c e).vnt = d.vnt := stampAt_vnt ..

/-- The end of a thread writes no page and no arena, and touches no session. -/
theorem endThread_frame (d : Dev) (c : CtxId) (fault : Nat) : (endThread d c fault).pg = d.pg ∧
    (endThread d c fault).sess = d.sess ∧ (endThread d c fault).vnt.arena = d.vnt.arena := by
  unfold endThread
  split
  · exact ⟨rfl, rfl, rfl⟩
  · simp only [apply_ite Dev.pg, apply_ite Dev.sess, apply_ite Dev.vnt, modLaunch, bump_pg, bump_sess, bump_vnt,
      workDone_pg, workDone_sess, workDone_vnt, ite_self, and_self]

/-- Nothing happens where the word at the program counter cannot be the row's instruction (log 9). -/
theorem issue_unfit {d : Dev} {c : CtxId} {x : VCtx} {r : VRow} (k : Dev → VCtx → Dev) (hc : CtxReady d c x)
    (hr : r.fits (codeWord d c x) = false) : issue d c r k = d := by
  obtain ⟨hx, hwait, hslot, hturn, hview, halign⟩ := hc
  simp [issue, hx, hwait, hslot, hturn, Nat.not_le.2 hview, halign, hr]

/-- What a row of a store in the arena view does on a ready context. -/
theorem ventStore_cases {d : Dev} {c : CtxId} {x : VCtx} {base : Nat} {off : BitVec 16} (n rs : Nat)
    (hc : CtxReady d c x) (ha : memAddr x base off < 2 ^ 60) :
    ventStore c n rs base off d = d ∨
    (∃ fault, ventStore c n rs base off d = endThread (turnTo d c false) c fault) ∨
    ventStore c n rs base off d =
      arenaStored d c x (arenaBase c (pkgOf d x).1 (pkgOf d x).2 + memAddr x base off) (storeSource x n rs) := by
  cases hfits : (rowMemory false rs base off).fits (codeWord d c x) with
  | false => exact .inl (issue_unfit _ hc hfits)
  | true =>
    have hstore := ventStore_arena (n := n) hc hfits ha
    split_ifs at hstore
    · exact .inr (.inl ⟨_, hstore⟩)
    · exact .inr (.inl ⟨_, hstore⟩)
    · exact .inr (.inr hstore)

@[simp] theorem leBytes_length (n v : Nat) : (leBytes n v).length = n := by
  induction n generalizing v with
  | zero => rfl
  | succ n ih => exact congrArg (· + 1) (ih _)

@[simp] theorem storeSource_length (x : VCtx) (n rs : Nat) : (storeSource x n rs).length = n := by
  unfold storeSource; split
  next h => rw [leBytes_length, h]
  next => exact leBytes_length ..

/-- Settles O54: a store changes nothing, ends its thread, or writes its bytes into the arena. -/
theorem arenaStoreFrame : Obligations.ArenaStoreFrame := by
  intro s c x n rs base off t hs hc _ ha hwf hexec w
  cases (serve_eq_did (f := ventStore c n rs base off) hs rfl).symm.trans hexec
  rcases ventStore_cases n rs hc ha with hsame | ⟨fault, hfault⟩ | hwrites
  · simp only [hsame]
    exact ⟨trivial, trivial, hwf, fun _ _ => trivial⟩
  · obtain ⟨hpg, hsess, harena⟩ := endThread_frame (turnTo s.dev c false) c fault
    simp only [hfault, hpg, hsess, harena]
    exact ⟨rfl, rfl, hwf, fun _ _ => rfl⟩
  · simp only [hwrites]
    refine ⟨rfl, rfl, Memory.wf_writeBytes _ _ hwf, fun k hk => ?_⟩
    refine (Memory.read_writeBytes _ _ k hwf).trans (if_neg ?_)
    rwa [storeSource_length]

end Sys2Proof.Machine
end

section
/-!
PROOFS. Write grants of the Mudpot cores: the request, the write under a grant and the release, and what each leaves (R407 to
R410).
-/

namespace Sys2Proof.Machine

/-! ## What the stamp of a request leaves -/

@[simp] theorem stampAt_lah (d : Dev) (a b c e f g : Nat) : (stampAt d a b c e f g).lah = d.lah := by
  obtain ⟨_, _, _, h⟩ := stampAt_changes d a b c e f g
  rw [h]

@[simp] theorem stampAt_reqs (d : Dev) (a b c e f g : Nat) : (stampAt d a b c e f g).reqs = d.reqs := by
  obtain ⟨_, _, _, h⟩ := stampAt_changes d a b c e f g
  rw [h]

@[simp] theorem grantable_stampAt (d : Dev) (a b c e f g spn fr : Nat) :
    grantable (stampAt d a b c e f g) spn fr = grantable d spn fr := by simp [grantable, pte, frame, uncaptured]

@[simp] theorem grantOwn_stampAt (d : Dev) (a b e f g h : Nat) (c : CtxId) (spn : Nat) :
    grantOwn (stampAt d a b e f g h) c spn = grantOwn d c spn := by
  simp [grantOwn, ctxOf, pkgOf, launchOf, pkg]

@[simp] theorem pte_stampAt (d : Dev) (a b c e f g spn : Nat) : pte (stampAt d a b c e f g) spn = pte d spn := by
  simp [pte]

/-! ## The request of a grant (R407, R409, R411) -/

/-- R409: a RAW page that is granted SEALED is encoded anew, and counted. -/
def sealAnew (d : Dev) (f : Nat) (wasRaw raw : Bool) : Dev :=
  if wasRaw && !raw then bump (resealFrame d f) Addr.MUD_RESEAL_CNT else d

@[simp] theorem sealAnew_pg (d : Dev) (f : Nat) (w r : Bool) : (sealAnew d f w r).pg = d.pg := by
  unfold sealAnew; split <;> rfl

@[simp] theorem sealAnew_vnt (d : Dev) (f : Nat) (w r : Bool) : (sealAnew d f w r).vnt = d.vnt := by
  unfold sealAnew; split <;> rfl

@[simp] theorem sealAnew_sess (d : Dev) (f : Nat) (w r : Bool) : (sealAnew d f w r).sess = d.sess := by
  unfold sealAnew; split <;> rfl

@[simp] theorem sealAnew_reqs (d : Dev) (f : Nat) (w r : Bool) : (sealAnew d f w r).reqs = d.reqs := by
  unfold sealAnew; split <;> rfl

/-- The device with a grant of c on page spn in frame f given in mode `raw`, its page's RAW having been `wasRaw`. -/
def grantGiven (d : Dev) (c : CtxId) (spn f : Nat) (wasRaw raw : Bool) : Dev :=
  let d1 := modPte (sealAnew d f wasRaw raw) spn fun q => { q with raw := raw }
  bump { d1 with vnt.grants := d1.vnt.grants ++ [⟨c, spn, f, raw, c.core / 32, false⟩] } Addr.MUD_GRANT_CNT

section Request

variable {d d1 : Dev} {c : CtxId} {spn f cycle : Nat} (raw : Bool) (hmud : c.mudpot = true)
  (hbg : stackBg d (c.core / 32) = true) (hwindow : inWindow d f = false)
  (h1 : stampAt d 20 0x09 0 (frameOwner d f) spn cycle = d1)
include hmud hbg hwindow h1

/-- R407: a request whose conditions hold is granted. -/
theorem writeGrantRequest_grants {q : Pte} (hpage : grantable d1 spn f = true) (hown : grantOwn d1 c spn = true)
    (hmine : (d1.vnt.grants.filter fun g => g.ctx == c).length < 4)
    (hstack : (d1.vnt.grants.filter fun g => g.stack == c.core / 32).length < 512) (hq : pte d1 spn = some q) :
    writeGrantRequest c spn f raw cycle d = grantGiven d1 c spn f q.raw raw := by
  unfold writeGrantRequest
  rw [if_neg (by simp [hmud, hbg, hwindow]), h1]
  exact (if_pos (by simp [hpage, hown, hmine, hstack])).trans (by rw [hq]; rfl)

/-- R407: any other request is refused, and counted. -/
theorem writeGrantRequest_refuses (hno : (grantable d1 spn f && grantOwn d1 c spn &&
      decide ((d1.vnt.grants.filter fun g => g.ctx == c).length < 4) &&
      decide ((d1.vnt.grants.filter fun g => g.stack == c.core / 32).length < 512)) = false) :
    writeGrantRequest c spn f raw cycle d = bump d1 Addr.MUD_REFUSE_CNT := by
  unfold writeGrantRequest
  rw [if_neg (by simp [hmud, hbg, hwindow]), h1]
  exact if_neg (by rw [hno]; decide)

end Request

/-! ## A write under a grant, and the release (R408 to R410) -/

section Write

variable {d : Dev} {c : CtxId} {spn off : Nat} {data : List Byte}

/-- R408, R409: a write under a grant that stands, in the stack, RAW or on codewords that can be corrected. -/
theorem mudpotWrite_writes {g : Grant} (hmud : c.mudpot = true) (hbg : stackBg d (c.core / 32) = true)
    (hlen : off + data.length ≤ 65536) (hg : grantOf d c spn = some g) (hstands : g.revoked = false)
    (hstack : stackHolds d (c.core / 32) g.frame off data.length = true)
    (hgood : g.raw = true ∨ badIn (mendBad d g.frame off data.length false) g.frame off data.length = none) :
    mudpotWrite c spn off data d =
      notePage (writeFrame (mendBad d g.frame off data.length (!g.raw)) g.frame off data) g.spn := by
  have hreads : (if g.raw then none else
      badIn (mendBad d g.frame off data.length false) g.frame off data.length) = none := by
    rcases hgood with hraw | hnone
    · exact if_pos hraw
    · rw [hnone, ite_self]
  unfold mudpotWrite
  rw [if_neg (by simp [hmud, hbg, hlen])]
  simp only [hg, hstands, hstack, Bool.not_true, Bool.false_eq_true, if_false, grantedWrite, hreads]

/-- R408: a write under no grant, or under one that was revoked, changes nothing. -/
theorem mudpotWrite_refused (h : grantOf d c spn = none ∨ ∃ g, grantOf d c spn = some g ∧ g.revoked = true) :
    mudpotWrite c spn off data d = d := by
  unfold mudpotWrite
  split
  · rfl
  · rcases h with hnone | ⟨g, hg, hrevoked⟩
    · rw [hnone]
    · simp only [hg, hrevoked, if_true]

end Write

/-- R408: the release leaves no grant of the context on the page. -/
theorem grantOf_grantRelease (d : Dev) (c : CtxId) (spn : Nat) : grantOf (grantRelease c spn d) c spn = none := by
  refine List.find?_eq_none.2 fun g hg => ?_
  simpa [imp_iff_not_or] using (List.mem_filter.1 hg).2

/-- R408: the release leaves every other grant. -/
theorem mem_grants_grantRelease {d : Dev} {c : CtxId} {spn : Nat} {g : Grant} (h : ¬ (g.ctx = c ∧ g.spn = spn)) :
    g ∈ (grantRelease c spn d).vnt.grants ↔ g ∈ d.vnt.grants := by
  simp only [grantRelease, List.mem_filter]
  exact and_iff_left (by simpa [imp_iff_not_or] using h)

/-- Settles O56: a write under a grant, one under none, a request granted and one refused, and the release. -/
theorem grantRowsComplete : Obligations.GrantRowsComplete := by
  intro s c hs
  refine ⟨?writes, ?refused, ?grants, ?refuses, fun spn => serve_eq_did (f := grantRelease c spn) hs rfl⟩
  case writes =>
    intro spn off data g hmud hbg hlen hg hstands hstack hgood
    exact serve_eq_did (f := mudpotWrite c spn off data) hs (mudpotWrite_writes hmud hbg hlen hg hstands hstack hgood)
  case refused =>
    intro spn off data h
    exact serve_eq_did (f := mudpotWrite c spn off data) hs (mudpotWrite_refused h)
  case grants =>
    intro spn f cycle raw q hmud hbg hwindow d hpage hown hmine hstack hq d1
    exact serve_eq_did (f := writeGrantRequest c spn f raw cycle) hs
      (writeGrantRequest_grants raw hmud hbg hwindow rfl hpage hown hmine hstack hq)
  case refuses =>
    intro spn f cycle raw hmud hbg hwindow d hno
    exact serve_eq_did (f := writeGrantRequest c spn f raw cycle) hs
      (writeGrantRequest_refuses raw hmud hbg hwindow rfl hno)

/-! ## What grants and granted writes leave (R407 to R409) -/

/-- A value that a table holds, modified. -/
theorem tget_tmod_self {α : Type} {t : Tbl α} {k : Nat} {v : α} (g : α → α) (h : tget t k = some v) :
    tget (tmod t k g) k = some (g v) := by simp only [tmod, h, tget_tset_self]

/-- R407: a grant given stands in the table of grants, sets RAW of its page's entry, and leaves HBM, sessions and requests. -/
theorem grantGiven_frame {d : Dev} {spn : Nat} {q : Pte} (c : CtxId) (f : Nat) (raw : Bool) (hq : pte d spn = some q) :
    (grantGiven d c spn f q.raw raw).vnt.grants = d.vnt.grants ++ [⟨c, spn, f, raw, c.core / 32, false⟩] ∧
    pte (grantGiven d c spn f q.raw raw) spn = some { q with raw := raw } ∧
    (grantGiven d c spn f q.raw raw).pg.hbm = d.pg.hbm ∧ (grantGiven d c spn f q.raw raw).sess = d.sess ∧
    (grantGiven d c spn f q.raw raw).reqs = d.reqs := by
  have hraw : tget (tmod d.pg.ptes spn fun q => { q with raw := raw }) spn = some { q with raw := raw } :=
    tget_tmod_self _ hq
  simp [grantGiven, modPte, pte, hraw]

/-- R508: the mark of a changed page is the change map's alone. -/
theorem notePage_frame (d : Dev) (spn : Nat) : (notePage d spn).pg = d.pg ∧ (notePage d spn).vnt = d.vnt ∧
    (notePage d spn).sess = d.sess ∧ (notePage d spn).reqs = d.reqs := by
  unfold notePage; split <;> exact ⟨rfl, rfl, rfl, rfl⟩

/-- Bytes written read as they were written. -/
theorem read_writeBytes_within {m : List Host.Cell} (a : Nat) {l : List Byte} {k : Nat} (hwf : Memory.wf m = true)
    (hk : k < l.length) : some (Memory.read (Memory.writeBytes m a l) (a + k)) = l[k]? := by
  rw [Memory.read_writeBytes l a (a + k) hwf, if_pos ⟨Nat.le_add_right a k, Nat.add_lt_add_left hk a⟩,
    Nat.add_sub_cancel_left, List.getElem?_eq_getElem hk]
  rfl

/-- Settles O57: the three rows' effects, read field by field. -/
theorem writeGrantsComplete : Obligations.WriteGrantsComplete := by
  refine ⟨?request, ?write, ?release⟩
  case request =>
    intro s c spn f cycle raw q hs hmud hbg hwindow hpage hown hmine hstack hq
    have hgrants := writeGrantRequest_grants (q := q) (cycle := cycle) raw hmud hbg hwindow rfl (by simpa using hpage)
      (by simpa using hown) (by simpa using hmine) (by simpa using hstack) (by simpa using hq)
    obtain ⟨hadded, hpte, hhbm, hsess, hreqs⟩ := grantGiven_frame (q := q)
      (d := stampAt s.dev 20 0x09 0 (frameOwner s.dev f) spn cycle) c f raw (by simpa using hq)
    simp only [stampAt_vnt, stampAt_pg, stampAt_sess, stampAt_reqs] at hadded hhbm hsess hreqs
    exact ⟨_, serve_eq_did (f := writeGrantRequest c spn f raw cycle) hs hgrants,
      hadded, hpte, hhbm, hsess, hreqs, rfl, rfl⟩
  case write =>
    intro s c spn off data g hs hmud hbg hlen hg hstands hstack hgood hwf
    obtain ⟨hpg, hvnt, hsess, hreqs⟩ := notePage_frame
      (writeFrame (mendBad s.dev g.frame off data.length (!g.raw)) g.frame off data) g.spn
    refine ⟨_, serve_eq_did (f := mudpotWrite c spn off data) hs
      (mudpotWrite_writes hmud hbg hlen hg hstands hstack hgood), ?_⟩
    simp only [hpg, hvnt, hsess, hreqs]
    exact ⟨Memory.wf_writeBytes _ _ hwf, fun k hk => read_writeBytes_within _ hwf hk,
      fun a ha => (Memory.read_writeBytes _ _ a hwf).trans (if_neg ha), rfl, rfl, rfl, rfl, trivial, trivial⟩
  case release =>
    intro s c spn hs
    exact ⟨_, serve_eq_did (f := grantRelease c spn) hs rfl, grantOf_grantRelease s.dev c spn,
      fun g => or_iff_not_imp_left.2 mem_grants_grantRelease, rfl⟩

end Sys2Proof.Machine
end

section
/-!
PROOFS. The kernel packages: a package is loaded, committed and dropped (R391 to R393, R560).
-/

namespace Sys2Proof.Machine

section Packages

variable {s : State} {h : CmdHdr} {o : Nat}

/-- R391, R560: an EMPTY package whose frames can be had is LOADING. -/
theorem serveKernelLoad_loads {n : Nat} {fs : List Nat} {d1 : Dev} (hb : ByOperator s h) (ho : 32 ≤ o) (ho' : o ≤ 255)
    (hlow : 128 ≤ n) (hhigh : n ≤ 0xFFFFFFC0) (hunit : n % 64 = 0) (hst : (pkg s.dev o).img.st = 0)
    (hframes : allocOwnMany s.dev false 0 (ceilDiv n 65536) = .ok (fs, d1)) :
    serveKernelLoad h o n s.dev = reply (setPkg d1 o { Pkg.empty with
      img := { st := 1, length := n, frames := fs, digest := [] } }) h 0x0803 stOk := by
  simp only [serveKernelLoad, onChannel_operator hb]
  rw [checked_ok h 0x0803 _ (by
    simp [firstFail, Nat.not_lt.2 ho, Nat.not_lt.2 ho', Nat.not_lt.2 hlow, Nat.not_lt.2 hhigh, hunit])]
  simp only [hst, hframes, ne_eq, not_true_eq_false, if_false]

/-- R391: an operator package's arena holds its initial data, and zeros behind them. -/
def arenaFilled (m : List Host.Cell) (o : Nat) (img : List Byte) : List Host.Cell :=
  Memory.writeBytes (Memory.clear m (o * 2 ^ 24) (2 ^ 24)) (o * 2 ^ 24)
    ((img.drop (64 + field img 8 4)).take (field img 20 4))

/-- R392: package k as the header of its image has it, committed with its digest and its kernel pages on TARGET 0. -/
def committedPkg (k : Pkg) (digest img : List Byte) (spns : List Nat) : Pkg :=
  { img := { k.img with st := 2, digest := digest }, target := 0, objects := bit (field img 7 1) 0,
    device := bit (field img 7 1) 1, codeLen := field img 8 4, entry := field img 12 4, arenaBytes := field img 16 4,
    pages := field img 24 4, maxCtx := field img 28 4, budget := field img 32 4, kpages := spns }

/-- R391 to R393: an image for TARGET 0 that has its digest, its signature and a lawful header, whose arena fits the plan's
region and whose kernel pages can be had, is committed. -/
theorem serveKernelCommit_commits {img blk digest : List Byte} {p : Plan} {spns : List Nat} {d1 : Dev}
    (hb : ByOperator s h) (hst : (pkg s.dev o).img.st = 1) (hgood : badAmong s.dev (pkg s.dev o).img.frames = none)
    (hdigest : sha256 (imageAll s.dev (pkg s.dev o).img) = digest)
    (hsigned : signedImage s.dev 2 false true (imageAll s.dev (pkg s.dev o).img) = some (img, blk))
    (hheader : firstFail (pkgChecks img) = none) (htarget : field img 6 1 = 0) (hplan : s.dev.plan.active = some p)
    (hroom : arenasUsed s.dev + field img 16 4 ≤ p.arenaBytes)
    (hpages : allocKernelPages s.dev o false (field img 24 4) = .ok (spns, d1)) :
    serveKernelCommit h o digest s.dev = reply (setPkg { d1 with vnt.arena := arenaFilled d1.vnt.arena o img } o
      (committedPkg (pkg s.dev o) digest img spns)) h 0x0805 stOk := by
  have hvent : ((0 : Nat) == 1) = false := rfl
  simp only [serveKernelCommit, onChannel_operator hb]
  rw [commitChecks_pass h 0x0805 _ hst hgood hdigest]
  simp only [hsigned, hheader, htarget, hvent, hplan, Nat.not_lt.2 hroom, and_false, if_false, hpages]
  rfl

/-- R391: the number of a package passes. -/
theorem pkgNumber_passes (ho : 32 ≤ o) (ho' : o ≤ 255) : ¬ (o < 32 ∨ 255 < o) :=
  not_or.2 ⟨Nat.not_lt.2 ho, Nat.not_lt.2 ho'⟩

/-- R560: an EMPTY package has nothing to drop. -/
theorem serveKernelDrop_empty (hb : ByOperator s h) (ho : 32 ≤ o) (ho' : o ≤ 255) (hst : (pkg s.dev o).img.st = 0) :
    serveKernelDrop h o s.dev = reply s.dev h 0x0806 stOk := by
  simp only [serveKernelDrop, onChannel_operator hb]
  exact (if_neg (pkgNumber_passes ho ho')).trans (if_pos hst)

/-- R393: a package that no thread runs leaves with its kernel pages, its frames and its arena. -/
theorem serveKernelDrop_drops {d1 : Dev} (hb : ByOperator s h) (ho : 32 ≤ o) (ho' : o ≤ 255)
    (hst : (pkg s.dev o).img.st ≠ 0) (hidle : pkgBusy s.dev o = false)
    (h1 : freeFrames (dropPages s.dev (pkg s.dev o).kpages) (pkg s.dev o).img.frames = d1) :
    serveKernelDrop h o s.dev = reply { d1 with
      vnt.pkgs := tdel d1.vnt.pkgs o, vnt.arena := Memory.clear d1.vnt.arena (o * 2 ^ 24) (2 ^ 24) } h 0x0806 stOk := by
  subst h1
  simp only [serveKernelDrop, onChannel_operator hb]
  exact (if_neg (pkgNumber_passes ho ho')).trans ((if_neg hst).trans (if_neg (by simp [hidle])))

end Packages

/-- Settles O58: the command's own effect where its checks pass. -/
theorem kernelCommandsComplete : Obligations.KernelCommandsComplete := by
  intro s h o hb ho ho'
  refine ⟨?load, ?data, ?commit, ?empty, ?drop⟩
  case load =>
    intro n fs d1 hlow hhigh hunit hst hframes
    exact serve_eq_did (f := serveKernelLoad h o n) hb.1
      (serveKernelLoad_loads hb ho ho' hlow hhigh hunit hst hframes)
  case data =>
    intro off data hpass
    exact serve_eq_did (f := serveKernelData h o off data) hb.1
      ((onChannel_operator hb 0x0804 true _).trans (checked_ok h 0x0804 _ hpass))
  case commit =>
    intro img blk p spns d1 k hst hgood hsigned hheader htarget hplan hroom hpages
    exact serve_eq_did (f := serveKernelCommit h o (sha256 (imageAll s.dev k.img))) hb.1
      (serveKernelCommit_commits hb hst hgood rfl hsigned hheader htarget hplan hroom hpages)
  case empty =>
    intro hst
    exact serve_eq_did (f := serveKernelDrop h o) hb.1 (serveKernelDrop_empty hb ho ho' hst)
  case drop =>
    intro hst hidle d
    exact serve_eq_did (f := serveKernelDrop h o) hb.1 (serveKernelDrop_drops hb ho ho' hst hidle rfl)

end Sys2Proof.Machine
end

section
/-!
PROOFS. Register accesses: the reads that clear (R499, R586) and the writes with a rule of their own (R416, R598, R605, R608,
R609).
-/

namespace Sys2Proof.Machine

/-! ## Clearing reads (R499, R586) -/

/-- R586: a register of type RC that is no half of a pair and shows state of the device is read, and what it marks is cleared. -/
theorem readBy_clears {d : Dev} {m a : Nat} {row : RegRow} (hans : answers d m = true) (hal : a % 4 = 0)
    (hrow : regRowAt a = some row) (hkind : row.kind = .rc) (hblock : blockAnswers d a = true)
    (hprv : (row.prv && !privileged m) = false) (hlo : isLo a = false) (hhi : isHi a = false) (hfree : isFree a = false) :
    readBy d m a = { clearRC d a with reg.readOut := [BitVec.ofNat 32 (viewNat d a)] } := by
  simp [readBy, hans, readReg, hal, hrow, hblock, hprv, readOpen, hkind, hhi, viewReg, hfree, hlo]

/-- R499: the read of the depth mark of the selected queue clears that mark alone. -/
theorem clearRC_depth (d : Dev) : (clearRC d Addr.TSH_HWM_DEPTH).tsh.hwm =
    tset d.tsh.hwm (bits (rd d Addr.TSH_HWM_SEL) 17 0) (0, (selectedMarks d).2) := rfl

/-- R499: the read of the delay mark of the selected queue clears that mark alone. -/
theorem clearRC_delay (d : Dev) : (clearRC d Addr.TSH_HWM_DELAY).tsh.hwm =
    tset d.tsh.hwm (bits (rd d Addr.TSH_HWM_SEL) 17 0) ((selectedMarks d).1, 0) := rfl

section Cleared

variable {d : Dev} {a : Nat} (hdepth : a ≠ Addr.TSH_HWM_DEPTH) (hdelay : a ≠ Addr.TSH_HWM_DELAY)
include hdepth hdelay

/-- R586: a counter of physical events counts anew from this tick. -/
theorem clearRC_physical (hphys : isPhysicalCount a = true) :
    clearRC d a = { d with reg.physFrom := tset d.reg.physFrom a d.tick } := by
  simp [clearRC, hdepth, hdelay, hphys]

/-- R586: any other register of type RC reads zero next. -/
theorem clearRC_stored (hphys : isPhysicalCount a = false) : (clearRC d a).reg.vals = tset d.reg.vals a 0 := by
  simp only [clearRC, hdepth, hdelay, hphys, Bool.false_eq_true, if_false]
  split <;> rfl

end Cleared

/-- R586 (log 12): a whole read of OBS_MBOX_STATUS clears its status word. -/
theorem clearRC_mailbox (d : Dev) : (clearRC d Addr.OBS_MBOX_STATUS).obs.mboxStatus = 0 := rfl

/-! ## Writes of a privileged master (R416, R598, R605, R608) -/

/-- R590: a register that is no half of a pair takes what its rule accepts. -/
theorem writeOpen_rw {d : Dev} {m a : Nat} {v : Word} (hlo : isLo a = false) (hhi : isHi a = false) :
    writeOpen d m a .rw v = if rwOk d a v.toNat then regSet (enableRing d a v.toNat) a v
      else refuseWrite d m 0x0304 a := by
  simp only [writeOpen, writeRW, hlo, hhi, Bool.false_eq_true, if_false]

/-- R591: a write to a domain that is not BUSY is posted where the register's rule accepts it. -/
theorem writeOpen_wp {d : Dev} {m a : Nat} {v : Word} (hidle : domainBusy d (domainOf a) = false) :
    writeOpen d m a .wp v = if wpOk d a v.toNat then { d with reg.posted := tset d.reg.posted (domainOf a) (a, v) }
      else refuseWrite d m 0x0304 a := by
  simp only [writeOpen, writeWP, hidle, Bool.false_eq_true, if_false]

/-- R608: a register that controls no ring starts none. -/
theorem enableRing_other {d : Dev} {a v : Nat} (hcap : a ≠ Addr.ELG_CAP_CTRL) (hsample : a ≠ Addr.TSH_SAMPLE_CTRL) :
    enableRing d a v = d := by simp only [enableRing, hcap, hsample, if_false, ite_self]

section Writes

variable {d : Dev} {m : Nat} {v : Word} (hm : m < 2) (hans : answers d m = true)
include hm hans

/-- R584, R587: an aligned write of 32 bits by master 0 or 1 to a register whose block answers goes by the register's type. -/
theorem writeReg_privileged {a : Nat} {k : RegKind} (hal : a % 4 = 0) (hblock : blockAnswers d a = true)
    (hkind : (regRowAt a).map (·.kind) = some k) : writeReg d m a 4 v = writeOpen d m a k v := by
  obtain ⟨row, hrow, rfl⟩ := Option.map_eq_some_iff.1 hkind
  simp [writeReg, hans, hal, hrow, hblock, privileged, hm]

/-- R605: the seal of the manifest goes by the tick that it names and by the copy that may run. -/
theorem writeReg_manifestSeal (hstage : d.obs.stage = 2) :
    writeReg d m Addr.FSQ_MANIFEST_SEAL 4 v = sealManifest d m Addr.FSQ_MANIFEST_SEAL v :=
  writeReg_privileged hm hans (by decide) (by simp [blockAnswers, hstage]) (k := .wo) rfl

/-- R598: GLB_ERRLOG_RPTR takes a value that does not pass the write pointer. -/
theorem writeReg_errlogRptr : writeReg d m Addr.GLB_ERRLOG_RPTR 4 v =
    if !precedes 32 d.reg.wptr v.toNat then regSet d Addr.GLB_ERRLOG_RPTR v
    else refuseWrite d m 0x0304 Addr.GLB_ERRLOG_RPTR := by
  have hblock : blockAnswers d Addr.GLB_ERRLOG_RPTR = true := Bool.or_eq_true_iff.2 (.inl (by decide))
  have hrule : rwOk d Addr.GLB_ERRLOG_RPTR v.toNat = !precedes 32 d.reg.wptr v.toNat := if_pos rfl
  rw [writeReg_privileged hm hans (by decide) hblock (k := .rw) rfl, writeOpen_rw (by decide) (by decide), hrule,
    enableRing_other (by decide) (by decide)]

/-- R608, R609: ELG_CAP_CTRL with a lawful value that sets ENABLE starts with an empty ring. -/
theorem writeReg_captureEnable (hstage : d.obs.stage = 2) (hok : rwOk d Addr.ELG_CAP_CTRL v.toNat = true)
    (hset : bit v.toNat 31 = true) (hwas : bit (rd d Addr.ELG_CAP_CTRL) 31 = false) :
    writeReg d m Addr.ELG_CAP_CTRL 4 v = regSet { d with led.wptr := 0, led.buf := [] } Addr.ELG_CAP_CTRL v := by
  have hring : enableRing d Addr.ELG_CAP_CTRL v.toNat = { d with led.wptr := 0, led.buf := [] } := by
    simp [enableRing, hset, hwas]
  rw [writeReg_privileged hm hans (by decide) (by simp [blockAnswers, hstage]) (k := .rw) rfl,
    writeOpen_rw (by decide) (by decide), if_pos hok, hring]

/-- R416, R591: MUD_OP_CORES is posted where its domain is free, its value lawful and no operator Mudpot package loaded. -/
theorem writeReg_mudOpCores (hstage : d.obs.stage = 2) (hidle : domainBusy d 0 = false) :
    writeReg d m Addr.MUD_OP_CORES 4 v =
      if within' 0 8 v.toNat && !mudpotLoaded d then
        { d with reg.posted := tset d.reg.posted 0 (Addr.MUD_OP_CORES, v) }
      else refuseWrite d m 0x0304 Addr.MUD_OP_CORES := by
  have hdomain : domainOf Addr.MUD_OP_CORES = 0 := by decide
  have hrule : wpOk d Addr.MUD_OP_CORES v.toNat = (within' 0 8 v.toNat && !mudpotLoaded d) := if_pos rfl
  rw [writeReg_privileged hm hans (by decide) (by simp [blockAnswers, hstage]) (k := .wp) rfl,
    writeOpen_wp (hdomain ▸ hidle), hrule, hdomain]

end Writes

/-- Settles O17: each clearing read reads and clears, and each write follows its own rule. -/
theorem clearingReadsAndRingWrites : Obligations.ClearingReadsAndRingWrites := by
  refine ⟨fun s m a row hrun hans hal hrow hkind hblock hprv hlo hhi hfree => ?reads,
    fun s m v hrun hstage hm hans => ?writes⟩
  case reads =>
    have hread : run s (fun d => readBy d m a) =
        did s { clearRC s.dev a with reg.readOut := [BitVec.ofNat 32 (viewNat s.dev a)] } :=
      (run_running _ hrun).trans
        (congrArg (did s) (readBy_clears hans hal hrow hkind hblock hprv hlo hhi hfree))
    refine ⟨fun hdepth hdelay hphys => ?_, fun hphys hdepth hdelay => ?_, fun hmbox => ?_, fun hdepth => ?_,
      fun hdelay => ?_⟩
    · have hget : ∀ b, regGet (clearRC s.dev a) b = if b = a then 0 else regGet s.dev b := fun b => by
        rw [regGet, clearRC_stored hdepth hdelay hphys]
        exact regGet_regSet s.dev a b 0
      exact ⟨_, hread, rfl, (hget a).trans (if_pos rfl), fun b hb => (hget b).trans (if_neg hb)⟩
    · rw [clearRC_physical hdepth hdelay hphys] at hread
      exact ⟨_, hread, rfl, tget_tset_self .., rfl⟩
    · subst hmbox
      exact ⟨_, hread, clearRC_mailbox s.dev⟩
    · subst hdepth
      exact ⟨_, hread, rfl, (congrArg (tget · _) (clearRC_depth s.dev)).trans (tget_tset_self ..)⟩
    · subst hdelay
      exact ⟨_, hread, rfl, (congrArg (tget · _) (clearRC_delay s.dev)).trans (tget_tset_self ..)⟩
  case writes =>
    have row {a : Nat} {t : Dev} (ht : writeReg s.dev m a 4 v = t) :
        run s (fun d => writeReg d m a 4 v) = did s t := (run_running _ hrun).trans (congrArg (did s) ht)
    refine ⟨fun htick hcopy => ?_, fun hbad => ?_, fun base n hcopy hsealed => ?_, fun hcopy => ?_, fun hpass => ?_,
      fun hpass => ?_, fun hok hset hwas => ?_, fun hidle hv hnone => ?_, fun hidle hloaded => ?_⟩
    · exact row ((writeReg_manifestSeal hm hans hstage).trans (if_pos ⟨htick, hcopy⟩))
    · refine row ((writeReg_manifestSeal hm hans hstage).trans (if_neg ?_))
      rintro ⟨htick, hcopy⟩
      exact hbad.elim (· htick) (by simp [hcopy])
    · exact serve_eq_did (f := manifestCopyDone) ⟨hrun, hstage⟩ (by simp only [manifestCopyDone, hcopy, hsealed])
    · exact serve_eq_did (f := manifestCopyDone) ⟨hrun, hstage⟩ (by simp only [manifestCopyDone, hcopy])
    · exact row ((writeReg_errlogRptr hm hans).trans (if_pos (by simp [hpass])))
    · exact row ((writeReg_errlogRptr hm hans).trans (if_neg (by simp [hpass])))
    · exact row (writeReg_captureEnable hm hans hstage hok hset hwas)
    · exact row ((writeReg_mudOpCores hm hans hstage hidle).trans (if_pos (by simp [within', hv, hnone])))
    · exact row ((writeReg_mudOpCores hm hans hstage hidle).trans (if_neg (by simp [hloaded])))

end Sys2Proof.Machine
end

section
/-!
PROOFS. The memory integrity family: scrub, refill, refresh and row repair (R423, R429 to R435), the retirement of a
pseudo-channel and the migration out of the fumarole window (R437 to R441, R660).
-/

namespace Sys2Proof.Machine

/-- R54, R652, R657: work of an activity with a BG slot in this tick, out of fumarole service, on a serving device. -/
theorem serve_background {s : State} {f : Dev → Dev} {d : Dev} {a limit : Nat} (waits : Bool) (hs : Serving s)
    (hst : s.dev.pwr.st < limit) (hfum : s.dev.pwr.fumarole = false) (hslot : bgSlot s.dev a = true) (h : f s.dev = d) :
    serve s (background a limit waits f) = did s (noteBg a d) :=
  serve_eq_did hs ((background_ok a limit waits f hst hfum hslot).trans (congrArg (noteBg a) h))

/-- A row that acts on a running device has the effect that its meaning has. -/
theorem run_eq_did {s : State} {f : Dev → Dev} {d : Dev} (hrun : s.pins.running = true) (h : f s.dev = d) :
    run s f = did s d := by rw [run_running f hrun, h]

/-! ## Patrol scrub (R423, R429 to R432) -/

section Scrub

variable {d : Dev} (finds : List CwErr)

/-- R432: nothing is scrubbed between the end of a pass and the next one that is due. -/
theorem scrubPass_running (hrun : d.hbm.scrubbing = true) : scrubPass finds false d = finds.foldl scrubFind d := by
  simp [scrubPass, hrun]

/-- R429: the last find of a pass ends it, and the pass is counted. -/
theorem scrubPass_finishes (hrun : d.hbm.scrubbing = true) : scrubPass finds true d =
    bump { finds.foldl scrubFind d with hbm.scrubbing := false } Addr.TMC_SCRUB_PASS_CNT := by
  simp [scrubPass, hrun]

/-- R432: a pass that is due begins with its first find. -/
theorem scrubPass_begins (hidle : d.hbm.scrubbing = false) (hdue : d.hbm.scrubDue + scrubPeriod d ≤ d.tick) :
    scrubPass finds false d = finds.foldl scrubFind (passBegins d) := by
  simp [scrubPass, hidle, Nat.not_lt.2 hdue]

/-- R431: the twin of a VALID frame that waits for its refill is read. -/
theorem scrubRefill_reads {f : Nat} {x : Frame} (hwaits : d.hbm.refills.contains f = true)
    (hnone : (d.pg.xfers.any fun x => x.kind == .refill && x.frame == f) = false) (hframe : frame d f = some x)
    (hvalid : x.st = .valid) (htwin : x.tv = true) :
    scrubRefill f d = issueRead d x.own (mkXfer .refill f x.twin [] 0) := by
  simp only [scrubRefill, hwaits, hnone, hframe, hvalid, htwin, Bool.not_true, Bool.false_eq_true, or_self, if_false,
    and_self, if_true]

end Scrub

/-! ## Row repair (R435) -/

/-- The row's counter of codewords whose errors no mark explains. -/
def rowErrOf (pc bank row : Nat) (q : Nat × Nat × Nat × Nat) : Bool := q.1 == pc && q.2.1 == bank && q.2.2.1 == row

/-- R435: a row with 4 such codewords is repaired where its bank has a spare row, and the failure is counted where it has
none; its count ends in both cases. -/
theorem rowRepair_counted {d d1 : Dev} {pc bank row n : Nat} (spare : Bool)
    (hrow : d.hbm.rowErrs.find? (rowErrOf pc bank row) = some (pc, bank, row, n)) (hn : 4 ≤ n)
    (h1 : { d with hbm.rowErrs := d.hbm.rowErrs.filter fun q => !rowErrOf pc bank row q } = d1) :
    rowRepair pc bank row spare d = if spare then bump (sealWhere d1 fun c =>
        (granuleAt d1 c.frame c.granule).1 == pc && bankRow d1 (granuleAt d1 c.frame c.granule).1
          (granuleAt d1 c.frame c.granule).2 == (bank, row)) Addr.TMC_ROW_REPAIR_CNT
      else bump d1 Addr.TMC_ROW_REPAIR_FAIL_CNT := by
  subst h1
  unfold rowErrOf at hrow
  simp only [rowRepair, hrow, Nat.not_lt.2 hn, if_false]
  rfl

/-- Settles O47: each clause is the upkeep that its row does in a slot of its activity. -/
theorem scrubRowsComplete : Obligations.ScrubRowsComplete := by
  intro s hs hst hfum
  have upkeep (waits : Bool) {a limit : Nat} {f : Dev → Dev} {d : Dev} (hslot : bgSlot s.dev a = true) (hlimit : 2 ≤ limit)
      (h : f s.dev = d) : serve s (background a limit waits f) = did s (noteBg a d) :=
    serve_background waits hs (Nat.lt_of_lt_of_le hst hlimit) hfum hslot h
  refine ⟨fun finds hslot hrun => ⟨?_, ?_⟩, fun finds hslot hidle hdue => ?_,
    fun f x hslot hwaits hnone hframe hvalid htwin => ?_, fun pc hslot => ?_, fun pc acts hslot hon => ?_, fun htick => ?_, ?_⟩
  · exact upkeep true hslot le_rfl (scrubPass_running finds hrun)
  · exact upkeep true hslot le_rfl (scrubPass_finishes finds hrun)
  · exact upkeep true hslot le_rfl (scrubPass_begins finds hidle hdue)
  · exact upkeep true hslot le_rfl (scrubRefill_reads hwaits hnone hframe hvalid htwin)
  · exact upkeep (f := id) false hslot (by decide) rfl
  · exact upkeep (f := fun d => if bgOn d 2 (pc / 32) then targetedRefresh pc acts d else d) false hslot le_rfl (if_pos hon)
  · exact serve_eq_did (f := fun d => if d.tick % 1536 = 0 then { d with hbm.tracker := [] } else d) hs (if_pos htick)
  · intro pc bank row n hslot hon hrow hn d inRow
    have repair (spare : Bool) := upkeep (f := fun d => if bgOn d 2 (pc / 32) then rowRepair pc bank row spare d else d)
      false hslot le_rfl ((if_pos hon).trans (rowRepair_counted spare hrow hn rfl))
    exact ⟨repair true, repair false⟩

/-! ## Retirement of a pseudo-channel (R437 to R441) -/

/-- R437: a serving pseudo-channel that the active plan retires, the first of its stack, is RETIRING. -/
theorem hbmRetire_begins {s : State} {h : CmdHdr} {pc : Nat} {p : Plan} (hb : ByOperator s h)
    (hplan : s.dev.plan.active = some p) (hlisted : p.retiredPcs.contains pc = true) (hserves : (pcAt s.dev pc).st = 1)
    (hfirst : stackSpent s.dev pc = false) (hidle : s.dev.hbm.retire = none) (hfum : s.dev.pwr.fumarole = false)
    (hmoved : s.dev.pwr.migrating = false) :
    hbmRetire s.dev h pc = { setPc s.dev pc { pcAt s.dev pc with st := 2 } with
      hbm.retire := some ⟨h, pc, 0⟩, hbm.bandOut := true, pwr.busyDormant := true } :=
  (onChannel_operator hb 0x0808 true _).trans
    (checked_ok h 0x0808 _ (by simpa [firstFail, hplan, hserves, hfirst, hidle, hfum, hmoved] using hlisted))

section Retiring

variable {d : Dev} {r : Retire} (hretire : d.hbm.retire = some r)
include hretire

/-- R438: a frame of the band takes the place of a FREE frame below the band, which is RETIRED. -/
theorem bandRelocate_moves {f g : Nat} {x : Frame} {d1 : Dev} (hframe : frame d f = some x)
    (hband : (bandInUse d).contains f = true) (hplace : placeOrEvict d x.loc (f % 8) 64 = (some g, d1))
    (hstill : (bandInUse d1).contains f = true) :
    bandRelocate f d = { setFrame d1 g ⟨0, .retired, false, false, 0, 0, 0, x.loc, 0⟩ with
      hbm.reloc := tset d1.hbm.reloc f g } := by
  simp only [bandRelocate, hretire, hframe, hband, hplace, hstill, Bool.not_true, Bool.false_eq_true, if_false, if_true]

/-- The granules from the cursor to `c` of the pseudo-channel that retires. -/
def granulesTo (d : Dev) (r : Retire) (c : Nat) (w : CwAddr) : Bool :=
  (granuleAt d w.frame w.granule).1 == r.pc && decide (r.cursor ≤ (granuleAt d w.frame w.granule).2) &&
    decide ((granuleAt d w.frame w.granule).2 < c)

variable {n : Nat} (hempty : bandInUse d = []) (hon : bgOn d 2 (r.pc / 32) = true)
include hempty hon

/-- R439, R440: with the band relocated the next granules move, and the cursor with them. -/
theorem granuleMove_moves (hrest : r.cursor + n < retireGranules) :
    granuleMove n d = { sealWhere d (granulesTo d r (r.cursor + n)) with
      hbm.retire := some { r with cursor := r.cursor + n } } := by
  simp only [granuleMove, hretire, hempty, hon, List.isEmpty_nil, Bool.not_true, Bool.false_eq_true, or_self, if_false,
    Nat.min_eq_left (Nat.le_of_lt hrest), Nat.ne_of_lt hrest]
  rfl

/-- R439 to R441: with its last granule the pseudo-channel is RETIRED, and the command is answered. -/
theorem granuleMove_ends (hlast : retireGranules ≤ r.cursor + n) :
    granuleMove n d = endRetire { sealWhere d (granulesTo d r retireGranules) with
      hbm.retired := (d.hbm.retired + 1) % 8 } r 3 stOk := by
  simp only [granuleMove, hretire, hempty, hon, List.isEmpty_nil, Bool.not_true, Bool.false_eq_true, or_self, if_false,
    Nat.min_eq_right hlast, if_true]
  rfl

end Retiring

/-! ## Migration (R660) -/

/-- R660: the lowest window frame in use that has not moved moves. -/
theorem frameMigrate_moves {d : Dev} {f : Nat} (hmoving : d.pwr.migrating = true) (hnext : (toMigrate d).head? = some f) :
    frameMigrate f d = settleMigration { d with pwr.cursor := f + 1 } := if_pos ⟨hmoving, hnext⟩

/-- Settles O48: each clause is what the command, or the row in a slot of its activity, does where its conditions hold. -/
theorem retirementRowsComplete : Obligations.RetirementRowsComplete := by
  intro s
  refine ⟨fun h pc p hb hplan hlisted hserves hfirst hidle hfum hmoved => ?retire,
    fun r x f g d hs hst hfum hslot hretire hframe hband hplace hstill => ?relocate, ?move, ?last,
    fun f hs hst hfum hslot hmoving hnext => ?migrate⟩
  case retire =>
    exact serve_eq_did (f := fun d => hbmRetire d h pc) hb.1
      (hbmRetire_begins hb hplan hlisted hserves hfirst hidle hfum hmoved)
  case relocate =>
    exact serve_background false hs hst hfum hslot (bandRelocate_moves hretire hframe hband hplace hstill)
  case move =>
    intro r n hs hst hfum hslot hretire hempty hon hrest moved
    exact serve_background false hs hst hfum hslot (granuleMove_moves hretire hempty hon hrest)
  case last =>
    intro r n hs hst hfum hslot hretire hempty hon hlast moved
    exact serve_background false hs hst hfum hslot (granuleMove_ends hretire hempty hon hlast)
  case migrate => exact serve_background false hs hst hfum hslot (frameMigrate_moves hmoving hnext)

end Sys2Proof.Machine
end

section
/-!
PROOFS. The fabric links family: lanes, replays, credits, the card's rate and routes (R449 to R456, R541, R542, R569, R667),
and the links that train and go down (R453, R455, R473, R540, R543, R654).
-/

namespace Sys2Proof.Machine

/-- Two changes of a port that agree on what it holds are one. -/
theorem modPort_congr {d : Dev} {n : Nat} {f g : Port → Port} (h : f (port d n) = g (port d n)) :
    modPort d n f = modPort d n g := by unfold modPort; rw [h]

/-- A port reads as its change left it. -/
@[simp] theorem port_modPort_self (d : Dev) (n : Nat) (f : Port → Port) : port (modPort d n f) n = f (port d n) := by
  simp [port, modPort]

/-! ## Lanes that stay (R453, R454, R667) -/

section Lanes

variable {d : Dev} {n l : Nat}

/-- R454: an adapted receiver starts its PRBS31 run. -/
theorem laneRecalibrate_adapts (hrem : (port d n).removed.contains l = true) :
    laneRecalibrate d n l true = modPort d n fun p => { p with
      removedAt := tdel p.removedAt l, prbs := if p.prbs.contains l then p.prbs else p.prbs ++ [l] } := by
  simp only [laneRecalibrate, hrem, Bool.not_true, Bool.false_eq_true, if_false, if_true]

/-- R454: a failure before the 16th is counted. -/
theorem laneRecalibrate_counts (hrem : (port d n).removed.contains l = true) (hfew : tgetD (port d n).recals l 0 < 15) :
    laneRecalibrate d n l false = modPort d n fun p => { p with
      recals := tset p.recals l (tgetD (port d n).recals l 0 + 1), removedAt := tdel p.removedAt l,
      prbs := p.prbs.filter (· != l) } := by
  have hlast : ¬ 16 ≤ tgetD (port d n).recals l 0 + 1 := by omega
  simp only [laneRecalibrate, hrem, hlast, Bool.not_true, Bool.false_eq_true, if_false]

/-- R454: the 16th failure marks the lane FAILED. -/
theorem laneRecalibrate_fails (hrem : (port d n).removed.contains l = true) (hmany : 15 ≤ tgetD (port d n).recals l 0) :
    laneRecalibrate d n l false = modPort d n fun p => { p with
      recals := tset p.recals l (tgetD (port d n).recals l 0 + 1), removedAt := tdel p.removedAt l,
      prbs := p.prbs.filter (· != l), failed := p.failed ++ [l], removed := p.removed.filter (· != l) } := by
  have hlast : 16 ≤ tgetD (port d n).recals l 0 + 1 := by omega
  simp only [laneRecalibrate, hrem, hlast, Bool.not_true, Bool.false_eq_true, if_false, if_true]

/-- R454: a lane whose PRBS run is whole serves again, and the width of an UP port follows. -/
theorem laneRestore_serves (hprbs : (port d n).prbs.contains l = true) (hup : (port d n).st = 2) :
    laneRestore d n l = rewidth (modPort d n fun p => { p with
      removed := p.removed.filter (· != l), prbs := p.prbs.filter (· != l), recals := tdel p.recals l }) n := by
  simp only [laneRestore, hprbs, Bool.not_true, Bool.false_eq_true, if_false]
  exact if_pos ((congrArg Port.st (port_modPort_self ..)).trans hup)

/-- R453: the width of a port follows a lane that it removes and can do without. -/
theorem laneRemove_narrows {d1 : Dev} (hn : n ≤ 56) (hup : (port d n).st = 2) (husable : (usableLanes d n).contains l = true)
    (h1 : errEvent (modPort d n fun p => { p with
      removed := p.removed ++ [l], removedAt := tset p.removedAt l d.tick, prbs := p.prbs.filter (· != l) })
      (portInputOf n) 0 0xFF n n = d1) (hleft : widthFor n (usableLanes d1 n).length ≠ 0) :
    laneRemove d n l = rewidth d1 n := by
  subst h1
  simp only [laneRemove, hup, husable, Nat.not_lt.2 hn, ne_eq, not_true, Bool.not_true, Bool.false_eq_true, or_self,
    if_false]
  exact if_neg hleft

end Lanes

/-! ## Credits (R451, R452) -/

section Credits

variable {d : Dev} {n ack : Nat} (cs : List Nat) (hup : (port d n).st = 2) (hn : n ≤ 56)
include hup hn

/-- R451, R452: credits are added per virtual channel, and the flits up to one that is held are acknowledged. -/
theorem creditReturn_acks (hheld : flitHeld (port d n) ack = true) : creditReturn d n ack cs = modPort d n fun p => { p with
    credits := p.credits.zipIdx.map fun (c, k) => c + cs.getD k 0, unacked := (ack + 1) % 2 ^ 24
    replayBuf := p.replayBuf.filter fun q => flitHeld { p with unacked := (ack + 1) % 2 ^ 24 } q.1 } :=
  (if_pos ⟨hup, hn⟩).trans (modPort_congr (if_pos hheld))

/-- R451, R452: an acknowledgement of no flit that is held leaves the replay buffer. -/
theorem creditReturn_adds (hheld : flitHeld (port d n) ack = false) : creditReturn d n ack cs = modPort d n fun p => { p with
    credits := p.credits.zipIdx.map fun (c, k) => c + cs.getD k 0 } :=
  (if_pos ⟨hup, hn⟩).trans (modPort_congr (if_neg (ne_true_of_eq_false hheld)))

end Credits

/-- R456, R569: the operator sets the route of an index, or clears it. -/
theorem fabricRouteSet_sets {s : State} {h : CmdHdr} {i role a : Nat} (mask : Nat) (hb : ByOperator s h) (hi : i ≤ 4063)
    (hrole : role ≤ 1) (ha : a < 2 ^ 24) : fabricRouteSet s.dev h i role mask a =
      reply (setRoute s.dev i (if role = 0 then none else some ⟨a, 1, mask⟩)) h 0x0705 stOk :=
  (onChannel_operator hb 0x0705 true _).trans
    (checked_ok h 0x0705 _ (by simpa [firstFail, Nat.not_lt.2 hi, Nat.not_lt.2 hrole] using ha))

/-- Settles O36: each clause is what the row does on its port, and the routes that the operator sets. -/
theorem linkRowsComplete : Obligations.LinkRowsComplete := by
  intro s
  refine ⟨fun n l hs hst hfum hslot hrem => ⟨?adapts, fun hfew => ?counts, fun hmany => ?fails⟩,
    fun n l hs hst hfum hslot hup huse => ?readapt, fun n l hs hprbs hup => ?restore, fun n q hrun hn hup => ?replay,
    fun n ack cs hrun hn hup => ⟨fun hheld => ?acks, fun hheld => ?adds⟩, fun r hrun hlow hhigh => ?rate,
    fun h i role mask a hb hi hrole ha => ?route⟩
  case adapts =>
    exact serve_background (f := fun d => laneRecalibrate d n l true) false hs hst hfum hslot (laneRecalibrate_adapts hrem)
  case counts =>
    exact serve_background (f := fun d => laneRecalibrate d n l false) false hs hst hfum hslot
      (laneRecalibrate_counts hrem hfew)
  case fails =>
    exact serve_background (f := fun d => laneRecalibrate d n l false) false hs hst hfum hslot
      (laneRecalibrate_fails hrem hmany)
  case readapt =>
    exact serve_background (f := fun d => laneReadapt d n l) false hs hst hfum hslot (if_pos ⟨hup, huse⟩)
  case restore => exact serve_eq_did (f := fun d => laneRestore d n l) hs (laneRestore_serves hprbs hup)
  case replay => exact run_eq_did (f := fun d => linkReplay d n) hrun (if_pos ⟨hup, hn⟩)
  case acks => exact run_eq_did (f := fun d => creditReturn d n ack cs) hrun (creditReturn_acks cs hup hn hheld)
  case adds => exact run_eq_did (f := fun d => creditReturn d n ack cs) hrun (creditReturn_adds cs hup hn hheld)
  case rate => exact run_eq_did (f := fun d => cardRateChange d r) hrun (if_pos ⟨hlow, hhigh⟩)
  case route => exact serve_eq_did (f := fun d => fabricRouteSet d h i role mask a) hb.1 (fabricRouteSet_sets mask hb hi hrole ha)

/-! ## Links that train and go down (R455, R473, R540, R543, R654) -/

/-- R473, R651, R654, R687: an enabled port in SERVICE mode, with its reference clock, on a device that has started and
is not DORMANT, is UP at the width of its lanes, or TRAINING with too few. -/
theorem fabricPortTrain_trains {d : Dev} {n : Nat} (hn : n < 56) (hon : portEnabled d n = true) (hmode : portMode d n = 0)
    (hdown : (port d n).st ≠ 2) (hstage : d.obs.stage = 2) (hclk : d.pwr.refLost.contains (n / 14) = false)
    (hawake : d.pwr.st ≠ 2) : fabricPortTrain d n =
      if portWidth d n = 0 then modPort d n fun p => { p with st := 1 }
      else setCost (modPort d n fun p => { p with st := 2, width := portWidth d n }) n :=
  if_pos ⟨hn, hon, hmode, hdown, hstage, by simpa using hclk, hawake⟩

/-- Settles O37: each clause is what the row does on a link whose conditions hold. -/
theorem portsTrainAndGoDown : Obligations.PortsTrainAndGoDown := by
  intro s hrun
  refine ⟨fun n c hn hup => ?down, fun hup => ?hostDown,
    fun n hn hon hmode hdown hstage hclk hawake => ⟨fun hwide => ?trains, fun hnarrow => ?waits⟩, ?hostTrains, ?removes⟩
  case down => exact run_eq_did (f := fun d => portDown d n c) hrun ((if_pos hn).trans (if_neg (not_not_intro hup)))
  case hostDown => exact run_eq_did hrun (if_pos hup)
  case trains =>
    exact run_eq_did (f := fun d => fabricPortTrain d n) hrun
      ((fabricPortTrain_trains hn hon hmode hdown hstage hclk hawake).trans (if_neg hwide))
  case waits =>
    exact run_eq_did (f := fun d => fabricPortTrain d n) hrun
      ((fabricPortTrain_trains hn hon hmode hdown hstage hclk hawake).trans (if_pos hnarrow))
  case hostTrains =>
    intro lanes hon hmode hdown hstage d hwide
    exact run_eq_did (f := fun d => hostLinkTrain d lanes) hrun ((if_pos ⟨hon, hmode, hdown, hstage⟩).trans (if_neg hwide))
  case removes =>
    intro n l hn hup husable d hleft
    exact run_eq_did (f := fun d => laneRemove d n l) hrun (laneRemove_narrows hn hup husable rfl hleft)

end Sys2Proof.Machine
end

section
/-!
PROOFS. The traffic shaping family: the scheduler's commands (R486, R487, R497), a handover (R489 to R493) and a transmission
(R448, R450 to R452, R490).
-/

namespace Sys2Proof.Machine

/-! ## SHAPER_CONFIG and SHAPER_MODE (R486, R487, R497) -/

/-- R497: with no message waiting, a mode that holds every configured partition's subscribers is taken. -/
theorem shaperMode_sets {s : State} {h : CmdHdr} {mode : Nat} (hb : ByOperator s h) (hmode : mode ≤ 1)
    (hquiet : anyQueued s.dev = false) (hfits : ∀ q ∈ s.dev.parts, q.2.st ≠ .unconfigured →
      (subRange s.dev q.1).1 + (subRange s.dev q.1).2 ≤ modeSubs (mode == 1)) :
    shaperMode s.dev h mode = reply { s.dev with tsh.full := mode == 1 } h 0x0707 stOk := by
  have hroom : (s.dev.parts.any fun q => q.2.st != .unconfigured &&
      decide (modeSubs (mode == 1) < (subRange s.dev q.1).1 + (subRange s.dev q.1).2)) = false := by
    simpa using hfits
  refine (onChannel_operator hb 0x0707 true _).trans (checked_ok h 0x0707 _ ?_)
  simp only [firstFail, hquiet, hroom, Nat.not_lt.2 hmode, decide_false, Bool.false_eq_true, if_false]

/-- The checks of a shaper's five classes (R486). -/
def classChecks (xs : List ((Nat × Nat) × Nat)) : List (Bool × Nat) :=
  (xs.map fun (x, k) => [(costBad x.1, stw stParam (14 + 2 * k)), (burstBad x.2, stw stParam (15 + 2 * k))]).flatten

/-- R486: classes whose COST and BURST lie in their ranges pass. -/
theorem classChecks_pass {xs : List ((Nat × Nat) × Nat)} (h : ∀ x ∈ xs, x.1.1 ≤ 0x03200000 ∧ x.1.2 ≤ 16777216) :
    firstFail (classChecks xs) = none := by
  induction xs with
  | nil => rfl
  | cons x xs ih =>
    obtain ⟨⟨hcost, hburst⟩, hrest⟩ := List.forall_mem_cons.1 h
    have hcons : classChecks (x :: xs) = (costBad x.1.1, stw stParam (14 + 2 * x.2)) ::
        (burstBad x.1.2, stw stParam (15 + 2 * x.2)) :: classChecks xs := rfl
    simp [hcons, firstFail, costBad, burstBad, Nat.not_lt.2 hcost, Nat.not_lt.2 hburst, ih hrest]

/-- R486, R487: shapers within their ranges, for the subscribers that the partition has, count from the next boundary. -/
theorem shaperConfig_sets {s : State} {h : CmdHdr} {p : Nat} {c : ShaperCfg} (hb : ByOperator s h)
    (hpart : (part s.dev p).st ≠ .unconfigured) (hstays : (c.subBase, c.flowGroups) = subRange s.dev p)
    (hflows : 1 ≤ c.flowGroups) (hflows' : c.flowGroups ≤ 64) (hflow : c.flow < c.flowGroups)
    (hapart : ∀ o ∈ s.dev.parts, o.1 ≠ p →
      overlap c.subBase c.flowGroups (subRange s.dev o.1).1 (subRange s.dev o.1).2 = false)
    (hroom : c.subBase + c.flowGroups ≤ modeSubs s.dev.tsh.full) (hbytes : 2 ^ 20 ≤ c.subBytes)
    (hbytes' : c.subBytes ≤ 2 ^ 34) (hcost : c.subCost ≤ 0x03200000) (hburst : c.subBurst ≤ 16777216)
    (hclasses : ∀ x ∈ c.classes, x.1 ≤ 0x03200000 ∧ x.2 ≤ 16777216) :
    shaperConfig s.dev h p c = reply { s.dev with
      tsh.changes := s.dev.tsh.changes ++ [(p, c.subBase, c.flowGroups, c.subBase + c.flow, subOfCfg c)] } h 0x0706 stOk := by
  have hoverlap : (s.dev.parts.any fun o => o.1 != p &&
      overlap c.subBase c.flowGroups (subRange s.dev o.1).1 (subRange s.dev o.1).2) = false := by
    simpa using hapart
  have hclass : firstFail (classChecks c.classes.zipIdx) = none :=
    classChecks_pass fun x hx => hclasses x.1 (List.fst_mem_of_mem_zipIdx hx)
  refine (onChannel_operator hb 0x0706 true _).trans (checked_ok h 0x0706 _ ?_)
  rw [firstFail_append, firstFail_append]
  refine Option.or_eq_none_iff.2 ⟨Option.or_eq_none_iff.2 ⟨?_, hclass⟩, ?_⟩
  · simp [firstFail, hpart, hoverlap, costBad, burstBad, Nat.ne_of_gt hflows, Nat.not_lt.2 hflows', Nat.not_le.2 hflow,
      Nat.not_lt.2 hroom, Nat.not_lt.2 hcost, Nat.not_lt.2 hburst]
    exact ⟨hbytes, hbytes'⟩
  · simp [firstFail, hstays]

/-! ## PORT_TRANSMIT (R448, R450 to R452, R490) -/

section Transmit

variable {p : Port} {k : Nat} {m : Msg} (hready : readyFifo p = some (k, m))
include hready

/-- R490: what goes next has a credit of its virtual channel. -/
theorem readyFifo_credit : p.credits.getD (vcOn m) 0 ≠ 0 := by
  have hgoes := List.find?_some hready
  simp only [Bool.and_eq_true, decide_eq_true_eq] at hgoes
  exact Nat.ne_of_gt hgoes.1

/-- R450, R490: what goes next is next on its virtual channel. -/
theorem readyFifo_next : nextOn p (vcOn m) = some (k, m) := by
  have hgoes := List.find?_some hready
  simp only [Bool.and_eq_true, beq_iff_eq] at hgoes
  exact hgoes.2

/-- R450, R451: a message of at most 37 chunks that has not begun leaves whole in one flit, and is kept until the flit is
acknowledged. -/
theorem sendFlit_whole (hnew : m.gone = 0) (hfits : chunksOf m ≤ 37)
    (halone : nextOn (chunksGo p k (chunksOf m) p.flitSeq m) (vcOn m) = none) :
    (sendFlit p (vcOn m)).2 = { p with
      fifos := modNth p.fifos k (·.drop 1), flitSeq := (p.flitSeq + 1) % 2 ^ 24
      replayBuf := p.replayBuf ++ [(p.flitSeq, m)], credits := modNth p.credits (vcOn m) fun c => c - 1 } := by
  have hkept : ({ m with gone := 0 } : Msg) = m := by rw [← hnew]
  have hwhole : chunksGo p k (chunksOf m) p.flitSeq m = { p with
      fifos := modNth p.fifos k (·.drop 1), replayBuf := p.replayBuf ++ [(p.flitSeq, m)] } := by
    rw [chunksGo, if_neg (Nat.not_lt.2 (Nat.le_add_left ..)), hkept]
  have hend : ∀ room starts fuel, fillFlit (vcOn m) p.flitSeq fuel room starts
      (chunksGo p k (chunksOf m) p.flitSeq m) = ([], chunksGo p k (chunksOf m) p.flitSeq m) := by
    intro room starts fuel
    cases fuel with
    | zero => rfl
    | succ n => simp only [fillFlit, halone]
  have hfill : (fillFlit (vcOn m) p.flitSeq 5 37 4 p).2 = chunksGo p k (chunksOf m) p.flitSeq m := by
    rw [fillFlit]
    simp only [readyFifo_next hready, hnew, Nat.sub_zero, Nat.min_eq_right hfits, hend]
    simp
  simp only [sendFlit, hfill, hwhole]

end Transmit

/-- R448, R490: a port whose replay buffer has room sends a message of one flit. -/
theorem sendFlits_whole {p : Port} {k : Nat} {m : Msg} (hroom : flitsHeld p < 512) (hready : readyFifo p = some (k, m))
    (hnew : m.gone = 0) (hlen : 0 < m.len) (hlen' : m.len ≤ 592)
    (halone : nextOn (chunksGo p k (chunksOf m) p.flitSeq m) (vcOn m) = none) :
    sendFlits (vcOn m) (flitsOf m) p = { p with
      fifos := modNth p.fifos k (·.drop 1), flitSeq := (p.flitSeq + 1) % 2 ^ 24
      replayBuf := p.replayBuf ++ [(p.flitSeq, m)], credits := modNth p.credits (vcOn m) fun c => c - 1 } := by
  have hchunks : chunksOf m ≤ 37 := by unfold chunksOf ceilDiv; omega
  have hone : flitsOf m = 1 := by unfold flitsOf chunksOf ceilDiv; omega
  have hgoes : ¬ (p.credits.getD (vcOn m) 0 = 0 ∨ 512 ≤ flitsHeld p) :=
    not_or.2 ⟨readyFifo_credit hready, Nat.not_le.2 hroom⟩
  rw [hone, sendFlits, if_neg hgoes, sendFlits, sendFlit_whole hready hnew hchunks halone]

/-- R490: an UP port sends what goes next. -/
theorem portTransmit_sends {d : Dev} {n k : Nat} {m : Msg} (hn : n ≤ 56) (hup : (port d n).st = 2)
    (hready : readyFifo (port d n) = some (k, m)) :
    portTransmit d n = modPort d n (sendFlits (vcOn m) (flitsOf m)) := by
  simp only [portTransmit, hup, hready, Nat.not_lt.2 hn, ne_eq, not_true, or_self, if_false]

/-! ## TRAFFIC_HANDOVER (R489, R492, R493) -/

/-- R489, R492: the entry that is next is served at its own time, and the head of its queue goes where it can be handed. -/
theorem trafficHandover_hands {d d1 d2 : Dev} {q e now p : Nat} {m : Msg} {r : List Msg} (htick : now / 2048 = d.tick)
    (hclock : d.tsh.clock ≤ now) (h1 : moveBuckets { d with tsh.clock := now } now = d1)
    (hnext : nextEntry d1 now = some (q, e)) (hontime : now < e + 1)
    (h2 : { d1 with tsh.wheel := d1.tsh.wheel.filter fun w => w.1 != q } = d2) (hhead : queue d2 q = m :: r)
    (hcan : canHand d2 q now m = some p) : trafficHandover d q now = handOver d2 q p now m := by
  subst h1 h2
  have hnow : ¬ (now / 2048 ≠ d.tick ∨ now < d.tsh.clock) := not_or.2 ⟨not_not_intro htick, Nat.not_lt.2 hclock⟩
  rw [trafficHandover, if_neg hnow]
  simp only [hnext, ne_eq, not_true, Nat.not_le.2 hontime, if_false, hhead, hcan]

/-- Settles O41: each clause is what the command does where its checks pass, and what the port and the wheel do with the
message that goes next. That a flit carries runs of chunks, takes one credit and waits in the replay buffer is R448 and R450
to R452 as log 31 reads them. -/
theorem trafficRowsComplete : Obligations.TrafficRowsComplete := by
  intro s
  refine ⟨fun h mode hb hmode hquiet hfits => ?mode,
    fun h p c hb hpart hstays hflows hflows' hflow hapart hroom hbytes hbytes' hcost hburst hclasses => ?config,
    fun n k m hrun hn hup hready => ?transmit,
    fun n k m hrun hn hup hroom hready hnew hlen hlen' halone => ?whole, ?handover⟩
  case mode => exact serve_eq_did (f := fun d => shaperMode d h mode) hb.1 (shaperMode_sets hb hmode hquiet hfits)
  case config =>
    exact serve_eq_did (f := fun d => shaperConfig d h p c) hb.1 (shaperConfig_sets hb hpart hstays hflows hflows' hflow
      hapart hroom hbytes hbytes' hcost hburst hclasses)
  case transmit => exact run_eq_did (f := fun d => portTransmit d n) hrun (portTransmit_sends hn hup hready)
  case whole =>
    exact run_eq_did (f := fun d => portTransmit d n) hrun ((portTransmit_sends hn hup hready).trans
      (modPort_congr (sendFlits_whole hroom hready hnew hlen hlen' halone)))
  case handover =>
    intro q e now port m r hs htick hclock d hnext hontime d1 hhead hcan
    exact serve_eq_did (f := fun d => trafficHandover d q now) hs
      (trafficHandover_hands htick hclock rfl hnext hontime rfl hhead hcan)

end Sys2Proof.Machine
end

section
/-!
PROOFS. The snapshot and recovery family, a ring member: what its messages leave, its timers, cuts and captures, its resends
and the watch over its predecessor (R505 to R516, R524), and the messages that it takes with the commit of an epoch (R513,
R515, R519, R523).
-/

namespace Sys2Proof.Machine

/-! ## Cuts (R505, R507, R514) -/

/-- The epochs that a ring member knows of, with its sessions and its memory: what a cut to an epoch changes at once, beside
what it must leave. -/
def cutView (d : Dev) : Nat × Nat × Option Nat × Nat × Tbl SessEnt × List Host.Cell :=
  (d.lah.epoch, d.lah.closing, d.lah.cutTo, d.lah.lastCut, d.sess, d.pg.hbm)

theorem cutView_enqueue (d : Dev) (m : Msg) : cutView (enqueue d m) = cutView d := by simp [cutView]

/-- A message of a stream touches no state of the ring, whether it leaves or waits for its resend. -/
@[simp] theorem sendLah_lah (d : Dev) (rel : Bool) (p seq epoch : Nat) (recd : Option LahRec) :
    (sendLah d rel p seq epoch recd).lah = d.lah := by
  unfold sendLah
  cases (part d p).replKeys.head? with
  | none => cases recd <;> rfl
  | some k => exact enqueue_lah ..

theorem cutView_sendLah (d : Dev) (rel : Bool) (p seq epoch : Nat) (recd : Option LahRec) :
    cutView (sendLah d rel p seq epoch recd) = cutView d := by
  unfold sendLah
  cases (part d p).replKeys.head? with
  | none => cases recd <;> rfl
  | some k => exact cutView_enqueue ..

theorem cutView_armEpoch (d : Dev) : cutView (armEpoch d) = cutView d := by
  unfold armEpoch
  dsimp only
  split <;> rfl

/-- R514: a CUT_NOTICE takes a queue and nothing else. -/
theorem cutView_cutNotices (d : Dev) : cutView (cutNotices d) = cutView d :=
  foldl_keeps cutView (fun _ _ => cutView_enqueue _ _) _ d

/-- R505, R507: a cut to epoch f closes the current one in this tick; sessions and memory stay. -/
theorem cutView_takeCut (d : Dev) (f : Nat) :
    cutView (takeCut d f) = (f, d.lah.epoch, none, d.tick, d.sess, d.pg.hbm) := by
  refine (cutView_cutNotices _).trans ((cutView_armEpoch _).trans ((cutView_sendLah ..).trans ?_))
  cases hbase : d.lah.baseDue <;> rfl

/-- R507: a cut that waits for no capture is taken. -/
theorem epochCut_takes {d : Dev} {f : Nat} (hcut : d.lah.cutTo = some f) (hring : cutting d = true) (hwork : d.lah.work = [])
    (hend : d.lah.endDue = false) : epochCut d = takeCut d f := by
  simp only [epochCut, hcut, hring, hwork, hend, List.isEmpty_nil, Bool.not_true, Bool.or_self, Bool.false_eq_true, if_false]

/-- R507: a cut that the capture under way holds back is counted once. -/
theorem epochCut_defers {d : Dev} {f : Nat} (hcut : d.lah.cutTo = some f) (hring : cutting d = true)
    (hwork : d.lah.work ≠ []) (hnew : d.lah.cutWaits = false) :
    epochCut d = bump { d with lah.cutWaits := true } Addr.LAH_CUT_DEFER_CNT := by
  simp only [epochCut, hcut, hring, hnew, List.isEmpty_eq_false_iff.2 hwork, Bool.not_true, Bool.not_false, Bool.true_or,
    Bool.false_eq_true, if_false, if_true]

/-- Settles O33: a cut that waits for no capture moves the epoch and leaves sessions and memory. -/
theorem cutMovesEpoch : Obligations.CutMovesEpoch := by
  intro s f hs hcut hring hwork hend
  have hview := cutView_takeCut s.dev f
  simp only [cutView, Prod.mk.injEq] at hview
  exact ⟨takeCut s.dev f, serve_eq_did hs (epochCut_takes hcut hring hwork hend), hview⟩

/-! ## Timers and captures (R505, R506, R511 to R513) -/

/-- R511 to R513: an item of the work that does not wait is captured, and END follows the last one. -/
theorem capture_one {d d1 : Dev} {it : CapItem} {rest : List CapItem} (hwork : d.lah.work = it :: rest)
    (hslot : captureWaits d it = false) (hitem : captureItem d it = some d1) : capture d 1 = sendEnd d1 := by
  simp only [capture, captureSome, hwork, hslot, hitem, Bool.false_eq_true, if_false]

/-! ## Resends and silence (R516, R522, R524) -/

/-- The device that sends record u of a stream again (R516). -/
def resent (d : Dev) (rel : Bool) (seq : Nat) (u : Unacked) : Dev :=
  let d1 := bump (dropTimer d (resendKind rel) seq) Addr.LAH_RESEND_CNT
  sendLah { d1 with lah.unacked := d1.lah.unacked.map fun q =>
    if q.rel = rel ∧ q.seq = seq then { q with expiries := q.expiries + 1 } else q } rel u.recd.part seq u.epoch (some u.recd)

/-- A resend leaves the state of the ring. -/
theorem cutting_resent (d : Dev) (rel : Bool) (seq : Nat) (u : Unacked) : cutting (resent d rel seq u) = cutting d := by
  simp only [cutting, resent, sendLah_lah]
  rfl

/-- R516: an unacknowledged record whose timer has expired goes out again. -/
theorem resend_expired {d : Dev} {rel : Bool} {seq : Nat} {u : Unacked}
    (hfind : (d.lah.unacked.find? fun u => u.rel == rel && u.seq == seq) = some u)
    (hexp : (expiredAt d (resendKind rel) seq).isSome = true) (hring : rel = true → cutting d = false) :
    resend d rel seq = resent d rel seq u := by
  have hstays : (rel && decide (lim (resent d rel seq u) Addr.LAH_RESEND_MAX ≤ u.expiries + 1) &&
      cutting (resent d rel seq u)) = false := by
    rw [cutting_resent]
    cases rel with
    | false => rfl
    | true => rw [hring rfl, Bool.and_false]
  simp only [resend, hfind, hexp, if_true]
  exact if_neg (ne_true_of_eq_false hstays)

/-- R524: a predecessor that is neither fenced nor suspect, and silent for LAH_SUSPECT_TICKS, is suspect. -/
theorem predSuspectStep_suspects {d : Dev} (hring : cutting d = true) (hopen : d.lah.fencedPred = false)
    (hgood : d.lah.predSuspect = false) (hsilent : d.lah.predTick + lim d Addr.LAH_SUSPECT_TICKS ≤ d.tick) :
    predSuspectStep d = alert { d with lah.predSuspect := true } 5 (predAddr d) 0xFF :=
  if_pos (by simp [hring, hopen, hgood, hsilent])

/-- Settles O32: each clause is what the row does on a ring member whose conditions hold. -/
theorem epochRowsComplete : Obligations.EpochRowsComplete := by
  intro s hs
  refine ⟨fun hring hexp => ?epoch, fun hring hexp => ?own,
    fun f hcut hring => ⟨fun hwork hend => ?takes, fun hwork hnew => ?defers⟩,
    fun it rest d1 hwork hslot hitem => ?capture, ?delta, ?release, fun hring hsilent => ?keepalive,
    fun hring hopen hgood hsilent => ?suspect⟩
  case epoch => exact serve_eq_did hs (if_pos (by simp [hring, hexp]))
  case own => exact serve_eq_did hs (if_pos (by simp [hring, hexp]))
  case takes => exact serve_eq_did hs (epochCut_takes hcut hring hwork hend)
  case defers => exact serve_eq_did hs (epochCut_defers hcut hring hwork hnew)
  case capture => exact serve_eq_did (f := fun d => capture d 1) hs (capture_one hwork hslot hitem)
  case delta =>
    intro seq u hfind hexp d1
    exact serve_eq_did (f := fun d => resend d false seq) hs (resend_expired hfind hexp (nomatch ·))
  case release =>
    intro seq u hfind hexp hring d1
    exact serve_eq_did (f := fun d => resend d true seq) hs (resend_expired hfind hexp fun _ => hring)
  case keepalive => exact serve_eq_did hs (if_pos (by simp [hring, hsilent]))
  case suspect => exact serve_eq_did hs (predSuspectStep_suspects hring hopen hgood hsilent)

/-! ## The messages that the ring sends (R513, R515, R519, R523) -/

section Arrivals

variable {d d1 : Dev} {p cycle : Nat} {m : LahMsg}

/-- R515: an acknowledgement of the buddy for the release log ends the records up to its sequence. -/
theorem laharAck_releases {done : List Unacked} (ha : LahAccepted d p m 0x21)
    (h1 : notePred (stampAt (noteSeen d m.src m.type m.tag) (portInput p) 0x05 0 0 m.seq cycle) m.src = d1)
    (hbuddy : m.src = buddyAddr d1) (hrel : m.sub = 1)
    (hdone : (d1.lah.unacked.filter fun u => u.rel == true && !precedes 32 m.seq u.seq) = done) :
    laharAck d p cycle m = ackTokens (buddyBack (done.foldl (fun d u => dropTimer d .release u.seq)
      { d1 with lah.unacked := d1.lah.unacked.filter fun u => !(u.rel == true && !precedes 32 m.seq u.seq) }))
      (done.map (·.seq)) := by
  subst h1 hdone
  have hlog : (m.sub == 1) = true := beq_iff_eq.2 hrel
  refine (lahArrive_ok _ ha).trans ((if_neg (not_not_intro hbuddy)).trans ?_)
  simp only [hlog, resendKind, if_true]

/-- R523: at a buddy the records of the release log join the emitted-token log and are acknowledged. -/
theorem releaseLog_logs {d2 d3 : Dev} (ha : LahAccepted d p m 0x22)
    (h1 : notePred (stampAt (noteSeen d m.src m.type m.tag) (portInput p) 0x06 0 m.part m.seq cycle) m.src = d1)
    (hring : d1.lah.st ≠ 0) (hplace : d1.lah.st ≠ 4) (hpred : m.src = predAddr d1) (hrecs : m.recs ≠ [])
    (h2 : takeRecs d1 true d1.lah.inRel m.seq m.epoch m.recs = d2) (h3 : drainTokens d2 (d2.lah.early.length + 1) = d3) :
    releaseLog d p cycle m = sendAck d3 true ((d3.lah.inRel + 2 ^ 32 - 1) % 2 ^ 32) (newestImage d3) := by
  subst h2 h3
  have hbuddy : (d1.lah.st == 4 || d1.lah.st == 0) = false := by simp [hring, hplace]
  refine (lahArrive_ok _ ha).trans ?_
  simp only [h1, hbuddy, Bool.false_eq_true, if_false]
  simp only [if_pos hpred, List.isEmpty_eq_false_iff.2 hrecs, Bool.false_eq_true, if_false]

/-- R515, R519: at a buddy the records of its predecessor are applied in their order and acknowledged. -/
theorem laharDelta_applies {d2 : Dev} (ha : LahAccepted d p m 0x20)
    (h1 : notePred (stampAt (noteSeen d m.src m.type m.tag) (portInput p) 0x06 0 m.part m.seq cycle) m.src = d1)
    (hring : d1.lah.st ≠ 0) (hplace : d1.lah.st ≠ 4) (hpred : m.src = predAddr d1) (hrecs : m.recs ≠ [])
    (h2 : takeRecs d1 false d1.lah.inSeq m.seq m.epoch m.recs = d2) :
    laharDelta d p cycle m = ackDelta (drainEarly d2 (d2.lah.early.length + 1)) := by
  subst h2
  refine (lahArrive_ok _ ha).trans ?_
  simp only [h1, if_neg hplace]
  simp only [if_pos (And.intro hring hpred), List.isEmpty_eq_false_iff.2 hrecs, Bool.false_eq_true, if_false]

end Arrivals

/-- R513: the oldest ended epoch, none of whose units is under way, is committed, and its END acknowledged. -/
theorem epochCommit_commits {d : Dev} {q : Nat} {i : ShadowImg} (hended : d.lah.ended = [(q, i)])
    (hthere : (d.pg.xfers.any fun x => x.kind == .shadow && (i.recs.filterMap (·.2)).contains x.addr) = false) :
    epochCommit d i.epoch =
      let d1 := sweepShadow { d with
        lah.ended := [], lah.images := i :: d.lah.images.take 1,
        lah.tokLog := d.lah.tokLog.filter fun t => decide (i.epoch < t.2.2.2) }
      sendAck d1 false (ackableSeq d1) i.epoch := by
  simp only [epochCommit, hended, hthere, ne_eq, not_true, Bool.false_eq_true, or_self, if_false]

/-- Settles O34: each clause is what the device does with the message, or with the epoch, that its conditions describe. -/
theorem ringMessagesComplete : Obligations.RingMessagesComplete := by
  intro s p cycle m hs
  refine ⟨?ack, ?log, ?delta, fun q i hended hthere => ?commit⟩
  case ack =>
    intro ha d1 hbuddy hrel done
    exact serve_eq_did (f := fun d => laharAck d p cycle m) hs (laharAck_releases ha rfl hbuddy hrel rfl)
  case log =>
    intro ha d1 hring hplace hpred hrecs d2 d3
    exact serve_eq_did (f := fun d => releaseLog d p cycle m) hs (releaseLog_logs ha rfl hring hplace hpred hrecs rfl rfl)
  case delta =>
    intro ha d1 hring hplace hpred hrecs d2
    exact serve_eq_did (f := fun d => laharDelta d p cycle m) hs (laharDelta_applies ha rfl hring hplace hpred hrecs rfl)
  case commit => exact serve_eq_did (f := fun d => epochCommit d i.epoch) hs (epochCommit_commits hended hthere)

end Sys2Proof.Machine
end

section
/-!
PROOFS. The snapshot and recovery family, the operator's commands: RECOVERY_GROUP_SET, FAILOVER, TAKEOVER, CHECKPOINT_WRITE and
CHECKPOINT_RESTORE (R503, R504, R525 to R527, R532 to R535).
-/

namespace Sys2Proof.Machine

section Commands

variable {s : State} {h : CmdHdr} (hb : ByOperator s h) (hfum : s.dev.pwr.fumarole = false)
include hb hfum

/-! ## RECOVERY_GROUP_SET, FAILOVER and TAKEOVER (R503, R504, R525 to R527) -/

/-- R503, R504: a device alone joins a ring with a shadow and streams that begin anew. -/
theorem recoveryGroupSet_joins {ring n self slots pred buddy rel : Nat} (hn : 2 ≤ n) (hn' : n ≤ 64) (hself : self < n)
    (hslots : shadowSlotsOk s.dev slots = true) (hpred : pred < 2 ^ 24) (hbuddy : buddy < 2 ^ 24) (hrel : 1 ≤ rel)
    (hrel' : rel ≤ 1024) (htier : (part s.dev 0).tierKeys ≠ []) (hrepl : (part s.dev 0).replKeys ≠ [])
    (halone : s.dev.lah.st = 0) : recoveryGroupSet s.dev h ring n self slots pred buddy rel =
      reply (armEpoch (startStreams (startShadow
        { setRoute (setRoute s.dev 4080 (some ⟨pred, 3, 0xFF⟩)) 4081 (some ⟨buddy, 3, 0xFF⟩) with
          lah.ringId := ring, lah.members := n, lah.self := self, lah.shadowSlots := slots, lah.releaseTicks := rel,
          lah.lastCut := s.dev.tick }))) h 0x0601 stOk := by
  refine (onChannel_operator hb 0x0601 true _).trans ((checked_ok h 0x0601 _ ?checks).trans ?_)
  case checks =>
    simp only [firstFail, hslots, hfum, halone, decide_eq_false (Nat.not_lt.2 hn), decide_eq_false (Nat.not_lt.2 hn'),
      decide_eq_false (Nat.not_le.2 hself), decide_eq_false (Nat.not_le.2 hpred), decide_eq_false (Nat.not_le.2 hbuddy),
      beq_eq_false_iff_ne.2 (Nat.ne_of_gt hrel), decide_eq_false (Nat.not_lt.2 hrel'), List.isEmpty_eq_false_iff.2 htier,
      List.isEmpty_eq_false_iff.2 hrepl, Bool.not_true, Bool.or_self, Nat.reduceBEq, Bool.false_eq_true, if_false]
  have hzero : (s.dev.lah.st == 0) = true := beq_iff_eq.2 halone
  simp only [hzero, Bool.true_or, if_true]
  rfl

/-- R525: the newest image of the predecessor becomes the one that is built on, and the answer names its epoch. -/
theorem failover_takes {i : ShadowImg} {r : List ShadowImg} (himage : s.dev.lah.images = i :: r) :
    failover s.dev h = replyBody (sweepShadow { setRoute s.dev 4080 none with
      lah.fencedPred := true, lah.building := i.recs, lah.ended := [], lah.early := [], lah.predSuspect := false })
      h 0x0602 stOk (leBytes 5 i.epoch ++ leBytes 3 0 ++ leBytes 4 (imageSessions i.recs) ++ leBytes 4 0) := by
  refine (onChannel_operator hb 0x0602 true _).trans ((if_neg (ne_true_of_eq_false hfum)).trans ?_)
  simp only [himage]

/-- R525: without an image there is no step to take over from. -/
theorem failover_none (himage : s.dev.lah.images = []) :
    failover s.dev h = reply s.dev h 0x0602 (stw stNoStep 0) := by
  refine (onChannel_operator hb 0x0602 true _).trans ((if_neg (ne_true_of_eq_false hfum)).trans ?_)
  simp only [himage]

/-- R526, R527 (log 29): a spare sets the route of the buddy and waits for the image. -/
theorem takeover_waits {buddy : Nat} (ring epoch self : Nat) (hbuddy : buddy < 2 ^ 24) (hspare : isSpare s.dev = true) :
    takeover s.dev h buddy ring epoch self = { setRoute s.dev 4081 (some ⟨buddy, 3, 0xFF⟩) with
      lah.st := 4, lah.ringId := ring, lah.self := self, lah.inSeq := 0, lah.inRel := 0, lah.early := [],
      lah.building := [], lah.ended := [], lah.tokLog := [], lah.takeover := some (h, epoch) } :=
  (onChannel_operator hb 0x0603 true _).trans
    (checked_ok h 0x0603 _ (by simp only [firstFail, decide_eq_false (Nat.not_le.2 hbuddy), hspare, hfum, Bool.not_true,
      Bool.or_self, Bool.false_eq_true, if_false]))

/-! ## CHECKPOINT_WRITE and CHECKPOINT_RESTORE (R532 to R535) -/

/-- The image of a retained epoch that a checkpoint writes to a slot (R532, R533). -/
def ckptImage (d : Dev) (sl epoch : Nat) : CkptImg :=
  ⟨sl, (slot d sl).addr, (d.lah.self + d.lah.members - 1) % d.lah.members, d.lah.ringId, d.lah.members, epoch, true, [], []⟩

/-- R532, R533: a checkpoint of a retained epoch reads every unit that the image names. -/
theorem checkpointWrite_reads {epoch sl : Nat} {im : ShadowImg} (hepoch : epoch ≠ 2 ^ 40 - 1)
    (himage : (s.dev.lah.images.find? fun i => i.epoch == epoch) = some im) (hsl : sl < 16) (hbound : (slot s.dev sl).st ≠ 0)
    (hunits : (shareRepeats [] im.recs).filterMap (·.2) ≠ []) : checkpointWrite s.dev h epoch sl =
      ((shareRepeats [] im.recs).filterMap (·.2)).foldl (fun d a => issueRead d 0 (mkXfer .imageRead 0 a [] h.seq))
        { s.dev with
          lah.jobs := s.dev.lah.jobs ++
            [⟨h, 0x0604, stOk, [], some (ckptImage s.dev sl epoch), shareRepeats [] im.recs⟩] } := by
  refine (onChannel_operator hb 0x0604 true _).trans ((if_neg (ne_true_of_eq_false hfum)).trans ?_)
  simp only [if_neg hepoch, himage, if_neg (not_or.2 ⟨Nat.not_le.2 hsl, hbound⟩), List.isEmpty_eq_false_iff.2 hunits,
    Bool.false_eq_true, if_false]
  rfl

/-- R534, R535 (log 41): a restore reads the images that stand in a bound slot. -/
theorem checkpointRestore_restores {ring sl n m j : Nat} (hsl : sl < 16) (hbound : (slot s.dev sl).st ≠ 0) (hn : 2 ≤ n)
    (hn' : n ≤ 64) (hm : 2 ≤ m) (hm' : m ≤ 64) (hj : j < m) :
    checkpointRestore s.dev h ring sl n m j = restoreFrom (freeNext s.dev) h (imagesOf s.dev sl ring n) n m j :=
  (onChannel_operator hb 0x0605 true _).trans (checked_ok h 0x0605 _ (by
    simp only [firstFail, hfum, decide_eq_false (Nat.not_le.2 hsl), beq_eq_false_iff_ne.2 hbound,
      decide_eq_false (Nat.not_lt.2 hn), decide_eq_false (Nat.not_lt.2 hn'), decide_eq_false (Nat.not_lt.2 hm),
      decide_eq_false (Nat.not_lt.2 hm'), decide_eq_false (Nat.not_le.2 hj), Bool.or_self, Bool.false_eq_true, if_false]))

end Commands

section Restore

variable (d : Dev) (h : CmdHdr) {is : List CkptImg} {n m j : Nat}

/-- R534, R535: the only epoch that every shard has complete is restored, and the answer says whether there are others. -/
theorem restoreFrom_one {d1 : Dev} {e : Nat} {ents : List Byte} {mine : List CkptImg} (hwhole : wholeEpochs is n = [e])
    (hmine : (is.filter fun c => c.epoch == e && c.shard % m == j) = mine)
    (hopen : (mine.any fun c => c.recs.any fun r => r.rtype == 0x01 && gatedAlone d r.part) = false)
    (hshards : restoreShards d h.seq mine = .ok (ents, d1)) :
    restoreFrom d h is n m j = settleJobs { d1 with lah.jobs := d1.lah.jobs ++
      [⟨h, 0x0605, if 1 < (dedup (is.map (·.epoch))).length then stw stOk stMixed else stOk,
        leBytes 5 e ++ leBytes 3 0 ++ leBytes 4 (ents.length / 24) ++ leBytes 4 0 ++ ents, none, []⟩] } := by
  subst hmine
  simp only [restoreFrom, hwhole, List.foldl_cons, List.foldl_nil, hopen, hshards, Bool.false_eq_true, if_false]

/-- R535: without an epoch that every shard has complete there is nothing to restore. -/
theorem restoreFrom_none (hwhole : wholeEpochs is n = []) :
    restoreFrom d h is n m j = reply d h 0x0605 (stw stNoStep 0) := by
  simp only [restoreFrom, hwhole, List.foldl_nil]

end Restore

/-- Settles O35: each clause is what the command does where its checks pass. That a spare under TAKEOVER sets its buddy's
route and sends nothing is log 29, that a restore sees the images which other controllers wrote to the target is log 41. -/
theorem recoveryCommandsComplete : Obligations.RecoveryCommandsComplete := by
  intro s h hb hfum
  refine ⟨fun ring n self slots pred buddy rel hn hn' hself hslots hpred hbuddy hrel hrel' htier hrepl halone => ?group,
    fun i r himage => ?failover, fun himage => ?noImage, fun buddy ring epoch self hbuddy hspare => ?takeover, ?write,
    fun ring sl n m j hsl hbound hn hn' hm hm' hj => ?restore, ?one, fun d is n m j hwhole => restoreFrom_none d h hwhole⟩
  case group =>
    exact serve_eq_did (f := fun d => recoveryGroupSet d h ring n self slots pred buddy rel) hb.1
      (recoveryGroupSet_joins hb hfum hn hn' hself hslots hpred hbuddy hrel hrel' htier hrepl halone)
  case failover => exact serve_eq_did (f := fun d => failover d h) hb.1 (failover_takes hb hfum himage)
  case noImage => exact serve_eq_did (f := fun d => failover d h) hb.1 (failover_none hb hfum himage)
  case takeover =>
    exact serve_eq_did (f := fun d => takeover d h buddy ring epoch self) hb.1
      (takeover_waits hb hfum ring epoch self hbuddy hspare)
  case write =>
    intro epoch sl im hepoch himage hsl hbound hunits i
    exact serve_eq_did (f := fun d => checkpointWrite d h epoch sl) hb.1
      (checkpointWrite_reads hb hfum hepoch himage hsl hbound hunits)
  case restore =>
    exact serve_eq_did (f := fun d => checkpointRestore d h ring sl n m j) hb.1
      (checkpointRestore_restores hb hfum hsl hbound hn hn' hm hm' hj)
  case one =>
    intro d d1 is n m j e ents hwhole mine hopen hshards st
    exact restoreFrom_one d h hwhole rfl hopen hshards

end Sys2Proof.Machine
end

section
/-!
PROOFS. The host link and commands family: the queue of commands (log 1), packets and windows (R544 to R548), and the intake with
its bounds (R549).
-/

namespace Sys2Proof.Machine

/-- Settles O1: a step is defined by the two forms of the queue (log 1). -/
theorem stepRunsFrontCommand : Obligations.StepRunsFrontCommand := fun _ _ _ => ⟨rfl, rfl⟩

/-! ## The intake (R549) -/

/-- R549: with those that the tick has taken, at most 64 commands. -/
theorem pickIntake_length (d : Dev) (ts : List Stamped) (used : List Nat) :
    (pickIntake d ts used).length ≤ 64 - used.length := by
  induction ts generalizing used with
  | nil => exact Nat.zero_le _
  | cons t r ih =>
    simp only [pickIntake]
    split_ifs with hfull htake
    · exact Nat.zero_le _
    · have hrest := ih (chanPart d t.chan :: used)
      simp only [List.length_cons] at hrest ⊢
      omega
    · exact ih used

/-- R549: commands are taken in the order of their stamps. -/
theorem pickIntake_sublist (d : Dev) (ts : List Stamped) (used : List Nat) : (pickIntake d ts used).Sublist ts := by
  induction ts generalizing used with
  | nil => exact List.Sublist.slnil
  | cons t r ih =>
    simp only [pickIntake]
    split_ifs
    · exact List.nil_sublist _
    · exact (ih _).cons_cons t
    · exact (ih used).cons t

/-- R549: a command that is taken was stamped before the cutoff of the previous tick. -/
theorem pickIntake_ready (d : Dev) {t : Stamped} (ts : List Stamped) (used : List Nat) (ht : t ∈ pickIntake d ts used) :
    intakeReady d t = true := by
  induction ts generalizing used with
  | nil => cases ht
  | cons u r ih =>
    simp only [pickIntake] at ht
    split_ifs at ht with hfull htake
    · cases ht
    · rcases List.mem_cons.1 ht with rfl | hrest
      · exact (Bool.and_eq_true_iff.1 htake).1
      · exact ih _ hrest
    · exact ih used ht

/-- Settles O39: the bound, the order and the cutoff of an intake. -/
theorem intakeIsBounded : Obligations.IntakeIsBounded := fun d =>
  ⟨pickIntake_length d d.host.stamped [], pickIntake_sublist d d.host.stamped [],
    fun _ => pickIntake_ready d d.host.stamped []⟩

/-- R549: with an active plan, the management cores take the commands of a tick once. -/
theorem commandIntake_takes {d : Dev} {p : Plan} (hplan : d.plan.active = some p) (hopen : d.obs.draining = false)
    (hslot : mgmtSlot d = true) (honce : d.host.lastIntake ≠ some d.tick) :
    commandIntake d = (pickIntake d d.host.stamped []).foldl takeOne { d with
      host.lastIntake := some d.tick
      host.stamped := d.host.stamped.filter fun t => !((pickIntake d d.host.stamped []).any fun u => u.seq == t.seq) } :=
  if_neg (by simp [hplan, hopen, hslot, honce])

/-! ## Packets and windows (R544 to R548) -/

section Packets

variable {d : Dev} (cycle : Nat) {bytes : List Byte} (hup : (port d 56).st = 2) (hlen : field bytes 4 4 = bytes.length)
  (hkind : field bytes 2 1 = 0)
include hup hlen hkind

/-- R545: the link message is a packet of the length that it states. -/
theorem packet_lawful : ¬ ((port d 56).st ≠ 2 ∨ field bytes 4 4 ≠ bytes.length ∨ field bytes 2 1 ≠ 0) := by
  simp [hup, hlen, hkind]

/-- R544: a packet on a channel that no partition has is counted. -/
theorem packetArrival_unknown (hchan : tget d.host.chans (field bytes 0 2) = none) :
    packetArrival d cycle bytes = bump d Addr.HLK_BAD_CHAN_CNT := by
  refine (if_neg (packet_lawful hup hlen hkind)).trans ?_
  simp only [hchan]

/-- R546, R548: a packet within its channel's window is stamped as a command and waits for the intake; a SESSION_DESTROY keeps what
earlier attaches are to see (R279). -/
theorem packetArrival_stamps {ch : Chan} {d1 d2 : Dev} (hchan : tget d.host.chans (field bytes 0 2) = some ch)
    (hroom : ch.inHeld + bytes.length / 16 ≤ 131072) (hop : field (bytes.drop 16) 0 2 ≠ 0x0402)
    (h1 : bindWakes (stampAt d 1 0x01 0 ch.part (field (bytes.drop 16) 4 4) cycle) (field (bytes.drop 16) 0 2) = d1)
    (h2 : { d1 with
      host.chans := tset d1.host.chans (field bytes 0 2) { ch with inHeld := ch.inHeld + bytes.length / 16 }
      host.stamped := d1.host.stamped ++ [⟨d.led.next, d1.tick, cycle, field bytes 0 2, bytes.drop 16⟩] } = d2) :
    packetArrival d cycle bytes = if field (bytes.drop 16) 0 2 = 0x0102
      then destroyStamped d2 ch.part (field (bytes.drop 16) 16 8) d.led.next else d2 := by
  subst h1 h2
  refine (if_neg (packet_lawful hup hlen hkind)).trans ?_
  simp only [hchan, if_neg (Nat.not_lt.2 hroom), beq_eq_false_iff_ne.2 hop, Bool.false_eq_true, if_false]

end Packets

/-- R546: a WINDOW message on a channel that no queue waits for adds its credits. -/
theorem windowArrival_adds {d d1 : Dev} {c cycle : Nat} {ch : Chan} (n : Nat) (hup : (port d 56).st = 2)
    (hchan : tget d.host.chans c = some ch) (hquiet : queuesOn d c = []) (h1 : stampAt d 1 0x07 0 ch.part c cycle = d1) :
    windowArrival d cycle c n = { d1 with
      host.chans := tset d1.host.chans c { ch with outWin := min (ch.outWin + n) 0xFFFFFFFF } } := by
  subst h1
  refine (if_neg (not_not_intro hup)).trans ?_
  simp only [hchan, hquiet, List.filter_nil, List.foldl_nil]

/-- Settles O38: each clause is what the device does with the message that arrives, and the intake of a tick. -/
theorem hostLinkRowsComplete : Obligations.HostLinkRowsComplete := by
  intro s hs
  refine ⟨?stamps, fun cycle bytes hup hlen hkind hchan => ?unknown, ?window, ?intake⟩
  case stamps =>
    intro cycle bytes ch hup hlen hkind hchan hroom hop d d1
    exact serve_eq_did (f := fun d => packetArrival d cycle bytes) hs
      (packetArrival_stamps cycle hup hlen hkind hchan hroom hop rfl rfl)
  case unknown =>
    exact serve_eq_did (f := fun d => packetArrival d cycle bytes) hs (packetArrival_unknown cycle hup hlen hkind hchan)
  case window =>
    intro cycle c n ch hup hchan hquiet d
    exact serve_eq_did (f := fun d => windowArrival d cycle c n) hs (windowArrival_adds n hup hchan hquiet rfl)
  case intake =>
    intro p hplan hopen hslot honce ts
    exact serve_eq_did hs (commandIntake_takes hplan hopen hslot honce)

end Sys2Proof.Machine
end

section
/-!
PROOFS. Register accesses: writes that take effect and writes that are refused (R584, R585, R592, R595), pairs (R589, R590),
posted writes (R591), the error log (R594 to R598) and the management port (R581, R582, R690).
-/

namespace Sys2Proof.Machine

/-! ## What a register access does once its address is found (R583 to R587) -/

section Mapped

variable {d : Dev} {m a : Nat} {row : RegRow} {v : Word} (hal : a % 4 = 0) (hrow : regRowAt a = some row)
  (hblock : blockAnswers d a = true) (hprv : (row.prv && !privileged m) = false)
include hal hrow hblock hprv

/-- R584, R587: an aligned write of 32 bits by a master that may write goes by the register's type. -/
theorem writeReg_mapped (hans : answers d m = true) : writeReg d m a 4 v = writeOpen d m a row.kind v := by
  simp [writeReg, hans, hal, hrow, hblock, hprv]

/-- R585, R586: an aligned read by a master that may read goes by the register's type. -/
theorem readReg_mapped : readReg d m a = readOpen d m a row.kind := by
  simp [readReg, hal, hrow, hblock, hprv]

end Mapped

section Refused

variable {d : Dev} {m a : Nat} {v : Word} (hans : answers d m = true)
include hans

/-- R584: an address that is no multiple of the width. -/
theorem writeReg_misaligned (hal : a % 4 ≠ 0) : writeReg d m a 4 v = refuseWrite d m 0x0305 a := by
  simp [writeReg, hans, hal]

/-- R585: an address with no register. -/
theorem writeReg_unmapped (hal : a % 4 = 0) (hrow : regRowAt a = none) :
    writeReg d m a 4 v = refuseWrite d m 0x0301 a := by
  simp [writeReg, hans, hal, hrow]

/-- R583: a register whose block does not answer. -/
theorem writeReg_unanswered (hal : a % 4 = 0) (hrow : (regRowAt a).isSome = true) (hblock : blockAnswers d a = false) :
    writeReg d m a 4 v = refuseWrite d m 0x0301 a := by
  obtain ⟨row, hrow⟩ := Option.isSome_iff_exists.1 hrow
  simp [writeReg, hans, hal, hrow, hblock]

/-- R585: a privileged register written by a master that is not privileged. -/
theorem writeReg_unprivileged {row : RegRow} (hal : a % 4 = 0) (hrow : regRowAt a = some row)
    (hblock : blockAnswers d a = true) (hprv : row.prv = true) (hm : privileged m = false) :
    writeReg d m a 4 v = refuseWrite d m 0xC002 a := by
  simp [writeReg, hans, hal, hrow, hblock, hprv, hm]

end Refused

/-! ## The error log (R594 to R598, R603) -/

/-- The device with an entry of the log that is overwritten unconsumed counted (R598). -/
def countOverwrite (d : Dev) : Dev := match tget d.reg.errlog (d.reg.wptr % 4096) with
  | some e => if errUnconsumed d e then bump d Addr.GLB_ERRLOG_OVF else d
  | none => d

/-- Counting an overwritten entry changes registers' values alone, so the log and its pointer stay. -/
theorem countOverwrite_cases (d : Dev) : countOverwrite d = d ∨ countOverwrite d = bump d Addr.GLB_ERRLOG_OVF := by
  unfold countOverwrite
  split
  · split_ifs
    · exact .inr rfl
    · exact .inl rfl
  · exact .inl rfl

/-- R598: an unconsumed entry is counted when it is overwritten. -/
theorem countOverwrite_counts {d : Dev} {e : ErrEnt} (he : tget d.reg.errlog (d.reg.wptr % 4096) = some e)
    (hun : errUnconsumed d e = true) : countOverwrite d = bump d Addr.GLB_ERRLOG_OVF := by
  simp only [countOverwrite, he, hun, if_true]

@[simp] theorem countOverwrite_errlog (d : Dev) : (countOverwrite d).reg.errlog = d.reg.errlog := by
  exact (countOverwrite_cases d).elim (congrArg (·.reg.errlog) ·) (congrArg (·.reg.errlog) ·)

@[simp] theorem countOverwrite_wptr (d : Dev) : (countOverwrite d).reg.wptr = d.reg.wptr := by
  exact (countOverwrite_cases d).elim (congrArg (·.reg.wptr) ·) (congrArg (·.reg.wptr) ·)

@[simp] theorem countOverwrite_tick (d : Dev) : (countOverwrite d).tick = d.tick := by
  exact (countOverwrite_cases d).elim (congrArg (·.tick) ·) (congrArg (·.tick) ·)

/-- R598: no register but the counter of overwritten entries changes. -/
theorem regGet_countOverwrite {d : Dev} {b : Nat} (hb : b ≠ Addr.GLB_ERRLOG_OVF) :
    regGet (countOverwrite d) b = regGet d b := by
  rcases countOverwrite_cases d with h | h <;> rw [h]
  rw [bump, bumpBy, regGet_regSet, if_neg hb]

/-- R594: the device with an entry at index `i` and the write pointer advanced. -/
def appendEntry (d : Dev) (i : Nat) (e : ErrEnt) : Dev :=
  { d with reg.errlog := tset d.reg.errlog i e, reg.wptr := (d.reg.wptr + 1) % 2 ^ 32 }

@[simp] theorem regGet_appendEntry (d : Dev) (i : Nat) (e : ErrEnt) (b : Nat) :
    regGet (appendEntry d i e) b = regGet d b := rfl

/-- R596, R597: the entry of a refused write. -/
def refusedEntry (d : Dev) (m status a : Nat) : ErrEnt :=
  ⟨d.reg.wptr, status, 0x40 + m, 0xFF, d.tick, 0xFFFFFFFFFFFF, 0, a⟩

/-- R594, R595, R603: a refused write appends its entry and sets the alert bit. -/
theorem refuseWrite_eq (d : Dev) (m status a : Nat) : refuseWrite d m status a =
    regSet (appendEntry (countOverwrite d) (d.reg.wptr % 4096) (refusedEntry (countOverwrite d) m status a))
      Addr.GLB_ALERT_STATUS (regGet (countOverwrite d) Addr.GLB_ALERT_STATUS ||| 1) := rfl

theorem refusedEntry_countOverwrite (d : Dev) (m status a : Nat) :
    refusedEntry (countOverwrite d) m status a = refusedEntry d m status a := by
  simp only [refusedEntry, countOverwrite_wptr, countOverwrite_tick]

section Entry

variable (d : Dev) (m status a : Nat)

/-- R594: the log of a refused write. -/
theorem refuseWrite_errlog : (refuseWrite d m status a).reg.errlog =
    tset d.reg.errlog (d.reg.wptr % 4096) (refusedEntry d m status a) := by
  rw [refuseWrite_eq, refusedEntry_countOverwrite]
  exact congrArg (tset · _ _) (countOverwrite_errlog d)

/-- R594: the write pointer advances. -/
theorem refuseWrite_wptr : (refuseWrite d m status a).reg.wptr = (d.reg.wptr + 1) % 2 ^ 32 := by
  rw [refuseWrite_eq]
  exact congrArg (fun w => (w + 1) % 2 ^ 32) (countOverwrite_wptr d)

/-- R598, R603: of the registers, a refused write changes the alert status and the counter of overwritten entries alone. -/
theorem regGet_refuseWrite (b : Nat) : regGet (refuseWrite d m status a) b =
    if b = Addr.GLB_ALERT_STATUS then regGet (countOverwrite d) Addr.GLB_ALERT_STATUS ||| 1
    else regGet (countOverwrite d) b := by
  rw [refuseWrite_eq, regGet_regSet, regGet_appendEntry]

end Entry

/-- R603: bit 0 of a word with bit 0 set. -/
theorem bit_or_one (w : Word) : bit (w ||| 1).toNat 0 = true := by
  simp [bit]

/-- Settles O14, for the entry that a refused write logs (R595): its fields are those of R596 and R597. -/
theorem errorLogEntryWritten : Obligations.ErrorLogEntryWritten := by
  intro d m status a
  refine ⟨?_, fun i hi => ?_, refuseWrite_wptr d m status a, ?_, fun e he hun => ?_, errLog_sess .., errLog_pg ..,
    errLog_led .., errLog_nv ..⟩
  · rw [refuseWrite_errlog]
    exact tget_tset_self ..
  · rw [refuseWrite_errlog]
    exact tget_tset_ne _ _ _ _ hi
  · rw [rd, regGet_refuseWrite, if_pos rfl]
    exact bit_or_one _
  · rw [rd, regGet_refuseWrite, if_neg (by decide), countOverwrite_counts he hun, bump, bumpBy, regGet_regSet_self,
      BitVec.toNat_ofNat, Nat.mod_eq_of_lt (by omega)]

/-! ## Writes (R584, R585, R592, R595) -/

/-- Settles O13: a lawful write takes effect at once, and a refused one is logged with its status. -/
theorem registerWrites : Obligations.RegisterWrites := by
  refine ⟨fun s m a row v hrun hans hal hrow hkind hblock hprv hlo hhi hcap hsample hok => ⟨?_, regGet_regSet_self _ a v,
    fun b hb => (regGet_regSet _ a b v).trans (if_neg hb)⟩, fun s m a v hrun hans => ⟨fun hal => ?_, fun hal hrow => ?_,
    fun hal hrow hblock => ?_, fun row hal hrow hblock hprv hm => ?_,
    fun row hal hrow hblock hm hkind hlo hhi hbad => ?_, fun b halert hovf st => ?_⟩⟩
  · refine run_eq_did (f := fun d => writeReg d m a 4 v) hrun ?_
    rw [writeReg_mapped hal hrow hblock hprv hans, hkind, writeOpen_rw hlo hhi, if_pos hok, enableRing_other hcap hsample]
  · exact run_eq_did (f := fun d => writeReg d m a 4 v) hrun (writeReg_misaligned hans hal)
  · exact run_eq_did (f := fun d => writeReg d m a 4 v) hrun (writeReg_unmapped hans hal hrow)
  · exact run_eq_did (f := fun d => writeReg d m a 4 v) hrun (writeReg_unanswered hans hal hrow hblock)
  · exact run_eq_did (f := fun d => writeReg d m a 4 v) hrun (writeReg_unprivileged hans hal hrow hblock hprv hm)
  · refine run_eq_did (f := fun d => writeReg d m a 4 v) hrun ?_
    rw [writeReg_mapped hal hrow hblock (by simp [hm]) hans, hkind, writeOpen_rw hlo hhi, if_neg (by simp [hbad])]
  · rw [regGet_refuseWrite, if_neg halert, regGet_countOverwrite hovf]

/-! ## Posted writes (R591) -/

/-- R591: a write to a domain that is BUSY is dropped: DROPPED stands in the domain's status register, and the log has an entry. -/
theorem writeOpen_wp_busy {d : Dev} {m a : Nat} {v : Word} (hbusy : domainBusy d (domainOf a) = true) :
    writeOpen d m a .wp v = refuseWrite (regSet d (domainStatus (domainOf a))
      (regGet d (domainStatus (domainOf a)) ||| 0x40000000)) m 0x0603 a := by
  simp only [writeOpen, writeWP, hbusy, if_true]

/-- R591: the registers of the Mudpot domain are those of its block. -/
theorem block_of_domain_mud {a : Nat} (h : domainOf a = 0) : a / 0x100000 = 8 := by
  unfold domainOf at h
  split at h
  next h8 => exact h8
  all_goals cases h

/-- R591: a posted write to the Mudpot domain changes its register alone. -/
theorem takeEffect_mud {d : Dev} {a : Nat} {v : Word} (h : domainOf a = 0) : takeEffect d a v = regSet d a v := by
  have hblock := block_of_domain_mud h
  have hport : ¬ (0x301000 ≤ a ∧ a < 0x301380) := by omega
  have hhlk : a ≠ Addr.HLK_CTRL := by rintro rfl; revert hblock; decide
  have hmbox : a ≠ Addr.OBS_MBOX_CMD := by rintro rfl; revert hblock; decide
  have hdom : domainOf a ≠ 4 := by omega
  simp only [takeEffect, hport, hhlk, hmbox, hdom, if_false]

/-- Settles O15: a write is posted in its turn, dropped while its domain is BUSY, and takes effect when it is done. -/
theorem postedWritesTakeTurns : Obligations.PostedWritesTakeTurns := by
  intro s m a row v hrun hans hal hrow hkind hblock hprv
  have hwrite : writeReg s.dev m a 4 v = writeOpen s.dev m a .wp v := by
    rw [writeReg_mapped hal hrow hblock hprv hans, hkind]
  refine ⟨fun hidle hok => ⟨?_, ?_⟩, fun hbusy => ?_, fun k hk => ?_, takeEffect_mud⟩
  · exact run_eq_did (f := fun d => writeReg d m a 4 v) hrun (hwrite.trans ((writeOpen_wp hidle).trans (if_pos hok)))
  · exact congrArg Option.isSome (tget_tset_self ..)
  · exact run_eq_did (f := fun d => writeReg d m a 4 v) hrun (hwrite.trans (writeOpen_wp_busy hbusy))
  · exact run_eq_did (f := fun d => postedWriteDone d k) hrun (by simp only [postedWriteDone, hk])

/-! ## Pairs (R589, R590) -/

/-- The register above a _LO is its _HI. -/
theorem isHi_of_isLo {a : Nat} (hlo : isLo a = true) : isHi (a + 4) = true := by
  simpa [isHi, isLo] using hlo

/-- R589: a read of a _HI returns the master's shadow. -/
theorem readReg_hi {d : Dev} {m a : Nat} {row : RegRow} (hal : a % 4 = 0) (hrow : regRowAt a = some row)
    (hblock : blockAnswers d a = true) (hprv : (row.prv && !privileged m) = false) (hhi : isHi a = true) :
    (readReg d m a).1 = if row.kind = .wo then 0 else tgetD d.reg.shadow (ownKey m a) 0 := by
  rw [readReg_mapped hal hrow hblock hprv, readOpen]
  split_ifs <;> rfl

/-- R589: a read of a _LO that is read-only returns its value and copies its _HI. -/
theorem readOpen_lo {d : Dev} {m a : Nat} (hlo : isLo a = true) (hhi : isHi a = false) (hfree : isFree a = false) :
    readOpen d m a .ro = (BitVec.ofNat 32 (viewNat d a), latchHi d m a) := by
  simp [readOpen, hhi, viewReg, hfree, hlo]

/-- R590: a write to a _LO goes into the master's holding. -/
theorem writeOpen_lo {d : Dev} {m a : Nat} {v : Word} (hlo : isLo a = true) :
    writeOpen d m a .rw v = { d with reg.holding := tset d.reg.holding (ownKey m a) v } := if_pos hlo

/-- R590: a write to a _HI commits the pair. -/
theorem writeOpen_hi {d : Dev} {m a : Nat} {v : Word} (hlo : isLo a = false) (hhi : isHi a = true) :
    writeOpen d m a .rw v = commitPair d m a v := by
  simp only [writeOpen, writeRW, hlo, hhi, Bool.false_eq_true, if_false, if_true]

/-- R590: a commit gives both registers of the pair their values at once and no other register. -/
theorem regGet_commitPair (d : Dev) (m a b : Nat) (v : Word) : regGet (commitPair d m (a + 4) v) b =
    if b = a + 4 then v else if b = a then tgetD d.reg.holding (ownKey m a) (regGet d a) else regGet d b := by
  rw [commitPair, regGet_regSet, Nat.add_sub_cancel, regGet_regSet]
  rfl

/-- R590: a commit empties the holding of the pair. -/
theorem commitPair_holding {d : Dev} {m a : Nat} {v : Word} (hsorted : tsorted d.reg.holding = true) :
    tget (commitPair d m (a + 4) v).reg.holding (ownKey m a) = none := by
  change tget (tdel d.reg.holding (ownKey m (a + 4 - 4))) (ownKey m a) = none
  rw [Nat.add_sub_cancel, tget_tdel _ _ hsorted, if_pos rfl]

/-- Settles O16: a _LO read latches its _HI, and a _HI write commits what the master holds. -/
theorem pairsAreConsistent : Obligations.PairsAreConsistent := by
  intro s m a r1 r2 v w hrun hans hal hlo hhi hlo4 hrow1 hrow2 hblock1 hblock2 hprv1 hprv2
  have hal4 : (a + 4) % 4 = 0 := by omega
  have hhi4 := isHi_of_isLo hlo
  have commits (hrw : r2.kind = .rw) : exec (.hiWriteCommit m (a + 4) v) s = did s (commitPair s.dev m (a + 4) v) :=
    run_eq_did (f := fun d => writeReg d m (a + 4) 4 v) hrun (by
      rw [writeReg_mapped hal4 hrow2 hblock2 hprv2 hans, hrw, writeOpen_hi hlo4 hhi4])
  have lowOf {x : Word} (hx : tgetD s.dev.reg.holding (ownKey m a) (regGet s.dev a) = x) :
      regGet (commitPair s.dev m (a + 4) v) a = x :=
    (regGet_commitPair ..).trans ((if_neg (by omega)).trans ((if_pos rfl).trans hx))
  have highOf : regGet (commitPair s.dev m (a + 4) v) (a + 4) = v := (regGet_commitPair ..).trans (if_pos rfl)
  have othersOf : ∀ b, b ≠ a → b ≠ a + 4 → regGet (commitPair s.dev m (a + 4) v) b = regGet s.dev b := fun b hb hb4 =>
    (regGet_commitPair ..).trans ((if_neg hb4).trans (if_neg hb))
  refine ⟨fun hro1 hro2 hfree => ?latch, fun hrw1 hrw2 hheld => ?held, fun hrw1 hrw2 hheld => ?unheld, fun hshadow => ?unread,
    fun hrw1 => ?hold⟩
  case latch =>
    have hread : readReg s.dev m a = (BitVec.ofNat 32 (viewNat s.dev a), latchHi s.dev m a) := by
      rw [readReg_mapped hal hrow1 hblock1 hprv1, hro1, readOpen_lo hlo hhi hfree]
    refine ⟨{ latchHi s.dev m a with reg.readOut := [BitVec.ofNat 32 (viewNat s.dev a)] },
      run_eq_did (f := fun d => readBy d m a) hrun ?_, rfl, ?_, rfl⟩
    · simp only [readBy, hans, if_true, hread]
    · refine (readReg_hi hal4 hrow2 ?_ hprv2 hhi4).trans ?_
      · exact hblock2
      · rw [hro2, if_neg (by decide)]
        exact (tgetD_tset ..).trans (if_pos rfl)
  case held =>
    exact ⟨_, commits hrw2, highOf, lowOf (by simp [tgetD, hheld]), othersOf, commitPair_holding⟩
  case unheld =>
    exact ⟨_, commits hrw2, highOf, lowOf (by simp [tgetD, hheld]), othersOf⟩
  case unread =>
    simp [readReg_hi hal4 hrow2 hblock2 hprv2 hhi4, tgetD, hshadow]
  case hold =>
    refine ⟨{ s.dev with reg.holding := tset s.dev.reg.holding (ownKey m a) w },
      run_eq_did (f := fun d => writeReg d m a 4 w) hrun ?_, tget_tset_self .., rfl⟩
    rw [writeReg_mapped hal hrow1 hblock1 hprv1 hans, hrw1, writeOpen_lo hlo]

/-! ## The management port (R581, R582, R690) -/

/-- Settles O18: SETDASA gives the port its address, and its accesses go by the current address. -/
theorem managementPortAccess : Obligations.ManagementPortAccess := by
  intro s a v hrun
  refine ⟨fun dyn hnone hdyn => ?_, fun haddr => ⟨?_, ?_, ?_, fun k => ?_⟩⟩
  · exact run_eq_did (f := fun d => setdasa d (staticAddr s.dev) dyn) hrun (if_pos ⟨rfl, hnone, hdyn⟩)
  · exact run_eq_did (f := fun d => i3cPrivateWrite d a v) hrun (if_pos haddr)
  · exact run_eq_did (f := fun d => i3cSetAddress d a) hrun (if_pos haddr)
  · exact run_eq_did (f := fun d => i3cPrivateRead d 1) hrun (if_pos haddr)
  · exact run_eq_did (f := fun d => i3cPrivateRead d k) hrun (if_pos haddr)

/-! ## The mailbox requests (R639, R644) -/

/-- R644: a request of the kind that is awaited is completed. -/
theorem completeIf_requested {d : Dev} {r v : Nat} (hreq : d.obs.mbox = some (r, v)) : completeIf r d = completeMbox d :=
  if_pos (by rw [hreq]; rfl)

/-- R644: a request with no meaning. -/
theorem completeMbox_unknown {d : Dev} {r v : Nat} (hreq : d.obs.mbox = some (r, v)) (hunknown : r = 0 ∨ 3 < r) :
    completeMbox d = mboxResult d (stw stOpcode 0) [] := by
  rcases hunknown with rfl | hlarge
  · simp only [completeMbox, hreq]
  · obtain ⟨k, rfl⟩ := Nat.exists_eq_add_of_le' hlarge
    rw [completeMbox, hreq]
    rfl

/-- R639: a chunk of a certificate at a multiple of 64. -/
theorem certResult_chunk (d : Dev) (cert : List Byte) {off : Nat} (hoff : off % 64 = 0) :
    certResult d cert off = mboxResult d stOk (certWords cert off) := if_neg (not_not.2 hoff)

/-- Settles O19; the request completed by either row, the value in force accepted and the layout of a chunk are log 12. -/
theorem mailboxRequestsComplete : Obligations.MailboxRequestsComplete := by
  intro s v hs
  have identity (hreq : s.dev.obs.mbox = some (1, v)) (hoff : v % 64 = 0) :
      completeMbox s.dev = mboxResult s.dev stOk (certWords Config.identityCert v) := by
    simp only [completeMbox, hreq, certResult_chunk _ _ hoff]
  refine ⟨fun hreq hoff => ?_, fun hreq hoff => ?_, fun hreq hlow hhigh hrun hmin => ?_, fun r hreq hunknown => ?_,
    fun hreq hoff => ?_⟩
  · exact serve_eq_did (f := completeIf 1) hs ((completeIf_requested hreq).trans (identity hreq hoff))
  · refine serve_eq_did (f := completeIf 2) hs ((completeIf_requested hreq).trans ?_)
    simp only [completeMbox, hreq, certResult_chunk _ _ hoff]
  · refine serve_eq_did (f := completeIf 3) hs ((completeIf_requested hreq).trans ?_)
    simp only [completeMbox, hreq]
    exact if_pos ⟨hlow, hhigh, hrun, hmin⟩
  · exact serve_eq_did (f := completeMbox) hs (completeMbox_unknown hreq hunknown)
  · exact serve_eq_did (f := completeMbox) hs (identity hreq hoff)

end Sys2Proof.Machine
end

section
/-!
PROOFS. Trust: the delivery of keys (R623 to R625, R638), attestation (R640, R642), telemetry (R632) and latency tolerances (R649).
-/

namespace Sys2Proof.Machine

/-! ## The generations of keys (R624) -/

/-- R624: the newest key of a KIND that partition p holds, with its generation. -/
def newestKey (d : Dev) (p kind : Nat) : Option (Nat × List Byte) :=
  if kind = 0 then (part d p).tierKeys.head?.map fun k => (k.1, k.2.2) else (part d p).replKeys.head?

theorem newestKey_tier (d : Dev) (p : Nat) :
    newestKey d p 0 = (part d p).tierKeys.head?.map fun k => (k.1, k.2.2) := rfl

theorem newestKey_repl (d : Dev) (p : Nat) : newestKey d p 1 = (part d p).replKeys.head? := rfl

/-- R624: a delivery is accepted where the generation held, if any, precedes its own. -/
theorem genOutcome_later {newest : Option (Nat × List Byte)} {gen : Nat} (key : List Byte)
    (hlater : ∀ k ∈ newest, precedes 16 k.1 gen = true) : genOutcome newest gen key = some true := by
  cases newest with
  | none => rfl
  | some k => exact if_pos (hlater k rfl)

/-- R624: the generation held, delivered again with the same key, is answered and nothing changes. -/
theorem genOutcome_held {gen : Nat} (key : List Byte) (hnot : precedes 16 gen gen = false) :
    genOutcome (some (gen, key)) gen key = some false :=
  (if_neg (ne_true_of_eq_false hnot)).trans (if_pos ⟨rfl, rfl⟩)

/-- R624: any other generation that is not later is refused. -/
theorem genOutcome_stale {g gen : Nat} {k key : List Byte} (hnot : precedes 16 g gen = false) (hother : gen ≠ g ∨ key ≠ k) :
    genOutcome (some (g, k)) gen key = none :=
  (if_neg (ne_true_of_eq_false hnot)).trans (if_neg fun hsame => hother.elim (· hsame.1.symm) (· hsame.2.symm))

/-! ## KEY_DELIVER (R623 to R625, R630) -/

section Deliver

variable {s : State} {h : CmdHdr} {kind gen : Nat} {ct wrap : List Byte} (hi : Issued s h)
  (hkeys : productionTest s.dev = false) (hkind : kind ≤ 1)
include hi hkeys hkind

/-- R623: a delivery that does not open. -/
theorem keyDeliver_unopened (hopen : openDelivery s.dev h.part kind gen ct wrap = none) :
    keyDeliver s.dev h kind gen ct wrap = reply s.dev h 0x0902 (stw stSignature 11) := by
  rw [keyDeliver, onChannel_issued hi, if_neg (ne_true_of_eq_false hkeys), if_neg (Nat.not_lt.2 hkind)]
  simp only [hopen]

variable {key : List Byte} (hopen : openDelivery s.dev h.part kind gen ct wrap = some key)
include hopen

/-- R624, R625: a later generation becomes the newest of its KIND. -/
theorem keyDeliver_accepted (hlater : genOutcome (newestKey s.dev h.part kind) gen key = some true) :
    keyDeliver s.dev h kind gen ct wrap = reply (modPart s.dev h.part fun q =>
      if kind = 0 then { q with tierKeys := (gen, s.dev.tick, key) :: keptTier q.tierKeys gen }
      else { q with replKeys := (gen, key) :: q.replKeys.take 1 }) h 0x0902 stOk := by
  rw [newestKey] at hlater
  rw [keyDeliver, onChannel_issued hi, if_neg (ne_true_of_eq_false hkeys), if_neg (Nat.not_lt.2 hkind)]
  simp only [hopen, hlater]

/-- R624: the key held is answered and nothing changes. -/
theorem keyDeliver_held (hheld : genOutcome (newestKey s.dev h.part kind) gen key = some false) :
    keyDeliver s.dev h kind gen ct wrap = reply s.dev h 0x0902 stOk := by
  rw [newestKey] at hheld
  rw [keyDeliver, onChannel_issued hi, if_neg (ne_true_of_eq_false hkeys), if_neg (Nat.not_lt.2 hkind)]
  simp only [hopen, hheld]

/-- R624: a generation that is not later is refused. -/
theorem keyDeliver_refused (hstale : genOutcome (newestKey s.dev h.part kind) gen key = none) :
    keyDeliver s.dev h kind gen ct wrap = reply s.dev h 0x0902 (stw stParam 8) := by
  rw [newestKey] at hstale
  rw [keyDeliver, onChannel_issued hi, if_neg (ne_true_of_eq_false hkeys), if_neg (Nat.not_lt.2 hkind)]
  simp only [hopen, hstale]

/-- R624: what a delivery does against the newest key of its KIND. -/
theorem keyDeliver_compared {g : Nat} {k : List Byte} (hnew : newestKey s.dev h.part kind = some (g, k)) :
    (precedes 16 g gen = true → keyDeliver s.dev h kind gen ct wrap = reply (modPart s.dev h.part fun q =>
      if kind = 0 then { q with tierKeys := (gen, s.dev.tick, key) :: keptTier q.tierKeys gen }
      else { q with replKeys := (gen, key) :: q.replKeys.take 1 }) h 0x0902 stOk) ∧
    (precedes 16 g gen = false → gen = g → key = k →
      keyDeliver s.dev h kind gen ct wrap = reply s.dev h 0x0902 stOk) ∧
    (precedes 16 g gen = false → gen ≠ g ∨ key ≠ k →
      keyDeliver s.dev h kind gen ct wrap = reply s.dev h 0x0902 (stw stParam 8)) := by
  refine ⟨fun hlater => ?_, fun hnot hgen hkey => ?_, fun hnot hother => ?_⟩
  · exact keyDeliver_accepted hi hkeys hkind hopen (hnew ▸ genOutcome_later key (by simpa using hlater))
  · subst hgen hkey
    exact keyDeliver_held hi hkeys hkind hopen (hnew ▸ genOutcome_held key hnot)
  · exact keyDeliver_refused hi hkeys hkind hopen (hnew ▸ genOutcome_stale hnot hother)

end Deliver

/-- Settles O45: a delivery that opens goes by what its generation says against the newest of its KIND. -/
theorem keyGenerationsAreCompared : Obligations.KeyGenerationsAreCompared := by
  intro s h gen ct wrap key hi hkeys
  have row (kind : Nat) {t : Dev} (ht : keyDeliver s.dev h kind gen ct wrap = t) :
      exec (.keyDeliver h kind gen ct wrap) s = did s t :=
    serve_eq_did (f := fun d => keyDeliver d h kind gen ct wrap) hi.1 ht
  refine ⟨fun hopen => ⟨fun hnone => row 0 ?_, fun g t k r hnewest => ?_⟩,
    fun hopen => ⟨fun hnone => row 1 ?_, fun g k r hnewest => ?_⟩⟩
  · refine keyDeliver_accepted hi hkeys (Nat.zero_le 1) hopen ?_
    rw [newestKey_tier, hnone]
    rfl
  · obtain ⟨later, held, stale⟩ := keyDeliver_compared (g := g) (k := k) hi hkeys (Nat.zero_le 1) hopen
      (by rw [newestKey_tier, hnewest]; rfl)
    exact ⟨fun hlater => row 0 (later hlater), fun hnot hgen hkey => row 0 (held hnot hgen hkey),
      fun hnot hother => row 0 (stale hnot hother)⟩
  · refine keyDeliver_accepted hi hkeys (Nat.le_refl 1) hopen ?_
    rw [newestKey_repl, hnone]
    rfl
  · obtain ⟨later, held, stale⟩ := keyDeliver_compared (g := g) (k := k) hi hkeys (Nat.le_refl 1) hopen
      (by rw [newestKey_repl, hnewest]; rfl)
    exact ⟨fun hlater => row 1 (later hlater), fun hnot hgen hkey => row 1 (held hnot hgen hkey),
      fun hnot hother => row 1 (stale hnot hother)⟩

/-! ## OPERATOR_KEY_SET, attestation, telemetry and tolerances (R632, R638, R640 to R643, R649) -/

/-- R638: the first key of the operator is taken. -/
theorem operatorKeySet_takes {d : Dev} {h : CmdHdr} (key : List Byte) (hop : h.part = 0) (hopen : fencedFor d h = false)
    (hnone : d.obs.opKey = none) : operatorKeySet d h key = reply { d with obs.opKey := some key } h 0x0903 stOk := by
  rw [operatorKeySet, onChannel_ok _ _ (by simp [hop]) hopen, if_neg (by simp [hnone])]

section Report

variable {s : State} {h : CmdHdr} (hi : Issued s h)
include hi

/-- R640: the request waits for its turn. -/
theorem attest_waits (nonce : List Byte) (hkeys : productionTest s.dev = false) (hnone : (part s.dev h.part).attesting = none) :
    attest s.dev h nonce = modPart s.dev h.part fun q => { q with attesting := some (h, nonce) } := by
  rw [attest, onChannel_issued hi, if_neg (ne_true_of_eq_false hkeys), if_neg (by simp [hnone])]

/-- R649: a tolerance of the partition, or of the device where partition 0 asks. -/
theorem latencyToleranceSet_sets {scope us : Nat} (hus : us ≤ 10000000) (hscope : scope = 0 ∨ scope = 1 ∧ h.part = 0) :
    latencyToleranceSet s.dev h scope us = reply (if scope = 1 then { s.dev with pwr.tolDevice := us }
      else modPart s.dev h.part fun q => { q with tol := us }) h 0x0A02 stOk := by
  refine (onChannel_issued hi 0x0A02 _).trans (checked_ok h 0x0A02 _ ?_)
  have hprivilege : (scope == 1 && h.part != 0) = false := by
    rcases hscope with rfl | ⟨-, hpart⟩
    · rfl
    · simp [hpart]
  have hknown : ¬ 1 < scope := by omega
  simp only [firstFail, hprivilege, decide_eq_false hknown, decide_eq_false (Nat.not_lt.2 hus), Bool.false_eq_true, if_false]

end Report

/-- R640, R642: the first request in the ledger's order is answered with its report. -/
theorem attestDone_answers {d : Dev} {p : Nat} {c : CmdHdr} {nonce : List Byte}
    (hwaits : (part d p).attesting = some (c, nonce)) (hfirst : attestFirst d c.seq = true) :
    attestDone d p = replyBody (modPart d p fun q => { q with attesting := none }) c 0x0901 stOk
      (leBytes 4 (reportOf d p nonce).length ++ leBytes 12 0 ++ reportOf d p nonce) := by
  simp only [attestDone, hwaits, hfirst, Bool.not_true, Bool.false_eq_true, if_false]

/-- Settles O44: each command's own effect where its checks pass. -/
theorem trustCommandsComplete : Obligations.TrustCommandsComplete := by
  intro s h hi
  have hs := hi.1
  refine ⟨fun gen ct wrap key hkeys hopen hlater => ?_, fun gen ct wrap key hkeys hopen hlater => ?_,
    fun kind gen ct wrap hkeys hkind hopen => ?_, fun key hop hnone => ?_, fun nonce hkeys hnone => ?_,
    fun p c nonce hwaits hfirst => ?_, ?_, fun us hus => ?_, fun us hus hop => ?_⟩
  · refine serve_eq_did (f := fun d => keyDeliver d h 0 gen ct wrap) hs
      (keyDeliver_accepted hi hkeys (Nat.zero_le 1) hopen (genOutcome_later key fun k hk => ?_))
    obtain ⟨held, hheld, rfl⟩ := Option.mem_map.1 hk
    exact hlater held hheld
  · exact serve_eq_did (f := fun d => keyDeliver d h 1 gen ct wrap) hs
      (keyDeliver_accepted hi hkeys (Nat.le_refl 1) hopen (genOutcome_later key hlater))
  · exact serve_eq_did (f := fun d => keyDeliver d h kind gen ct wrap) hs (keyDeliver_unopened hi hkeys hkind hopen)
  · exact serve_eq_did (f := fun d => operatorKeySet d h key) hs (operatorKeySet_takes key hop hi.2 hnone)
  · exact serve_eq_did (f := fun d => attest d h nonce) hs (attest_waits hi nonce hkeys hnone)
  · exact serve_eq_did (f := fun d => attestDone d p) hs (attestDone_answers hwaits hfirst)
  · exact serve_eq_did (f := fun d => telemetryRead d h) hs (onChannel_issued hi 0x0A01 _)
  · exact serve_eq_did (f := fun d => latencyToleranceSet d h 0 us) hs (latencyToleranceSet_sets hi hus (.inl rfl))
  · exact serve_eq_did (f := fun d => latencyToleranceSet d h 1 us) hs (latencyToleranceSet_sets hi hus (.inr ⟨rfl, hop⟩))

end Sys2Proof.Machine
end

section
/-!
PROOFS. Firmware images and the hot handover (R560, R637, R661 to R663).
-/

namespace Sys2Proof.Machine

section Firmware

variable {s : State} {h : CmdHdr} (hb : ByOperator s h)
include hb

/-- R560: a delivery for the standby bank begins; one that ran before begins again (log 18). -/
theorem fwLoad_begins {n : Nat} (hlow : 32560 ≤ n) (hhigh : n ≤ 16809712) (hidle : s.dev.obs.fwCmd = none) :
    fwLoad s.dev h (standbyBank s.dev) n =
      reply { s.dev with obs.fw := ⟨1, n, [], []⟩, obs.fwData := [] } h 0x0809 stOk := by
  refine (onChannel_operator hb 0x0809 true _).trans (checked_ok h 0x0809 _ ?_)
  simp only [firstFail, notStandby, bne_self_eq_false, decide_eq_false (Nat.not_lt.2 hlow),
    decide_eq_false (Nat.not_lt.2 hhigh), hidle, Option.isSome_none, Bool.or_self, Bool.false_eq_true, if_false]

/-- R560: data of the image are written at their offset. -/
theorem fwData_writes {off : Nat} {data : List Byte} (hpass : firstFail (dataChecks s.dev.obs.fw off data) = none) :
    fwData s.dev h (standbyBank s.dev) off data =
      reply { s.dev with obs.fwData := Memory.writeBytes s.dev.obs.fwData off data } h 0x080A stOk := by
  refine (onChannel_operator hb 0x080A true _).trans (checked_ok h 0x080A _ ?_)
  simp only [firstFail, notStandby, bne_self_eq_false, Bool.false_eq_true, if_false, hpass]

/-- The bytes of the image delivered, with its signature block. -/
def fwBytes (d : Dev) : List Byte := Memory.readBytes d.obs.fwData 0 d.obs.fw.length

/-- R637, R661: an image with its digest, a lawful header, its signatures and a lawful SVN goes to the flash, and nothing is
staged until it stands there (log 18). -/
theorem fwCommit_begins {img blk : List Byte} (hst : s.dev.obs.fw.st = 1) (hidle : s.dev.obs.fwCmd = none)
    (hheader : firstFail (fwHeaderChecks ((fwBytes s.dev).take ((fwBytes s.dev).length - 32496))
      ((fwBytes s.dev).drop ((fwBytes s.dev).length - 32496))) = none)
    (hsigned : signedImage s.dev 0 true (cosign s.dev) (fwBytes s.dev) = some (img, blk))
    (hsvn : s.dev.nv.minSvn ≤ field blk 6 2) :
    fwCommit s.dev h (standbyBank s.dev) (sha256 (fwBytes s.dev)) =
      { s.dev with obs.fwCmd := some h, obs.staged := none } := by
  unfold fwBytes at hheader hsigned ⊢
  refine (onChannel_operator hb 0x080B true _).trans ((checked_ok h 0x080B _ ?_).trans ?_)
  · simp only [firstFail, notStandby, bne_self_eq_false, hst, hidle, Option.isSome_none, Bool.or_self, Bool.false_eq_true,
      if_false]
  · simp only [bne_self_eq_false, Bool.false_eq_true, if_false, hheader, hsigned, if_neg (Nat.not_lt.2 hsvn)]

/-- R663: a staged image that carries the running state on begins the handover. -/
theorem fwHandover_begins {x : FwHdr} (hstaged : s.dev.obs.staged = some x)
    (hstate : x.stateMin ≤ s.dev.obs.running.stateVersion) (hfree : handoverBars s.dev = false)
    (hopen : s.dev.obs.draining = false) :
    fwHandover s.dev h = { s.dev with obs.draining := true, obs.handover := some h } := by
  refine (onChannel_operator hb 0x080C true _).trans (checked_ok h 0x080C _ ?_)
  simp only [firstFail, hstaged, decide_eq_true hstate, hfree, hopen, Bool.not_true, Bool.or_self, Bool.false_eq_true,
    if_false]

end Firmware

section Ends

variable {d : Dev} {c : CmdHdr}

/-- R661, R662: the image stands in the flash and is staged. -/
theorem fwCommitDone_stages (hruns : d.obs.fwCmd = some c) :
    let n := (fwBytes d).length - 32496
    let hdr := fwHdrOf ((fwBytes d).take n) ((fwBytes d).drop n)
    fwCommitDone d (standbyBank d) true = reply { d with
      obs.fwCmd := none, obs.fw := { d.obs.fw with st := 2 }, obs.staged := some hdr,
      nv := setBank d.nv (standbyBank d) hdr } c 0x080B stOk := by
  simp only [fwCommitDone, hruns, ne_eq, not_true_eq_false, if_false, if_true]
  rfl

/-- R661: the flash differs from the image, and the bank holds none. -/
theorem fwCommitDone_fails (hruns : d.obs.fwCmd = some c) : fwCommitDone d (standbyBank d) false = reply { d with
    obs.fwCmd := none, nv := setBank d.nv (standbyBank d) ⟨false, 0, 0, 0, []⟩ } c 0x080B (stw stInternal 0) := by
  simp only [fwCommitDone, hruns, ne_eq, not_true_eq_false, if_false, Bool.false_eq_true]

/-- R663: with every other command answered, the staged image runs from its bank. -/
theorem fwHandoverStart_runs {x : FwHdr} (hwaits : d.obs.handover = some c) (hstaged : d.obs.staged = some x)
    (hdrain : d.obs.draining = true) (hdone : drained d c = true) (hmissed : d.plan.missed = true) :
    fwHandoverStart d = reply { d with
      obs.draining := false, obs.handover := none, obs.running := x, obs.staged := none, obs.bank := standbyBank d,
      obs.fw := ⟨0, 0, [], []⟩, obs.fwData := [], nv := { d.nv with bootBank := standbyBank d },
      plan.fwPlan := Config.fumarolePlan x.sigHead } c 0x080C stOk := by
  simp only [fwHandoverStart, hwaits, hstaged, hdrain, hdone, hmissed, Bool.not_true, Bool.false_eq_true, or_self,
    if_false, if_true]

end Ends

/-- Settles O46; a delivery that begins again and the staged image that a commit forgets are log 18. -/
theorem firmwareCommandsComplete : Obligations.FirmwareCommandsComplete := by
  intro s h hb
  have hs := hb.1
  refine ⟨fun n hlow hhigh hidle => ?_, fun off data hpass => ?_, ⟨?commit, ?done⟩,
    fun x hstaged hstate hfree hopen => ?_, fun c x hwaits hstaged hdrain hdone hmissed => ?_⟩
  case commit =>
    intro img blk hst hidle hheader hsigned hsvn
    exact serve_eq_did (f := fun d => fwCommit d h (standbyBank s.dev) (sha256 (fwBytes s.dev))) hs
      (fwCommit_begins hb hst hidle hheader hsigned hsvn)
  case done =>
    intro c hruns
    exact ⟨serve_eq_did (f := fun d => fwCommitDone d (standbyBank s.dev) true) hs (fwCommitDone_stages hruns),
      serve_eq_did (f := fun d => fwCommitDone d (standbyBank s.dev) false) hs (fwCommitDone_fails hruns)⟩
  · exact serve_eq_did (f := fun d => fwLoad d h (standbyBank s.dev) n) hs (fwLoad_begins hb hlow hhigh hidle)
  · exact serve_eq_did (f := fun d => fwData d h (standbyBank s.dev) off data) hs (fwData_writes hb hpass)
  · exact serve_eq_did (f := fun d => fwHandover d h) hs (fwHandover_begins hb hstaged hstate hfree hopen)
  · exact serve_eq_did (f := fwHandoverStart) hs (fwHandoverStart_runs hwaits hstaged hdrain hdone hmissed)

end Sys2Proof.Machine
end

section
/-!
PROOFS. Bring-up and wakes: the boot (R654, R655, R678, R688), the training of a stack (R443, R656), the start of fumarole service,
a lost reference clock (R687), and the end of a wake (R648, R651).
-/

namespace Sys2Proof.Machine

/-! ## The boot (R654, R655, R688) -/

section Boot

variable {d : Dev} (hstage : d.obs.stage = 1) (hstraps : bits d.pwr.straps.toNat 15 5 = 0)
include hstage hstraps

/-- R655: a boot with the flash read back right and lawful straps goes by the banks. -/
theorem boot_banks (ok : List Bool) : boot d true ok =
    if bankPasses d ok d.nv.bootBank then startFirmware d d.nv.bootBank false
    else if bankPasses d ok (1 - d.nv.bootBank) then startFirmware d (1 - d.nv.bootBank) true
    else bootError (bootError (stopBoot d) (stw stSignature 0) d.nv.bootBank) (stw stSignature 0) (1 - d.nv.bootBank) := by
  simp only [boot, hstage, hstraps, ne_eq, not_true_eq_false, if_false, Bool.true_eq_false]

/-- R688: a device whose flash cannot be read stops in stage 1. -/
theorem boot_flashLost (ok : List Bool) : boot d false ok = { d with obs.stage := 0 } := by
  simp only [boot, hstage, hstraps, ne_eq, not_true_eq_false, if_false, if_true, stopBoot]

end Boot

/-! ## HBM_STACK_TRAIN (R443, R654, R656) -/

section Train

variable {d : Dev} {k : Nat} (banks spares : Nat) (hk : k ≤ 7) (hopen : stackSettled d k = false)
  (hbefore : (List.range k).all (stackSettled d) = true)
include hk hopen hbefore

/-- R656: the stacks train in their order, each until it is settled. -/
theorem stack_trains : ¬ (7 < k ∨ stackSettled d k ∨ !((List.range k).all (stackSettled d))) := by
  simp [Nat.not_lt.2 hk, hopen, hbefore]

/-- R443: a stack that trains serves. -/
theorem hbmStackTrain_serves : hbmStackTrain d k true banks spares = servePcs
    { d with hbm.stks := tset d.hbm.stks k ⟨true, (stackAt d k).tries + 1, banks, spares, false⟩ } k :=
  (if_neg (stack_trains hk hopen hbefore)).trans (if_pos rfl)

/-- R656: a stack whose first or second training fails is trained again. -/
theorem hbmStackTrain_retries (htries : (stackAt d k).tries < 2) : hbmStackTrain d k false banks spares =
    { d with hbm.stks := tset d.hbm.stks k { stackAt d k with tries := (stackAt d k).tries + 1 } } :=
  (if_neg (stack_trains hk hopen hbefore)).trans ((if_neg Bool.false_ne_true).trans (if_neg (by omega)))

end Train

/-! ## Fumarole service and wakes (R648, R651, R687) -/

/-- R654: with the host link UP and stack 0 trained, the firmware's plan becomes active. -/
theorem fumaroleStart_serves {d : Dev} {p : Plan} (hnone : d.plan.active = none) (hplan : d.plan.fwPlan = some p)
    (hup : (port d 56).st = 2) (hstack : stackTrained d 0 = true) :
    fumaroleStart d = { activatePlan d p with pwr.fumarole := true } := by
  simp only [fumaroleStart, hnone, hplan, hup, hstack, and_self, if_true]

section Wake

variable {d : Dev} (hwaking : d.pwr.waking = true)
include hwaking

/-- R651: from SIMMER the ports get their widths back. -/
theorem wakeComplete_simmer (hst : d.pwr.st ≠ 2) : wakeComplete d =
    (portsUp { d with pwr.st := 0, pwr.waking := false }).foldl rewidth { d with pwr.st := 0, pwr.waking := false } := by
  simp only [wakeComplete, hwaking, beq_eq_false_iff_ne.2 hst, Bool.not_true, Bool.false_eq_true, if_false]

/-- R651: from DORMANT the ports train again and the stacks leave self-refresh; the power state and the sessions are those that
the wake leaves. -/
theorem wakeComplete_dormant (hst : d.pwr.st = 2) : (wakeComplete d).pwr = { d.pwr with st := 0, waking := false } ∧
    (wakeComplete d).sess = d.sess ∧
    (wakeComplete d).hbm.stks = tmap (fun x => { x with selfRefresh := false }) d.hbm.stks := by
  simp only [wakeComplete, hwaking, hst, Bool.not_true, Bool.false_eq_true, if_false, BEq.rfl, if_true, and_true]
  exact ⟨foldl_keeps Dev.pwr (fun d n => modPort_pwr d n _) _ _, foldl_keeps Dev.sess (fun d n => modPort_sess d n _) _ _⟩

end Wake

/-- Settles O8; a boot that stops for its flash logs nothing (log 13), and a wake lasts until its own row (log 17). -/
theorem bringupRowsComplete : Obligations.BringupRowsComplete := by
  refine ⟨fun s => ⟨fun hrun hstage hstraps => ⟨fun ok hbank => ?_, fun ok hbank hother => ?_, fun ok => ?_⟩,
    fun k banks spares hs hk hopen hbefore => ⟨?_, fun htries => ?_⟩,
    fun p hs hnone hplan hup hstack => ?_, fun k hrun hk hnew => ?_⟩,
    fun s hs => ⟨fun hwaking hst => ?_, fun hwaking hst => ?_, fun n hn hst hen => ?_⟩⟩
  · exact run_eq_did (f := fun d => boot d true ok) hrun ((boot_banks hstage hstraps ok).trans (if_pos hbank))
  · exact run_eq_did (f := fun d => boot d true ok) hrun ((boot_banks hstage hstraps ok).trans
      ((if_neg (ne_true_of_eq_false hbank)).trans (if_pos hother)))
  · exact run_eq_did (f := fun d => boot d false ok) hrun (boot_flashLost hstage hstraps ok)
  · exact serve_eq_did (f := fun d => hbmStackTrain d k true banks spares) hs
      (hbmStackTrain_serves banks spares hk hopen hbefore)
  · exact serve_eq_did (f := fun d => hbmStackTrain d k false banks spares) hs
      (hbmStackTrain_retries banks spares hk hopen hbefore htries)
  · exact serve_eq_did (f := fumaroleStart) hs (fumaroleStart_serves hnone hplan hup hstack)
  · exact run_eq_did (f := fun d => refclkLoss d k) hrun
      (if_neg (not_or.2 ⟨Nat.not_lt.2 hk, ne_true_of_eq_false hnew⟩))
  · exact serve_eq_did (f := wakeComplete) hs (wakeComplete_simmer hwaking hst)
  · obtain ⟨hpwr, hsess, hstks⟩ := wakeComplete_dormant hwaking hst
    exact ⟨_, serve_eq_did (f := wakeComplete) hs rfl, congrArg Power.st hpwr, congrArg Power.waking hpwr, hsess, hstks⟩
  · exact serve_eq_did (f := fun d => partnerTrainingDetect d n) hs (if_pos ⟨hn, hst, hen⟩)

end Sys2Proof.Machine
end
